-- ==== Sys2Proof/Word.lean ====
section
/-! DEFINITION. The two plainest types of the model: a byte of a frame, and a table of records by key. -/

namespace Sys2Proof

/-- One byte of a host frame, a record image or a station frame (R184 to R186). -/
abbrev Byte := BitVec 8

/-- A record table: (key, record) pairs with keys strictly rising. An unconfigured or free slot is an absent key.
The operations that keep the keys rising stand in `Sys2Proof/Machine/Ops.lean`. -/
abbrev Table (α : Type) := List (Nat × α)

end Sys2Proof
end

