-- ==== Sys2Proof/Config.lean ====
section
/-! DEFINITION. What an implementation fixes: the capacities of "Dimensions of the part" (00_scope.md), and the free
values, which are opaque constants with no body (log entry 7). -/

namespace Sys2Proof.Config

/-- Person records (00_scope.md, Dimensions of the part). -/
def maxPersons : Nat := 2048
/-- Grant records. -/
def maxGrants : Nat := 1024
/-- Occupancy record slots, numbered 0..255. -/
def occSlots : Nat := 256
/-- Ordinary alarm places, numbered 0..59 (R135). -/
def alarmPlaces : Nat := 60
/-- Entries of the wait list (R77). -/
def waitPlaces : Nat := 8
/-- Pending passages of one release cycle (R20). -/
def cyclePlaces : Nat := 4
/-- Terms of one release logic table (R113). -/
def maxTerms : Nat := 12
/-- Running seconds holds here (R182). -/
def secondsTop : Nat := 4294967295

/-- FREE VALUE (log entry 7): the tag of the response to a request frame too short to hold a tag byte. R169 gives
the tag of the request answered, and such a request has none. Applied to the counter of free values. -/
opaque freeTag : Nat → Byte

/-- FREE VALUE (log entry 7): the four bytes shown for a running-seconds value above 4294967295. R184 gives such a
value four bytes, which cannot hold it. -/
opaque freeSeconds : Nat → BitVec 32

/-- FREE VALUE (log entry 7): the four time bytes of a last decision NONE, which R35 and R40 give no fields.
Applied to the door's number. -/
opaque freeDecisionTime : Nat → BitVec 32

end Sys2Proof.Config
end

