-- ==== Sys2Proof/Machine/Records.lean ====
section
/-! DEFINITION. The records of every table and the enumerated values in them, in the manual's own order: the byte of
an enumerated value is its position in the list that defines it (R184), and the constructors stand in that order. -/

namespace Sys2Proof

/-! ## Zones (01, R2, R3) -/

/-- Hours override (R2). -/
inductive Override where
  | schedule | forceDay | forceAfter
  deriving DecidableEq, Repr

/-- Hours state (R4). -/
inductive Hours where
  | day | after
  deriving DecidableEq, Repr

/-- Entry state (R84): OPEN, EGRESS_ONLY, FLOODED. -/
inductive EntryState where
  | opened | egressOnly | flooded
  deriving DecidableEq, Repr

/-- Freeze state (R74). -/
inductive Freeze where
  | thawed | requested | held
  deriving DecidableEq, Repr

/-- The configuration fields of a zone record (R2). -/
structure ZoneCfg where
  parent      : Nat
  clearance   : Nat := 0
  capacity    : Nat := 0
  walk        : Nat := 30
  egressDoor  : Option Nat := none
  windows     : List (Nat × Nat) := []
  override    : Override := .schedule
  pairRule    : Bool := false
  pairWindow  : Nat := 20
  pairGrace   : Nat := 120
  checkin     : Nat := 0
  afterGrace  : Nat := 30
  deriving DecidableEq, Repr

/-- A configured zone: its configuration and its stored live fields (R3, R74, R84). The occupant count and the
reservations are computed views (log entry 4). `orphan`: the zone failed its check with a stored parent that the tree
cannot use, and is a child of zone 0 until it is rewritten (R14). `checkOk`, here and in every stored record, says that
the stored check value agrees with the stored fields (R178, R181). -/
structure ZoneRec where
  cfg      : ZoneCfg
  hours    : Hours
  entry    : EntryState := .opened
  verified : Bool := false
  freeze   : Freeze := .held
  suspect  : Bool := false
  orphan   : Bool := false
  checkOk  : Bool := true
  deriving DecidableEq, Repr

/-! ## Doors (02, R15 to R36) -/

/-- The nine door states (R19). -/
inductive DoorState where
  | secured | interlockWait | releasing | released | opened | held | relocking | forced | unknown
  deriving DecidableEq, Repr

/-- Direction of a pending passage (R20). -/
inductive Dir where
  | entry | exit
  deriving DecidableEq, Repr

/-- Mode of a presentation (R61). -/
inductive Mode where
  | normal | duress
  deriving DecidableEq, Repr

/-- A pending passage (R20, R58). `arrival` is in units of 0.1 s. `retiredGrant` is the mark of R54. -/
structure Passage where
  dir          : Dir
  person       : Option Nat := none
  grant        : Option Nat := none
  ceiling      : Option Nat := none
  mode         : Mode := .normal
  arrival      : Nat
  retiredGrant : Bool := false
  deriving DecidableEq, Repr

/-- The fields of a door class (R18). -/
structure ClassCfg where
  lead     : Nat := 5
  strike   : Nat := 50
  relock   : Nat := 10
  heldOpen : Nat := 30
  limit    : Nat := 10
  traverse : Nat := 8
  deriving DecidableEq, Repr

/-- A door class record (R18). -/
structure ClassRec where
  cfg     : ClassCfg := {}
  suspect : Bool := false
  checkOk : Bool := true
  deriving DecidableEq, Repr

/-- A release cycle (R20). The ends of the lead, strike, held-open and relock timers are times on the time base of
0.01 s kept with the door cycles (R182), present while the timer runs; exit due is a time of running seconds.
`waiting` marks a cycle that waited in INTERLOCK_WAIT when its door was forced (R31), as against one created at the
opening. `began` is the tenth of a second in which its wait began (R27). -/
structure Cycle where
  passages  : List Passage := []
  unlisted  : Bool := false
  exitDue   : Option Nat := none
  vals      : ClassCfg := {}
  began     : Nat := 0
  waiting   : Bool := false
  leadEnd   : Option Nat := none
  strikeEnd : Option Nat := none
  heldEnd   : Option Nat := none
  relockEnd : Option Nat := none
  deriving DecidableEq, Repr

/-- A pair wait (R36, R69). `start` is in units of 0.1 s, `window` in seconds. -/
structure PairWait where
  person       : Nat
  grant        : Option Nat := none
  ceiling      : Option Nat := none
  mode         : Mode := .normal
  start        : Nat
  window       : Nat
  retiredGrant : Bool := false
  deriving DecidableEq, Repr

/-- Outcomes of a last decision (R35). -/
inductive DecisionOutcome where
  | none | granted | releasedExit | refused
  deriving DecidableEq, Repr

/-- The refusal codes 1 to 15 of R185. -/
inductive RefusalCode where
  | notCommissioned | doorUnavailable | lockedOut | zoneClosed | unknownCredential
  | recordSuspect | suspended | locationMismatch | clearance | noGrant
  | zoneFull | waitFull | waitExpired | pairTimeout | interlockTimeout
  deriving DecidableEq, Repr

/-- A door's last decision (R35). A decision NONE has no fields, not even a time. -/
structure Decision where
  outcome : DecisionOutcome := .none
  code    : Option RefusalCode := none
  person  : Option Nat := none
  grant   : Option Nat := none
  time    : Option Nat := none
  deriving DecidableEq, Repr

/-- A door station's indication (R165). -/
inductive Indication where
  | none | grant | deny
  deriving DecidableEq, Repr

/-- The configuration fields of a door (R15). -/
structure DoorCfg where
  inner   : Nat
  cls     : Nat := 0
  partner : Option Nat := none
  station : Nat
  deriving DecidableEq, Repr

/-- A configured door (R15). `right` says that the door holds its pair's open right (R27). -/
structure DoorRec where
  cfg         : DoorCfg
  lockout     : Bool := false
  suspect     : Bool := false
  state       : DoorState := .unknown
  right       : Bool := false
  cycle       : Option Cycle := none
  pairWait    : Option PairWait := none
  decision    : Decision := {}
  indication  : Indication := .none
  indEnd      : Option Nat := none
  heldInhibit : Bool := false
  checkOk     : Bool := true
  deriving DecidableEq, Repr

/-! ## Persons and grants (03, R42, R50), the wait list (04, R77) -/

/-- The fields of a person record (R42). -/
structure PersonCfg where
  credential : Nat
  clearance  : Nat := 0
  assisted   : Bool := false
  loneWork   : Bool := false
  suspended  : Bool := false
  deriving DecidableEq, Repr

/-- A stored person record. -/
structure PersonRec where
  cfg     : PersonCfg
  suspect : Bool := false
  checkOk : Bool := true
  deriving DecidableEq, Repr

/-- The fields of a grant record (R50). -/
structure GrantCfg where
  person  : Nat
  zones   : List Nat
  wStart  : Nat := 0
  wEnd    : Nat := 0
  fromDay : Nat := 0
  untilDay : Option Nat := none
  ceiling : Option Nat := none
  uses    : Option Nat := none
  deriving DecidableEq, Repr

/-- A stored grant record. -/
structure GrantRec where
  cfg     : GrantCfg
  suspect : Bool := false
  checkOk : Bool := true
  deriving DecidableEq, Repr

/-- A wait-list entry (R77). `arrival` is in units of 0.1 s. -/
structure WaitEntry where
  credential : Option Nat
  door       : Nat
  mode       : Mode
  arrival    : Nat
  deriving DecidableEq, Repr

/-! ## Occupancy records (05, R82) -/

/-- Basis of an occupancy record (R82). -/
inductive Basis where
  | day | grant | host | sweep
  deriving DecidableEq, Repr

/-- An occupancy record (R82). -/
structure OccRec where
  person    : Nat
  zone      : Nat
  entered   : Nat
  zoneEntered : Nat
  basis     : Basis
  grant     : Option Nat := none
  dwell     : Option Nat := none
  checkin   : Option Nat := none
  pairGrace : Option Nat := none
  duress    : Bool := false
  overdue   : Bool := false
  missing   : Bool := false
  alone     : Bool := false
  suspect   : Bool := false
  checkOk   : Bool := true
  deriving DecidableEq, Repr

/-- A sound occupancy record (R83): not suspect, and in agreement with its check value. -/
def OccRec.sound (r : OccRec) : Bool := !r.suspect && r.checkOk

/-! ## Agent zones (06, R106, R107, R113) -/

/-- The thresholds of one detector channel (R106). -/
structure Channel where
  floor : Nat := 16
  alert : Nat := 400
  fire  : Nat := 700
  hyst  : Nat := 20
  deriving DecidableEq, Repr

/-- The configuration fields of an agent zone (R106). -/
structure AgentCfg where
  top     : Option Nat := none
  station : Option Nat := none
  db      : Nat := 30
  margin  : Nat := 15
  dmax    : Nat := 180
  confirm : Nat := 30
  soak    : Nat := 60
  ch1     : Channel := {}
  ch2     : Channel := {}
  deriving DecidableEq, Repr

/-- The ten agent states (R119). -/
inductive AgentState where
  | unconfigured | normal | alert | countdown | abortHeld | occupiedHold | discharge | discharged | spent | fault
  deriving DecidableEq, Repr

/-- Countdown kind (R107). -/
inductive CountdownKind where
  | opening | closing
  deriving DecidableEq, Repr

/-- An agent zone (R106, R107). `cw` is the condition word (R112). `flag` is the desired discharge flag (R119).
`awaitFirst`: no good report has come since a warm restart (R133). `halted`: rewritten while suspect, so that detector
compare and logic evaluation wait for the next report (R132). -/
structure AgentRec where
  cfg           : AgentCfg := {}
  suspect       : Bool := false
  halted        : Bool := false
  state         : AgentState := .unconfigured
  isolated      : Bool := false
  t0            : Option Nat := none
  deadline      : Option Nat := none
  bound         : Option Nat := none
  kind          : CountdownKind := .opening
  echoed        : Bool := false
  confirmBy     : Option Nat := none
  dischargeTime : Option Nat := none
  spentMark     : Bool := false
  cw            : BitVec 32 := 0x00020000#32
  alertOut      : Bool := false
  releaseOut    : Bool := false
  flag          : Bool := false
  awaitFirst    : Bool := false
  checkOk       : Bool := true
  deriving DecidableEq, Repr

/-- The operations of a logic term (R113). -/
inductive LogicOp where
  | and | andc | or | orc | nand | nor | xor | eqv
  deriving DecidableEq, Repr

/-- A logic term (R113): target bit, operation, source bits a and b. -/
structure Term where
  target : Nat
  op     : LogicOp
  a      : Nat
  b      : Nat
  deriving DecidableEq, Repr

/-- The reset logic of R115. -/
def resetTerms : List Term :=
  [⟨20, .or, 0, 3⟩, ⟨21, .and, 1, 4⟩, ⟨22, .and, 1, 5⟩, ⟨23, .and, 4, 2⟩, ⟨24, .or, 22, 23⟩, ⟨25, .or, 21, 24⟩]

/-- A logic table (R113), with the reset content of R115. -/
structure LogicCfg where
  terms      : List Term := resetTerms
  alertSel   : Nat := 20
  releaseSel : Nat := 25
  deriving DecidableEq, Repr

/-- A stored logic table. -/
structure LogicRec where
  cfg     : LogicCfg := {}
  suspect : Bool := false
  checkOk : Bool := true
  deriving DecidableEq, Repr

/-! ## Alarms (07, R134 to R136) -/

/-- The 23 alarm kinds in the order of R134: the number of a kind is its place here. -/
inductive Kind where
  | duress | manDown | checkinMissed | occupiedHold | discharge
  | preDischarge | egressShortfall | doorForced | interlockBreach | agentFault | dischargeUnconfirmed
  | pairBroken | dwellOverrun | doorHeld | suppressionAlert | stationSilent | locationMismatch | detectorFault
  | recordSuspect | routeFault | clockUnset | isolated | unverifiedZone
  deriving DecidableEq, Repr

/-- The eleven record tables of the host port, in the order of their codes 1 to 11 (R171, R184). -/
inductive Tbl where
  | person | grant | occupancy | zone | door | cls | agent | logic | route | alarm | station
  deriving DecidableEq, Repr

/-- The subject of an alarm (R135). -/
inductive Subject where
  | person (n : Nat) | door (n : Nat) | zone (n : Nat) | agent (n : Nat) | station (n : Nat)
  | record (t : Tbl) (n : Nat)
  deriving DecidableEq, Repr

/-- Delivery of an alarm (R136). -/
inductive Delivery where
  | notify | notifyAndMask | localOnly | forward
  deriving DecidableEq, Repr

/-- Sounder patterns (R165), from OFF to EVACUATE. -/
inductive Sounder where
  | off | steady | slow | fast | evacuate
  deriving DecidableEq, Repr

/-- State of an alarm record (R135). -/
inductive AlarmState where
  | raised | notified | acknowledged
  deriving DecidableEq, Repr

/-- An alarm record (R135). An overflow record has no kind and no subject. -/
structure AlarmRec where
  kind       : Option Kind
  subject    : Option Subject
  zone       : Option Nat := none
  person     : Option Nat := none
  raisedAt   : Nat
  lastRaised : Nat
  count      : Nat := 1
  state      : AlarmState := .raised
  ended      : Bool := false
  latching   : Bool := false
  cls        : Nat
  delivery   : Delivery := .notify
  sounder    : Sounder := .off
  checkOk    : Bool := true
  deriving DecidableEq, Repr

/-- The fields of a route entry (R136). -/
structure Route where
  cls      : Nat := 3
  delivery : Delivery := .notify
  sounder  : Sounder := .off
  deriving DecidableEq, Repr

/-- A stored route entry. -/
structure RouteRec where
  cfg     : Route := {}
  suspect : Bool := false
  checkOk : Bool := true
  deriving DecidableEq, Repr

/-! ## Stations (08, R155, R165) -/

/-- Station kind (R155). -/
inductive StationKind where
  | door | zone | agent
  deriving DecidableEq, Repr

/-- Link state (R155). -/
inductive Link where
  | awaiting | answering | silent
  deriving DecidableEq, Repr

/-- Evacuation pattern (R165). -/
inductive Evac where
  | off | evacuate | agentPresent
  deriving DecidableEq, Repr

/-- Desired outputs by station kind (R165). A door's strike is its duration in units of 0.1 s, 0 for OFF (R186). -/
inductive Outputs where
  | door (strike : Nat) (ind : Indication)
  | zone (s : Sounder)
  | agent (flag : Bool) (evac : Evac)
  deriving DecidableEq, Repr

/-- The configuration fields of a station record (R155). -/
structure StationCfg where
  kind  : StationKind
  bound : Nat
  deriving DecidableEq, Repr

/-- A station record (R155). `lastPoll` is the time its last poll began, on the time base of 0.01 s (R163). `serving`
is the object whose owner has last been told that the station serves it (R157). Damage to the record leaves it as it is,
so that the silence of R166 reaches the object that was served. -/
structure StationRec where
  cfg        : StationCfg
  suspect    : Bool := false
  link       : Link := .awaiting
  missed     : Nat := 0
  lastReport : Option Nat := none
  token      : Nat := 0
  desired    : Outputs
  sent       : Option (Outputs × Nat) := none
  echo       : Option Nat := none
  lastPoll   : Option Nat := none
  serving    : Option StationCfg := none
  checkOk    : Bool := true
  deriving DecidableEq, Repr

/-! ## Host port and calendar (09, R168, R169; 10, R182) -/

/-- States of the Host Port (R168). -/
inductive Port where
  | idle | busy | answered | starting
  deriving DecidableEq, Repr

/-- Status codes 0 to 11 (R169, R184). -/
inductive Status where
  | ok | empty | notFound | duplicate | full | badValue | wrongState | notHeld | inUse | inZone | suspect
  | unknownRequest
  deriving DecidableEq, Repr

/-- A field of a frame: a field id and its value bytes (R184). -/
abbrev Field := Byte × List Byte

/-- A response (R169). -/
structure Response where
  tag       : Byte
  status    : Status
  overrun   : Bool
  notice    : Bool
  resetSeen : Bool
  clamped   : Bool
  fields    : List Field
  deriving DecidableEq, Repr

/-- The calendar (R182). -/
structure Calendar where
  day    : Nat
  minute : Nat
  second : Nat
  deriving DecidableEq, Repr

/-- Damage done to the retention memory by the environment (log entry 5): a stored item, and the configuration fields
that the damaged memory now holds. Where the part discards or empties what fails (R153, R181), no content is named.
`marker` damages the pattern of the retention marker and `markerCheck` its check value or what that covers (R178). -/
inductive Damage where
  | person (k : Nat) (c : PersonCfg)
  | grant (k : Nat) (c : GrantCfg)
  | zone (k : Nat) (c : ZoneCfg)
  | door (k : Nat) (c : DoorCfg)
  | cls (k : Nat) (c : ClassCfg)
  | occupancy (k : Nat) (r : OccRec)
  | agent (k : Nat) (c : AgentCfg)
  | logic (k : Nat) (c : LogicCfg)
  | route (k : Nat) (c : Route)
  | routeLimit (n : Nat)
  | alarm (k : Nat)
  | station (k : Nat) (c : StationCfg)
  | calendar
  | classMask
  | holdSet (c : Nat)
  | marker
  | markerCheck
  deriving DecidableEq, Repr

end Sys2Proof
end

