-- ==== Sys2Proof/Syntax.lean ====
section
/-! DEFINITION. The commands of the part: one constructor for each row of spec/opcode_table.json, in the table's order. -/

namespace Sys2Proof

/-- What a request frame carries after its request code (R170, R184): a tag, a table code (0 for an operational
request), the key bytes (none: no key, or no cursor) and the fields. -/
structure Req where
  tag    : Byte
  table  : Byte := 0#8
  key    : List Byte := []
  fields : List Field := []
  deriving DecidableEq, Repr

/-- The commands. `door`, `slot` and `agent` name the door, occupancy slot or agent zone whose timer has run out.
`reply` is the bytes of a station's reply and `frame` the bytes of a write transaction. `damage` is what the
environment has done to the record memory since the last such command, and `retained` says that the retention supply
held (log entry 5). -/
inductive Instr where
  | lookup (r : Req)
  | list (r : Req)
  | insert (r : Req)
  | amend (r : Req)
  | retire (r : Req)
  | freeze (r : Req)
  | thaw (r : Req)
  | sweepClear (r : Req)
  | hoursOverride (r : Req)
  | remoteRelease (r : Req)
  | lockoutOn (r : Req)
  | lockoutOff (r : Req)
  | isolate (r : Req)
  | deisolate (r : Req)
  | ventClear (r : Req)
  | nextNotice (r : Req)
  | acknowledge (r : Req)
  | restore (r : Req)
  | setMask (r : Req)
  | setClock (r : Req)
  | status (r : Req)
  | commission (r : Req)
  | ackRestart (r : Req)
  | restart (r : Req)
  | unknownRequest (frame : List Byte)
  | hostWriteOverrun
  | hostRead
  | poll
  | goodReport (reply : List Byte)
  | replyWindowExpiry
  | leadExpiry (door : Nat)
  | strikeTimerExpiry (door : Nat)
  | heldOpenExpiry (door : Nat)
  | relockHoldExpiry (door : Nat)
  | interlockTimeout (door : Nat)
  | exitDue (door : Nat)
  | indicationReturn (door : Nat)
  | pairWindowExpiry (door : Nat)
  | waitExpired
  | dwellDeadline (slot : Nat)
  | checkinDeadline (slot : Nat)
  | pairGraceDeadline (slot : Nat)
  | countdownDeadline (agent : Nat)
  | confirmationDeadline (agent : Nat)
  | calendarAdvance
  | recordCheckSweep (damage : List Damage)
  | resetLine (damage : List Damage)
  | mainSupplyDip (retained : Bool) (damage : List Damage)
  | mainSupplyRestored (retained : Bool) (damage : List Damage)
  deriving DecidableEq, Repr

end Sys2Proof
end

