-- ==== Sys2Proof/Decode.lean ====
section
/-! DEFINITION. The decoder over the table's bits. spec/opcode_table.json gives no row any bits, so that no word spells
a command (log entry 12). The bytes of the host port are read by `commandOfFrame` in `Sys2Proof/Machine/Operands.lean`. -/

namespace Sys2Proof

/-- The command that a word spells by the table's bits: none, since the table gives no row any bits. -/
def decodeTableWord (_nbits _w : Nat) : Option Instr := none

end Sys2Proof
end

