-- ==== Sys2Proof/Machine/State.lean ====
section
/-! DEFINITION. The state of the part, block by block (00_scope.md, "Block overview"), the reasons a command can
stop, and the state after a cold start. -/

namespace Sys2Proof.Machine

/-- Why the machine stops. The spec gives the part no stop of any kind, so no fault exists and none is ever raised. -/
inductive Fault where
  deriving DecidableEq, Repr

/-- Why a command has no meaning. -/
inductive Refusal where
  /-- Raised by `exec` for a command that the model gives no meaning yet. Safe. No arm raises it. -/
  | notModelled (mnemonic : String)
  deriving DecidableEq, Repr

/-- The Door Controller's state (02): the door table and the door class table. -/
structure DoorUnit where
  doors   : Table DoorRec := []
  classes : Vector ClassRec 8 := Vector.replicate 8 {}
  deriving DecidableEq, Repr

/-- The Admission Unit's state (03, 04). The zone freeze states stand in the zone records. -/
structure AdmissionUnit where
  persons : Table PersonRec := []
  grants  : Table GrantRec := []
  waits   : List WaitEntry := []
  deriving DecidableEq, Repr

/-- The Occupancy Unit's state (01, 05): the zone table (zones 1..31; zone 0 has no record) and the occupancy table. -/
structure OccupancyUnit where
  zones : Table ZoneRec := []
  recs  : Table OccRec := []
  deriving DecidableEq, Repr

/-- The Release Unit's state (06). -/
structure ReleaseUnit where
  agents : Vector AgentRec 8 := Vector.replicate 8 {}
  logic  : Vector LogicRec 8 := Vector.replicate 8 {}
  deriving DecidableEq, Repr

/-- The route table after a cold start (R136): entries 0..22 by kind, entries 23..31 class 3, NOTIFY, OFF. -/
def resetRoutes : Vector RouteRec 32 :=
  #v[⟨⟨0, .forward, .off⟩, false, true⟩, ⟨⟨0, .forward, .fast⟩, false, true⟩, ⟨⟨0, .forward, .fast⟩, false, true⟩,
     ⟨⟨0, .notify, .off⟩, false, true⟩, ⟨⟨0, .notify, .off⟩, false, true⟩, ⟨⟨1, .notify, .off⟩, false, true⟩,
     ⟨⟨1, .notify, .off⟩, false, true⟩, ⟨⟨1, .notifyAndMask, .steady⟩, false, true⟩, ⟨⟨1, .notify, .off⟩, false, true⟩,
     ⟨⟨1, .notify, .off⟩, false, true⟩, ⟨⟨1, .notify, .off⟩, false, true⟩, ⟨⟨2, .notify, .slow⟩, false, true⟩,
     ⟨⟨2, .notify, .off⟩, false, true⟩, ⟨⟨2, .notify, .slow⟩, false, true⟩, ⟨⟨2, .notify, .slow⟩, false, true⟩,
     ⟨⟨2, .notify, .off⟩, false, true⟩, ⟨⟨2, .notify, .off⟩, false, true⟩, ⟨⟨2, .notify, .off⟩, false, true⟩,
     ⟨⟨3, .notify, .off⟩, false, true⟩, ⟨⟨3, .notify, .off⟩, false, true⟩, ⟨⟨3, .notify, .off⟩, false, true⟩,
     ⟨⟨3, .notify, .off⟩, false, true⟩, ⟨⟨3, .notify, .off⟩, false, true⟩,
     {}, {}, {}, {}, {}, {}, {}, {}, {}]

/-- The Alarm Unit's state (07). `recs` holds places 0..63 (R135). `mask` has bit c set for class c (R145). `holds`
lists (class, alarm number) for every number in a hold set (R146). `limitOk` and `maskOk` say that the check values of
the route limit and the class mask agree, and bit c of `holdsBad` that the one of class c's hold set does not (R153). -/
structure AlarmUnit where
  recs         : Table AlarmRec := []
  routes       : Vector RouteRec 32 := resetRoutes
  limit        : Nat := 23
  limitSuspect : Bool := false
  limitOk      : Bool := true
  mask         : BitVec 4 := 0#4
  maskOk       : Bool := true
  holds        : List (Nat × Nat) := []
  holdsBad     : BitVec 4 := 0#4
  deriving DecidableEq, Repr

/-- The exchange in progress on the station link (R163). `void` marks one whose station was retired
meanwhile, so that its reply is ignored (R156). -/
structure Exchange where
  address : Nat
  void    : Bool := false
  deriving DecidableEq, Repr

/-- The Station Link Controller's state (08). `rotationTurn` says that of the door and rotation lanes the door lane
went last. `rotation` is the station last taken from the rotation lane, 0 after a start (R167). `frame` is the bytes
of the last poll (R186). -/
structure LinkUnit where
  stations     : Table StationRec := []
  exchange     : Option Exchange := none
  safetyLane   : List Nat := []
  doorLane     : List Nat := []
  rotationTurn : Bool := false
  rotation     : Nat := 0
  frame        : List Byte := []
  deriving DecidableEq, Repr

/-- The Host Port's state (09, R168, R177). `line` is the bytes the last read transaction returned. -/
structure HostUnit where
  port      : Port := .idle
  buffer    : Option Response := none
  overrun   : Bool := false
  resetSeen : Bool := true
  line      : List Byte := []
  deriving DecidableEq, Repr

/-- The Retention and Clock Unit's state, with the commissioned state (09, R177; 10, R178). `marker` says that the
retention marker's pattern is correct, and `markerCheck` that its check value over running seconds and the commissioned
state is. `now` is running seconds. `base` is the time base kept with the door cycles, in units of 0.01 s (R182; log
entry 3). `calendarOk` says that the calendar's check value agrees. `sweep` is the least (table rank, key) that the check
sweep visits next (R181). -/
structure RetentionUnit where
  marker      : Bool := true
  markerCheck : Bool := true
  active      : Bool := false
  now         : Nat := 0
  base        : Nat := 0
  calendar    : Option Calendar := none
  calendarOk  : Bool := true
  sweep       : Nat × Nat := (0, 0)
  deriving DecidableEq, Repr

/-- The whole part. `free` counts the free values read (log entry 7). `pending` is the queue of waiting commands,
first in, first out. -/
structure State where
  door    : DoorUnit
  adm     : AdmissionUnit
  occ     : OccupancyUnit
  rel     : ReleaseUnit
  alm     : AlarmUnit
  link    : LinkUnit
  host    : HostUnit
  ret     : RetentionUnit
  free    : Nat
  pending : List Instr
  deriving DecidableEq, Repr

/-- The alarm record that a cold start makes (R179 step 5): CLOCK_UNSET with subject ZONE 0, by the reset route. -/
def clockUnsetRecord : AlarmRec :=
  { kind := some .clockUnset, subject := some (.zone 0), raisedAt := 0, lastRaised := 0, cls := 3 }

/-- The part right after a cold start (R179). -/
def State.reset : State :=
  { door := {}, adm := {}, occ := {}, rel := {}, alm := { recs := [(0, clockUnsetRecord)] }, link := {}, host := {},
    ret := {}, free := 0, pending := [] }

end Sys2Proof.Machine
end

