-- ==== Sys2Proof/Machine/Ops.lean ====
section
/-! DEFINITION. The named operations that every block shares: record tables by key, the reading and writing of each
block's records, time, the zone tree with its coverage (R1, R13, R14), and the counts that are computed views. -/

namespace Sys2Proof

/-! ## Tables -/

/-- The record under key `n`, if there is one. -/
def Table.find {α : Type} : Table α → Nat → Option α
  | [], _ => none
  | (k, v) :: t, n => if n = k then some v else Table.find t n

/-- Stores a record under key `n`, keeping the keys rising. -/
def Table.put {α : Type} : Table α → Nat → α → Table α
  | [], n, w => [(n, w)]
  | (k, v) :: t, n, w =>
    if n < k then (n, w) :: (k, v) :: t
    else if n = k then (n, w) :: t
    else (k, v) :: Table.put t n w

/-- Frees the slot of key `n`. -/
def Table.del {α : Type} (t : Table α) (n : Nat) : Table α := t.filter (fun p => p.1 != n)

/-- A function applied to every entry of a table that is always whole, in a form that the kernel evaluates. -/
def mapVec {α : Type} {n : Nat} (f : α → α) (v : Vector α n) : Vector α n := ⟨(v.toList.map f).toArray, by simp⟩

/-- Changes the record under key `n`, if there is one. -/
def Table.change {α : Type} (t : Table α) (n : Nat) (f : α → α) : Table α :=
  t.map (fun p => if p.1 = n then (p.1, f p.2) else p)

/-- The lowest key at or above `i` and below `i + fuel` that is free. -/
def Table.freeFrom {α : Type} (t : Table α) : Nat → Nat → Option Nat
  | 0, _ => none
  | fuel + 1, i => if (t.find i).isSome then Table.freeFrom t fuel (i + 1) else some i

/-- The first record, in key order, whose key is above the cursor (or the first of all). -/
def Table.after {α : Type} (t : Table α) (cursor : Option Nat) : Option (Nat × α) :=
  t.find? (fun p => match cursor with | none => true | some c => c < p.1)

/-- The keys of a table, rising. -/
def Table.keys {α : Type} (t : Table α) : List Nat := t.map (·.1)

/-- The keys are strictly rising: the one canonical form of a table. -/
def Table.wf {α : Type} : Table α → Bool
  | [] => true
  | [_] => true
  | (k, _) :: (k', v) :: t => k < k' && Table.wf ((k', v) :: t)

namespace Machine
namespace State

/-! ## Blocks -/

/-- Replaces the Door Controller's state. -/
def setDoor (s : State) (u : DoorUnit) : State := { s with door := u }
/-- Replaces the Admission Unit's state. -/
def setAdm (s : State) (u : AdmissionUnit) : State := { s with adm := u }
/-- Replaces the Occupancy Unit's state. -/
def setOcc (s : State) (u : OccupancyUnit) : State := { s with occ := u }
/-- Replaces the Release Unit's state. -/
def setRel (s : State) (u : ReleaseUnit) : State := { s with rel := u }
/-- Replaces the Alarm Unit's state. -/
def setAlm (s : State) (u : AlarmUnit) : State := { s with alm := u }
/-- Replaces the Station Link Controller's state. -/
def setLink (s : State) (u : LinkUnit) : State := { s with link := u }
/-- Replaces the Host Port's state. -/
def setHost (s : State) (u : HostUnit) : State := { s with host := u }
/-- Replaces the Retention and Clock Unit's state. -/
def setRet (s : State) (u : RetentionUnit) : State := { s with ret := u }
/-- Replaces the counter of free values. -/
def setFree (s : State) (n : Nat) : State := { s with free := n }
/-- Replaces the queue of waiting commands. -/
def setPending (s : State) (q : List Instr) : State := { s with pending := q }

/-! ## Time (10, R182; log entry 3) -/

/-- Running seconds. -/
def now (s : State) : Nat := s.ret.now
/-- The time base kept with the door cycles, in units of 0.01 s. It goes on when running seconds holds (R182). -/
def base (s : State) : Nat := s.ret.base
/-- Running seconds in units of 0.01 s, with the time base giving the part of the second. -/
def nowCs (s : State) : Nat := s.ret.now * 100 + s.ret.base % 100
/-- Running seconds in units of 0.1 s: the unit of arrival times (R20, R61). -/
def nowTenths (s : State) : Nat := s.ret.now * 10 + s.ret.base % 100 / 10
/-- A timer's end on the time base has been reached. An absent end is a timer that does not run. -/
def reached (s : State) (e : Option Nat) : Bool :=
  match e with | none => false | some t => t ≤ s.base
/-- A time that counts from an arrival, in running seconds to 0.01 s, has been reached (R29). -/
def fallsDue (s : State) (e : Option Nat) : Bool :=
  match e with | none => false | some t => t ≤ s.nowCs
/-- A deadline in running seconds has passed: running seconds has reached it (00_scope.md, Time). -/
def passed (s : State) (e : Option Nat) : Bool :=
  match e with | none => false | some t => t ≤ s.now

/-! ## Records -/

def zone? (s : State) (z : Nat) : Option ZoneRec := s.occ.zones.find z
def putZone (s : State) (z : Nat) (r : ZoneRec) : State := s.setOcc { s.occ with zones := s.occ.zones.put z r }
/-- Changes a configured zone's record. -/
def changeZone (s : State) (z : Nat) (f : ZoneRec → ZoneRec) : State :=
  s.setOcc { s.occ with zones := s.occ.zones.change z f }
def occ? (s : State) (i : Nat) : Option OccRec := s.occ.recs.find i
def putOcc (s : State) (i : Nat) (r : OccRec) : State := s.setOcc { s.occ with recs := s.occ.recs.put i r }
def delOcc (s : State) (i : Nat) : State := s.setOcc { s.occ with recs := s.occ.recs.del i }
/-- Changes the occupancy record in a slot. -/
def changeOcc (s : State) (i : Nat) (f : OccRec → OccRec) : State :=
  s.setOcc { s.occ with recs := s.occ.recs.change i f }
def door? (s : State) (d : Nat) : Option DoorRec := s.door.doors.find d
def putDoor (s : State) (d : Nat) (r : DoorRec) : State := s.setDoor { s.door with doors := s.door.doors.put d r }
/-- Changes a configured door's record. -/
def changeDoor (s : State) (d : Nat) (f : DoorRec → DoorRec) : State :=
  s.setDoor { s.door with doors := s.door.doors.change d f }
def person? (s : State) (p : Nat) : Option PersonRec := s.adm.persons.find p
def putPerson (s : State) (p : Nat) (r : PersonRec) : State :=
  s.setAdm { s.adm with persons := s.adm.persons.put p r }
def grant? (s : State) (g : Nat) : Option GrantRec := s.adm.grants.find g
def putGrant (s : State) (g : Nat) (r : GrantRec) : State := s.setAdm { s.adm with grants := s.adm.grants.put g r }
def station? (s : State) (a : Nat) : Option StationRec := s.link.stations.find a
def putStation (s : State) (a : Nat) (r : StationRec) : State :=
  s.setLink { s.link with stations := s.link.stations.put a r }
/-- Changes a configured station's record. -/
def changeStation (s : State) (a : Nat) (f : StationRec → StationRec) : State :=
  s.setLink { s.link with stations := s.link.stations.change a f }
/-- The class record of a number; a number above 7 names none, and reads as the reset values. -/
def classRec (s : State) (c : Nat) : ClassRec := (s.door.classes[c]?).getD {}
def putClass (s : State) (c : Nat) (r : ClassRec) : State :=
  s.setDoor { s.door with classes := s.door.classes.setIfInBounds c r }
/-- The agent of a number; a number above 7 names none, and reads as an UNCONFIGURED agent. -/
def agent (s : State) (a : Nat) : AgentRec := (s.rel.agents[a]?).getD { cfg := {} }
def putAgent (s : State) (a : Nat) (r : AgentRec) : State :=
  s.setRel { s.rel with agents := s.rel.agents.setIfInBounds a r }
/-- Changes an agent's record. -/
def changeAgent (s : State) (a : Nat) (f : AgentRec → AgentRec) : State := s.putAgent a (f (s.agent a))
def logicRec (s : State) (a : Nat) : LogicRec := (s.rel.logic[a]?).getD {}
def putLogic (s : State) (a : Nat) (r : LogicRec) : State :=
  s.setRel { s.rel with logic := s.rel.logic.setIfInBounds a r }

/-- Numbers 0..7: agents, classes and logic tables, in ascending order. -/
def eight : List Nat := [0, 1, 2, 3, 4, 5, 6, 7]

/-! ## The zone tree (R1, R14) -/

/-- The parent of a configured zone: its stored parent, or zone 0 while the zone is an orphan (R14). A number that is not
configured has zone 0 (log entry 79, DESIGN CHOICE). -/
def parentIn (zs : Table ZoneRec) (z : Nat) : Nat :=
  match zs.find z with
  | none => 0
  | some r => if r.orphan then 0 else r.cfg.parent

/-- Following parents from `x` reaches zone 0 through configured zones without meeting `avoid`. R14 leaves open whether
"following parents" runs through another suspect zone's stored parent or through the one that zone has in the tree: the
model follows the parent in use (log entry 37, DESIGN CHOICE). -/
def reachesRoot (zs : Table ZoneRec) (avoid : Nat) : Nat → Nat → Bool
  | 0, _ => false
  | fuel + 1, x =>
    if x = 0 then true
    else if x = avoid then false
    else match zs.find x with
      | none => false
      | some _ => reachesRoot zs avoid fuel (parentIn zs x)

/-- A zone that fails its check with this stored parent is a child of zone 0 until it is rewritten (R14). -/
def orphaned (zs : Table ZoneRec) (z parent : Nat) : Bool := !reachesRoot zs z 33 parent

/-- The zones from `z` up to, and without, zone 0. -/
def pathIn (zs : Table ZoneRec) : Nat → Nat → List Nat
  | 0, _ => []
  | fuel + 1, z => if z = 0 then [] else z :: pathIn zs fuel (parentIn zs z)

/-- The parent of a zone: the outer zone of every door into it (R1). -/
def parentOf (s : State) (z : Nat) : Nat := parentIn s.occ.zones z
/-- The controlled zones from `z` up to zone 0, both `z` and the child of zone 0 included (at most 31). -/
def pathUp (s : State) (z : Nat) : List Nat := pathIn s.occ.zones 32 z
/-- `z` is `t` or `t` is an ancestor of `z`. -/
def isUnder (s : State) (z t : Nat) : Bool := (s.pathUp z).contains t
/-- The path from `z` to `t`, both ends included (R1). -/
def pathTo (s : State) (z t : Nat) : List Nat := (s.pathUp z).takeWhile (· != t) ++ [t]
/-- The subtree of `t`: the configured zones that are `t` or lie beneath it (R1), ascending. -/
def subtree (s : State) (t : Nat) : List Nat := s.occ.zones.keys.filter (fun z => s.isUnder z t)

/-! ## Coverage (R13, R132) -/

/-- The top zone an agent covers from. A suspect agent's stored top zone is used when it is configured and lies in
no other agent's coverage; otherwise the agent covers nothing (R132). Another agent's coverage is judged by its stored top
zone, so that of two suspect agents which store one top zone neither covers anything (log entry 57, DESIGN CHOICE). -/
def effectiveTop (s : State) (a : Nat) : Option Nat :=
  match (s.agent a).cfg.top with
  | none => none
  | some t =>
    if (s.agent a).suspect then
      if (s.zone? t).isSome &&
         !(eight.any fun b => b != a && match (s.agent b).cfg.top with
            | none => false
            | some t' => s.isUnder t t')
      then some t else none
    else some t

/-- Zone `z` is covered by agent `a` (R13). -/
def covers (s : State) (a z : Nat) : Bool :=
  match s.effectiveTop a with | none => false | some t => s.isUnder z t

/-- The zones an agent covers, ascending. -/
def coverage (s : State) (a : Nat) : List Nat := s.occ.zones.keys.filter (fun z => s.covers a z)

/-- The covering agent of a zone (R13). Where a suspect zone's stored parent (R14) or a suspect agent's stored top zone
(R132) leaves a zone under two agents, the spec names no covering agent: the model takes the lowest number (log entry 46,
DESIGN CHOICE). -/
def coveringAgent (s : State) (z : Nat) : Option Nat := eight.find? (fun a => s.covers a z)

/-! ## Counts that are computed views (R75, R84; log entry 4) -/

/-- The occupant count of a zone: the records that name it, suspect records by their stored zone (R84). R3 gives a new
zone the count 0, while R84 counts every record that names a zone: the model counts an unplaced suspect record that
stores the new zone's number (log entry 4, DESIGN CHOICE). -/
def occupants (s : State) (z : Nat) : Nat := (s.occ.recs.filter (fun p => p.2.zone = z)).length

/-- The pending ENTRY passages of a door's cycle. -/
def entriesAt (d : DoorRec) : Nat :=
  match d.cycle with | none => 0 | some c => (c.passages.filter (fun p => p.dir = .entry)).length

/-- The reservations on a zone: the pending ENTRY passages into it (R20, R84). R3 gives a new zone 0: the entries of a suspect
door whose damaged inner zone is the number inserted count from the INSERT on (log entry 4, DESIGN CHOICE). -/
def reservations (s : State) (z : Nat) : Nat :=
  ((s.door.doors.filter (fun p => p.2.cfg.inner = z)).map (fun p => entriesAt p.2)).sum

/-- The reservations over all controlled zones (R66, R176 item 11): the pending ENTRY passages of every door, also of a
suspect door whose damaged inner zone is 0 or not configured (log entry 4, DESIGN CHOICE). -/
def allReservations (s : State) : Nat := (s.door.doors.map (fun p => entriesAt p.2)).sum

/-- The admissions in flight into a zone: pair waits, and pending ENTRY passages (R75). -/
def inFlight (s : State) (z : Nat) : Nat :=
  s.reservations z + (s.door.doors.filter (fun p => p.2.cfg.inner = z && p.2.pairWait.isSome)).length

/-- The free occupancy slots (R66). -/
def freeSlots (s : State) : Nat := Config.occSlots - s.occ.recs.length

/-- The sound occupancy record that names a person, with its slot (R83). -/
def recordOf (s : State) (p : Nat) : Option (Nat × OccRec) :=
  s.occ.recs.find? (fun q => q.2.person = p && !q.2.suspect)

/-- A suspect occupancy record that names a person by its stored number. Of several the model takes the one in the lowest
slot (log entry 39, DESIGN CHOICE). -/
def suspectRecordOf (s : State) (p : Nat) : Option (Nat × OccRec) :=
  s.occ.recs.find? (fun q => q.2.person = p && q.2.suspect)

/-- A person's present zone: that of the record that names the person, read as stored, or 0 (R44, R65). The spec speaks
of one record; where a sound and a suspect one both store the person number, the model takes the one in the lowest slot
(log entry 39, DESIGN CHOICE). -/
def presentZone (s : State) (p : Nat) : Nat :=
  match s.occ.recs.find? (fun q => q.2.person = p) with | none => 0 | some q => q.2.zone

/-- The records of a zone in the zone's order: by zone-entered-at, then by slot (R83). -/
def zoneOrder (s : State) (z : Nat) : List (Nat × OccRec) :=
  (s.occ.recs.filter (fun p => p.2.zone = z)).foldr ins []
where
  /-- Inserts before the first record that is not earlier; equal times keep ascending slots. -/
  ins (x : Nat × OccRec) : List (Nat × OccRec) → List (Nat × OccRec)
    | [] => [x]
    | y :: ys => if x.2.zoneEntered ≤ y.2.zoneEntered then x :: y :: ys else y :: ins x ys

/-- The hours state of a zone is AFTER. An unconfigured zone has none. -/
def isAfter (s : State) (z : Nat) : Bool :=
  match s.zone? z with | none => false | some r => r.hours = .after

/-- A zone is HELD; an unconfigured zone needs no freeze. R101 and R102 say so of an occupancy record; that a suspect door's
stored inner zone passes NOT_HELD so is log entry 69, DESIGN CHOICE. -/
def zoneHeld (s : State) (z : Nat) : Bool := match s.zone? z with | none => true | some r => r.freeze = .held

end State
end Machine
end Sys2Proof
end

