-- ==== Sys2Proof/Machine/Operands.lean ====
section
/-! DEFINITION. Every byte layout of 11_formats.md: numbers, enumerated values and lists (R184), request and response
frames (R184), polls and reports with their CRC (R160, R186), and the codes of enumerated values. -/

namespace Sys2Proof.Machine

/-! ## Numbers, most significant byte first (11) -/

/-- `n` in `w` bytes, most significant byte first. -/
def toBE : Nat → Nat → List Byte
  | 0, _ => []
  | w + 1, n => BitVec.ofNat 8 (n >>> (8 * w)) :: toBE w n

/-- The number that bytes hold, most significant byte first. -/
def ofBE : List Byte → Nat
  | [] => 0
  | b :: bs => b.toNat * 256 ^ bs.length + ofBE bs

/-- A number value of `w` bytes; a value of another length is none (R184). -/
def num (w : Nat) (bs : List Byte) : Option Nat := if bs.length = w then some (ofBE bs) else none

/-- A number value of `w` bytes in `lo..hi`. -/
def numIn (w lo hi : Nat) (bs : List Byte) : Option Nat :=
  match num w bs with
  | none => none
  | some n => if lo ≤ n ∧ n ≤ hi then some n else none

/-- An optional number value: length 0 is its absent form (R184). -/
def optIn (w lo hi : Nat) (bs : List Byte) : Option (Option Nat) :=
  if bs = [] then some none
  else match numIn w lo hi bs with | none => none | some n => some (some n)

/-- An enumerated value: its position in the defining list (R184). -/
def enumIn {α : Type} (l : List α) (bs : List Byte) : Option α :=
  match num 1 bs with | none => none | some n => l[n]?

/-- A list value of at most `fuel` items of `w` bytes, `w` above 0; a length that is no whole number of items is
none (R184). -/
def items (w : Nat) : Nat → List Byte → Option (List (List Byte))
  | _, [] => some []
  | 0, _ => none
  | fuel + 1, bs =>
    if bs.length < w then none
    else match items w fuel (bs.drop w) with
      | none => none
      | some l => some (bs.take w :: l)

/-- Applies `f` to every element, none if any answer is none. -/
def allSome {α β : Type} (f : α → Option β) : List α → Option (List β)
  | [] => some []
  | x :: xs =>
    match f x with
    | none => none
    | some y => match allSome f xs with | none => none | some ys => some (y :: ys)

/-- Folds the fields of a request into a record being written; one refused field refuses the whole (R173). -/
def foldFields {α : Type} (f : α → Nat → List Byte → Option α) : α → List Field → Option α
  | acc, [] => some acc
  | acc, (i, v) :: rest =>
    match f acc i.toNat v with | none => none | some acc' => foldFields f acc' rest

/-- The field ids a request carries. -/
def ids (fs : List Field) : List Nat := fs.map (fun f => f.1.toNat)

/-- The request carries every one of these field ids. -/
def carries (fs : List Field) (l : List Nat) : Bool := l.all (fun i => (ids fs).contains i)

/-- The value bytes under a field id. -/
def valueOf (fs : List Field) (i : Nat) : Option (List Byte) :=
  match fs.find? (fun f => f.1.toNat = i) with | none => none | some f => some f.2

/-- A field of a response. -/
def fld (i : Nat) (bs : List Byte) : Field := (BitVec.ofNat 8 i, bs)
/-- A field holding a number of `w` bytes. -/
def fldN (i w n : Nat) : Field := fld i (toBE w n)
/-- A field holding FALSE or TRUE, in that order. -/
def fldB (i : Nat) (b : Bool) : Field := fldN i 1 (if b then 1 else 0)
/-- An optional number of `w` bytes; absent has length 0. -/
def fldO (i w : Nat) (o : Option Nat) : Field := fld i (match o with | none => [] | some n => toBE w n)

/-- A running-seconds value in four bytes; above the counter's top the bytes are free (log entry 7). -/
def seconds (n : Nat) : List Byte :=
  if n ≤ Config.secondsTop then toBE 4 n else toBE 4 (Config.freeSeconds n).toNat
/-- An optional running-seconds value. -/
def fldT (i : Nat) (o : Option Nat) : Field := fld i (match o with | none => [] | some n => seconds n)

/-! ## Codes of enumerated values: positions in their defining lists (R184) -/

/-- FALSE, TRUE. -/
def boolCode (b : Bool) : Nat := if b then 1 else 0
/-- The pair rule is defined as TRUE, FALSE in R2, so TRUE is 0 (log entry 9). -/
def pairRuleCode (b : Bool) : Nat := if b then 0 else 1
def overrideCode : Override → Nat | .schedule => 0 | .forceDay => 1 | .forceAfter => 2
def hoursCode : Hours → Nat | .day => 0 | .after => 1
def entryCode : EntryState → Nat | .opened => 0 | .egressOnly => 1 | .flooded => 2
def freezeCode : Freeze → Nat | .thawed => 0 | .requested => 1 | .held => 2
def doorCode : DoorState → Nat
  | .secured => 0 | .interlockWait => 1 | .releasing => 2 | .released => 3 | .opened => 4 | .held => 5
  | .relocking => 6 | .forced => 7 | .unknown => 8
def dirCode : Dir → Nat | .entry => 0 | .exit => 1
def modeCode : Mode → Nat | .normal => 0 | .duress => 1
def outcomeCode : DecisionOutcome → Nat | .none => 0 | .granted => 1 | .releasedExit => 2 | .refused => 3
def refusalCode : RefusalCode → Nat
  | .notCommissioned => 1 | .doorUnavailable => 2 | .lockedOut => 3 | .zoneClosed => 4 | .unknownCredential => 5
  | .recordSuspect => 6 | .suspended => 7 | .locationMismatch => 8 | .clearance => 9 | .noGrant => 10
  | .zoneFull => 11 | .waitFull => 12 | .waitExpired => 13 | .pairTimeout => 14 | .interlockTimeout => 15
def indicationCode : Indication → Nat | .none => 0 | .grant => 1 | .deny => 2
def basisCode : Basis → Nat | .day => 0 | .grant => 1 | .host => 2 | .sweep => 3
def agentCode : AgentState → Nat
  | .unconfigured => 0 | .normal => 1 | .alert => 2 | .countdown => 3 | .abortHeld => 4 | .occupiedHold => 5
  | .discharge => 6 | .discharged => 7 | .spent => 8 | .fault => 9
def kindOfCountdownCode : CountdownKind → Nat | .opening => 0 | .closing => 1
def opCode : LogicOp → Nat
  | .and => 0 | .andc => 1 | .or => 2 | .orc => 3 | .nand => 4 | .nor => 5 | .xor => 6 | .eqv => 7
/-- The number of an alarm kind (R134). -/
def kindNum : Kind → Nat
  | .duress => 0 | .manDown => 1 | .checkinMissed => 2 | .occupiedHold => 3 | .discharge => 4 | .preDischarge => 5
  | .egressShortfall => 6 | .doorForced => 7 | .interlockBreach => 8 | .agentFault => 9 | .dischargeUnconfirmed => 10
  | .pairBroken => 11 | .dwellOverrun => 12 | .doorHeld => 13 | .suppressionAlert => 14 | .stationSilent => 15
  | .locationMismatch => 16 | .detectorFault => 17 | .recordSuspect => 18 | .routeFault => 19 | .clockUnset => 20
  | .isolated => 21 | .unverifiedZone => 22
/-- The table codes 1 to 11 (R184). -/
def tblCode : Tbl → Nat
  | .person => 1 | .grant => 2 | .occupancy => 3 | .zone => 4 | .door => 5 | .cls => 6 | .agent => 7 | .logic => 8
  | .route => 9 | .alarm => 10 | .station => 11
def deliveryCode : Delivery → Nat | .notify => 0 | .notifyAndMask => 1 | .localOnly => 2 | .forward => 3
def sounderCode : Sounder → Nat | .off => 0 | .steady => 1 | .slow => 2 | .fast => 3 | .evacuate => 4
def alarmCode : AlarmState → Nat | .raised => 0 | .notified => 1 | .acknowledged => 2
def stationCode : StationKind → Nat | .door => 0 | .zone => 1 | .agent => 2
def linkCode : Link → Nat | .awaiting => 0 | .answering => 1 | .silent => 2
def evacCode : Evac → Nat | .off => 0 | .evacuate => 1 | .agentPresent => 2
def statusCode : Status → Nat
  | .ok => 0 | .empty => 1 | .notFound => 2 | .duplicate => 3 | .full => 4 | .badValue => 5 | .wrongState => 6
  | .notHeld => 7 | .inUse => 8 | .inZone => 9 | .suspect => 10 | .unknownRequest => 11

/-- The defining lists of the enumerated values a request may carry. -/
def overrides : List Override := [.schedule, .forceDay, .forceAfter]
def ops : List LogicOp := [.and, .andc, .or, .orc, .nand, .nor, .xor, .eqv]
def deliveries : List Delivery := [.notify, .notifyAndMask, .localOnly, .forward]
def routeSounders : List Sounder := [.off, .steady, .slow, .fast]
def stationKinds : List StationKind := [.door, .zone, .agent]
/-- The record tables in the order of their codes 1 to 11. -/
def tables : List Tbl :=
  [.person, .grant, .occupancy, .zone, .door, .cls, .agent, .logic, .route, .alarm, .station]

/-- The table a code names (R184). -/
def tableOf (b : Byte) : Option Tbl := if b = 0#8 then none else tables[b.toNat - 1]?

/-! ## Host frames (R184) -/

/-- Reads exactly `n` fields from the bytes, which must end with the last of them. -/
def readFields : Nat → List Byte → Option (List Field)
  | 0, [] => some []
  | 0, _ :: _ => none
  | n + 1, i :: l :: rest =>
    if l.toNat ≤ 64 ∧ l.toNat ≤ rest.length then
      match readFields n (rest.drop l.toNat) with
      | none => none
      | some fs => some ((i, rest.take l.toNat) :: fs)
    else none
  | _ + 1, _ => none

/-- The bytes of fields. -/
def writeFields : List Field → List Byte
  | [] => []
  | (i, v) :: fs => i :: BitVec.ofNat 8 v.length :: (v ++ writeFields fs)

/-- The request code and the body of a request frame; none when the byte count differs from the one its lengths and
counts give, or a length is out of its range. -/
def readFrame : List Byte → Option (Nat × Req)
  | code :: tag :: table :: klen :: rest =>
    if klen.toNat ≤ 5 ∧ klen.toNat < rest.length then
      match rest.drop klen.toNat with
      | [] => none
      | count :: body =>
        match readFields count.toNat body with
        | none => none
        | some fs => some (code.toNat, { tag := tag, table := table, key := rest.take klen.toNat, fields := fs })
    else none
  | _ => none

/-- The bytes of a request frame. -/
def writeFrame (code : Nat) (r : Req) : List Byte :=
  BitVec.ofNat 8 code :: r.tag :: r.table :: BitVec.ofNat 8 r.key.length ::
    (r.key ++ BitVec.ofNat 8 r.fields.length :: writeFields r.fields)

/-- The command of a request code (R184). -/
def requestOf (code : Nat) (r : Req) : Option Instr :=
  match code with
  | 1 => some (.lookup r) | 2 => some (.list r) | 3 => some (.insert r) | 4 => some (.amend r) | 5 => some (.retire r)
  | 16 => some (.freeze r) | 17 => some (.thaw r) | 18 => some (.sweepClear r) | 19 => some (.hoursOverride r)
  | 20 => some (.remoteRelease r) | 21 => some (.lockoutOn r) | 22 => some (.lockoutOff r) | 23 => some (.isolate r)
  | 24 => some (.deisolate r) | 25 => some (.ventClear r) | 26 => some (.nextNotice r) | 27 => some (.acknowledge r)
  | 28 => some (.restore r) | 29 => some (.setMask r) | 30 => some (.setClock r) | 31 => some (.status r)
  | 32 => some (.commission r) | 33 => some (.ackRestart r) | 34 => some (.restart r)
  | _ => none

/-- The request code and body of a command that a request frame carries. -/
def codeOf : Instr → Option (Nat × Req)
  | .lookup r => some (1, r) | .list r => some (2, r) | .insert r => some (3, r) | .amend r => some (4, r)
  | .retire r => some (5, r) | .freeze r => some (16, r) | .thaw r => some (17, r) | .sweepClear r => some (18, r)
  | .hoursOverride r => some (19, r) | .remoteRelease r => some (20, r) | .lockoutOn r => some (21, r)
  | .lockoutOff r => some (22, r) | .isolate r => some (23, r) | .deisolate r => some (24, r)
  | .ventClear r => some (25, r) | .nextNotice r => some (26, r) | .acknowledge r => some (27, r)
  | .restore r => some (28, r) | .setMask r => some (29, r) | .setClock r => some (30, r) | .status r => some (31, r)
  | .commission r => some (32, r) | .ackRestart r => some (33, r) | .restart r => some (34, r)
  | .unknownRequest _ | .hostWriteOverrun | .hostRead | .poll | .goodReport _ | .replyWindowExpiry
  | .leadExpiry _ | .strikeTimerExpiry _ | .heldOpenExpiry _ | .relockHoldExpiry _ | .interlockTimeout _
  | .exitDue _ | .indicationReturn _ | .pairWindowExpiry _ | .waitExpired | .dwellDeadline _ | .checkinDeadline _
  | .pairGraceDeadline _ | .countdownDeadline _ | .confirmationDeadline _ | .calendarAdvance | .recordCheckSweep _
  | .resetLine _ | .mainSupplyDip _ _ | .mainSupplyRestored _ _ => none

/-- A request code of the record requests. -/
def isRecordCode (code : Nat) : Bool := 1 ≤ code && code ≤ 5

/-- The command that the bytes of a write transaction are: checks 1 and 2 of R170 make every other frame an
UNKNOWN_REQUEST. -/
def commandOfFrame (bs : List Byte) : Instr :=
  match readFrame bs with
  | none => .unknownRequest bs
  | some (code, r) =>
    match requestOf code r with
    | none => .unknownRequest bs
    | some i => if isRecordCode code && (tableOf r.table).isNone then .unknownRequest bs else i

/-- The bytes of the write transaction that carries a command, for the commands that a request frame carries. -/
def frameOfCommand (i : Instr) : List Byte :=
  match codeOf i with
  | some (code, r) => writeFrame code r
  | none => match i with | .unknownRequest bs => bs | _ => []

/-- The bytes of a response frame (R184). -/
def writeResponse (p : Response) : List Byte :=
  p.tag :: BitVec.ofNat 8 (statusCode p.status) ::
    BitVec.ofNat 8 (boolCode p.overrun + 2 * boolCode p.notice + 4 * boolCode p.resetSeen + 8 * boolCode p.clamped) ::
    BitVec.ofNat 8 p.fields.length :: writeFields p.fields

/-! ## Station frames (R160, R186) -/

/-- One bit of the CRC register. -/
def crcBit (c : BitVec 16) : BitVec 16 := if c.msb then (c <<< 1) ^^^ 0x1021#16 else c <<< 1

/-- One byte into the CRC register, most significant bit first. -/
def crcByte (c : BitVec 16) (b : Byte) : BitVec 16 :=
  crcBit (crcBit (crcBit (crcBit (crcBit (crcBit (crcBit (crcBit (c ^^^ (b.setWidth 16 <<< 8)))))))))

/-- The 16-bit CRC of R160: generator x^16 + x^12 + x^5 + 1, starting at all ones, not inverted. -/
def crc (bs : List Byte) : BitVec 16 := bs.foldl crcByte 0xFFFF#16

/-- The bytes of a frame with its CRC, high byte first. -/
def withCrc (bs : List Byte) : List Byte := bs ++ toBE 2 (crc bs).toNat

/-- The output image of a poll, and of the fields 20 and 21 of STATION (R186). Bits 6..2 of an agent's are 0 (log entry 77,
DESIGN CHOICE). -/
def outputImage : Outputs → List Byte
  | .door strike ind => toBE 2 strike ++ toBE 1 (indicationCode ind)
  | .zone p => toBE 1 (sounderCode p)
  | .agent flag evac => toBE 1 (128 * boolCode flag + evacCode evac)

/-- The bytes of a poll (R159, R186). -/
def pollFrame (address : Nat) (fresh : Bool) (token : Nat) (ack : Option Nat) (out : Outputs) : List Byte :=
  withCrc (toBE 1 address ++
    toBE 1 (128 * boolCode fresh + 16 * token + (match ack with | none => 0 | some n => 8 + n)) ++ outputImage out)

/-- The status fields of a report by station kind (R162, R186). -/
inductive StatusFields where
  | door (contactOpen latch : Bool)
  | zone
  | agent (v1 v2 : Nat) (manual abort spareA spareB ready pressure : Bool)
  deriving DecidableEq, Repr

/-- An event of a report (R186): its type, credential (0 when none) and qualifier. -/
structure Event where
  type       : Nat
  credential : Nat
  qualifier  : Nat
  deriving DecidableEq, Repr

/-- A report (R158, R186). -/
structure Report where
  number : Nat
  echo   : Nat
  status : StatusFields
  events : List Event
  deriving DecidableEq, Repr

/-- The bytes of status of a station kind. -/
def statusSize : StationKind → Nat | .door => 1 | .zone => 0 | .agent => 5

/-- Reads the status bytes of a station kind; a channel value above 1023 is none (R186). Bits to which R186 gives no meaning
are passed over (log entry 76, DESIGN CHOICE). -/
def readStatus (k : StationKind) (bs : List Byte) : Option StatusFields :=
  match k, bs with
  | .door, [b] => some (.door (b.getLsbD 0) (b.getLsbD 1))
  | .zone, [] => some .zone
  | .agent, [a1, a0, b1, b0, f] =>
    if ofBE [a1, a0] ≤ 1023 ∧ ofBE [b1, b0] ≤ 1023 then
      some (.agent (ofBE [a1, a0]) (ofBE [b1, b0]) (f.getLsbD 0) (f.getLsbD 1) (f.getLsbD 2) (f.getLsbD 3)
        (f.getLsbD 4) (f.getLsbD 5))
    else none
  | _, _ => none

/-- Reads `n` events of six bytes each. -/
def readEvents : Nat → List Byte → Option (List Event)
  | 0, [] => some []
  | n + 1, t :: c3 :: c2 :: c1 :: c0 :: q :: rest =>
    match readEvents n rest with
    | none => none
    | some es => some (⟨t.toNat, ofBE [c3, c2, c1, c0], q.toNat⟩ :: es)
  | _, _ => none

/-- A good report of the station polled (R160, R186): address, report number, echoed token, event count, status of
the station's kind, byte count and CRC. Any other reply is none. -/
def readReport (k : StationKind) (address : Nat) (bs : List Byte) : Option Report :=
  match bs with
  | a :: c :: n :: rest =>
    if a.toNat = address ∧ c.toNat % 4 = 0 ∧ n.toNat ≤ 4 ∧ rest.length = statusSize k + 6 * n.toNat + 2 ∧
        bs.drop (bs.length - 2) = toBE 2 (crc (bs.take (bs.length - 2))).toNat then
      match readStatus k (rest.take (statusSize k)),
            readEvents n.toNat ((rest.drop (statusSize k)).take (6 * n.toNat)) with
      | some st, some es => some { number := c.toNat / 32, echo := c.toNat / 4 % 8, status := st, events := es }
      | _, _ => none
    else none
  | _ => none

/-- The status bytes of a report. -/
def writeStatus : StatusFields → List Byte
  | .door o l => toBE 1 (boolCode o + 2 * boolCode l)
  | .zone => []
  | .agent v1 v2 m a sa sb r p =>
    toBE 2 v1 ++ toBE 2 v2 ++
      toBE 1 (boolCode m + 2 * boolCode a + 4 * boolCode sa + 8 * boolCode sb + 16 * boolCode r + 32 * boolCode p)

/-- The bytes of one event. -/
def writeEvent (e : Event) : List Byte := toBE 1 e.type ++ toBE 4 e.credential ++ toBE 1 e.qualifier

/-- The bytes of a report. -/
def writeReport (address : Nat) (r : Report) : List Byte :=
  withCrc (toBE 1 address ++ toBE 1 (32 * r.number + 4 * r.echo) ++ toBE 1 r.events.length ++ writeStatus r.status ++
    (r.events.map writeEvent).flatten)

end Sys2Proof.Machine
end

