-- ==== Sys2Proof/Machine/Alarms.lean ====
section
/-! DEFINITION. The Alarm Unit (07_staff_alarms.md): raising and merging, eviction and overflow, ends, withdrawals and
retirement, presentable records, and the lines and sounder patterns that are computed from the table. -/

namespace Sys2Proof.Machine

/-- Latching kinds (R134). -/
def isLatching : Kind → Bool
  | .duress | .manDown | .discharge => true
  | _ => false

/-- Momentary kinds: the condition ends as it is raised (R134). -/
def isMomentary : Kind → Bool
  | .locationMismatch | .routeFault => true
  | _ => false

namespace AlarmUnit

/-- The route limit in force: 23 while the stored one is suspect (R153). -/
def limitInForce (u : AlarmUnit) : Nat := if u.limitSuspect then 23 else u.limit

/-- The kind is routed past the table: its number is at or above the route limit (R137). -/
def beyondLimit (u : AlarmUnit) (k : Kind) : Bool := u.limitInForce ≤ kindNum k

def routeRec (u : AlarmUnit) (n : Nat) : RouteRec := (u.routes[n]?).getD {}

/-- The route taken by a raise of a kind (R137), with class 0 for DURESS in every case. -/
def routeTaken (u : AlarmUnit) (k : Kind) : Route :=
  let r : Route :=
    if u.beyondLimit k then
      if k = .routeFault then ⟨3, .notify, .off⟩ else ⟨0, .notify, .off⟩
    else if (u.routeRec (kindNum k)).suspect then ⟨0, .notify, .off⟩
    else (u.routeRec (kindNum k)).cfg
  if k = .duress then { r with cls := 0 } else r

/-- An ordinary place (R135). -/
def isOrdinary (n : Nat) : Bool := n < Config.alarmPlaces

/-- The open ordinary record of a kind and subject (R138). -/
def openRecord (u : AlarmUnit) (k : Kind) (j : Subject) : Option (Nat × AlarmRec) :=
  u.recs.find? (fun p => isOrdinary p.1 && p.2.kind = some k && p.2.subject = some j)

/-- A number leaves every hold set (R146). -/
def unhold (u : AlarmUnit) (n : Nat) : AlarmUnit := { u with holds := u.holds.filter (fun h => h.2 != n) }

/-- A record leaves the table: its place becomes free and its number leaves any hold set (R144). -/
def remove (u : AlarmUnit) (n : Nat) : AlarmUnit := { u.unhold n with recs := u.recs.del n }

/-- The overflow record of class `c` that a first count makes (R140). -/
def newOverflow (now c : Nat) (fwd : Bool) : AlarmRec :=
  { kind := none, subject := none, raisedAt := now, lastRaised := now, ended := true, cls := c,
    delivery := if fwd then .forward else .notify }

/-- An open overflow record after a further count (R140). -/
def countedInto (r : AlarmRec) (now : Nat) (fwd : Bool) : AlarmRec :=
  { r with count := min 255 (r.count + 1), lastRaised := now, delivery := if fwd then .forward else r.delivery }

/-- A failed overflow record as it is rewritten (R153). -/
def rewrittenOverflow (now c : Nat) : AlarmRec :=
  { kind := none, subject := none, raisedAt := now, lastRaised := now, count := 255, ended := true, cls := c,
    delivery := .forward }

/-- Counts an alarm into the overflow record of a class (R140). `fwd`: the alarm counted had delivery FORWARD. -/
def count (u : AlarmUnit) (now c : Nat) (fwd : Bool) : AlarmUnit :=
  let n := Config.alarmPlaces + c
  match u.recs.find n with
  | none => { u with recs := u.recs.put n (newOverflow now c fwd) }
  | some r => { u with recs := u.recs.put n (countedInto r now fwd) }

/-- The acknowledged ordinary record of a class that R139 evicts: the earliest raised-at, then the lower number. -/
def victimIn (u : AlarmUnit) (c : Nat) : Option (Nat × AlarmRec) :=
  u.recs.foldl (fun best p =>
    if isOrdinary p.1 && p.2.cls = c && p.2.state = .acknowledged then
      match best with
      | none => some p
      | some q => if p.2.raisedAt < q.2.raisedAt then some p else best
    else best) none

/-- The record to evict for a raise of class `c`: classes 3, 2, 1 in turn, those greater than `c` (R139). -/
def victim (u : AlarmUnit) (c : Nat) : Option (Nat × AlarmRec) :=
  ([3, 2, 1].filter (fun x => c < x)).findSome? (fun x => u.victimIn x)

/-- The record a raise makes (R135, R137). -/
def newRecord (u : AlarmUnit) (now : Nat) (k : Kind) (j : Subject) (z p : Option Nat) : AlarmRec :=
  { kind := some k, subject := some j, zone := z, person := p, raisedAt := now, lastRaised := now,
    ended := isMomentary k, latching := isLatching k, cls := (u.routeTaken k).cls,
    delivery := (u.routeTaken k).delivery, sounder := (u.routeTaken k).sounder }

/-- The record after a raise is merged into it (R138). -/
def merged (r : AlarmRec) (now : Nat) (k : Kind) (z p : Option Nat) : AlarmRec :=
  { r with count := min 255 (r.count + 1), lastRaised := now, ended := isMomentary k,
           zone := z.orElse (fun _ => r.zone), person := p.orElse (fun _ => r.person) }

/-- One raise: a merge, a new record, an eviction and a new record, or a count (R138, R139). -/
def raiseOne (u : AlarmUnit) (now : Nat) (k : Kind) (j : Subject) (z p : Option Nat) : AlarmUnit :=
  match u.openRecord k j with
  | some (n, r) => { u with recs := u.recs.put n (merged r now k z p) }
  | none =>
    match u.recs.freeFrom Config.alarmPlaces 0 with
    | some n => { u with recs := u.recs.put n (u.newRecord now k j z p) }
    | none =>
      match u.victim (u.routeTaken k).cls with
      | some (n, v) =>
        let u' := (u.remove n).count now v.cls (v.delivery = .forward)
        { u' with recs := u'.recs.put n (u.newRecord now k j z p) }
      | none => u.count now (u.routeTaken k).cls ((u.routeTaken k).delivery = .forward)

/-- A raise, with the ROUTE_FAULT that a kind at or above the route limit raises too (R137). -/
def raise (u : AlarmUnit) (now : Nat) (k : Kind) (j : Subject) (z p : Option Nat) : AlarmUnit :=
  let u' := u.raiseOne now k j z p
  if u.beyondLimit k && k != .routeFault then
    u'.raiseOne now .routeFault (.record .route (kindNum k)) none none
  else u'

/-- Ends the condition of one record: set, and the record retired when it is acknowledged (R141, R144). -/
def endRecord (u : AlarmUnit) (n : Nat) (r : AlarmRec) : AlarmUnit :=
  if r.state = .acknowledged then u.remove n else { u with recs := u.recs.put n { r with ended := true } }

/-- An end for a kind and subject: nothing for no record, a latching one or one already ended (R141). -/
def endKind (u : AlarmUnit) (k : Kind) (j : Subject) : AlarmUnit :=
  match u.openRecord k j with
  | none => u
  | some (n, r) => if r.latching || r.ended then u else u.endRecord n r

/-- A withdrawal: the condition of every open ordinary record with the subject ends (R141). -/
def withdraw (u : AlarmUnit) (j : Subject) : AlarmUnit :=
  (u.recs.filter (fun p => isOrdinary p.1 && p.2.subject = some j)).foldl (fun u p => u.endRecord p.1 p.2) u

/-- A DURESS record is NOTIFIED: the duress block (R145). -/
def duressNotified (u : AlarmUnit) : Bool :=
  u.recs.any (fun p => p.2.kind = some .duress && p.2.state = .notified)

/-- A class is in the class mask (R145). -/
def masked (u : AlarmUnit) (c : Nat) : Bool := u.mask.getLsbD c

/-- A class's hold set is not empty (R146). -/
def heldBack (u : AlarmUnit) (c : Nat) : Bool := u.holds.any (fun h => h.1 = c)

/-- The record is presentable (R145). A DURESS record is kept back only by the duress block. -/
def presentable (u : AlarmUnit) (r : AlarmRec) : Bool :=
  r.state = .raised &&
    (if r.kind = some .duress then !u.duressNotified
     else r.delivery != .localOnly && !u.masked r.cls && !u.heldBack r.cls)

/-- The presentable record that NEXT_NOTICE presents: lowest class, then earliest raised-at, then lowest number. -/
def nextRecord (u : AlarmUnit) : Option (Nat × AlarmRec) :=
  u.recs.foldl (fun best p =>
    if u.presentable p.2 then
      match best with
      | none => some p
      | some q =>
        if p.2.cls < q.2.cls || (p.2.cls = q.2.cls && p.2.raisedAt < q.2.raisedAt) then some p else best
    else best) none

/-- The NOTICE line (R147). -/
def noticeLine (u : AlarmUnit) : Bool := u.recs.any (fun p => u.presentable p.2)

/-- The FORWARD line (R148). -/
def forwardLine (u : AlarmUnit) : Bool :=
  u.recs.any (fun p => p.2.delivery = .forward && p.2.state != .acknowledged)

/-- An open DURESS record has one of these zones in its zone field (R151). -/
def duressIn (u : AlarmUnit) (zs : List Nat) : Bool :=
  u.recs.any (fun p => p.2.kind = some .duress && match p.2.zone with | none => false | some z => zs.contains z)

/-- A failed ordinary record is discarded and counted into class 0 with FORWARD; a failed overflow record is
rewritten (R153). -/
def fail (u : AlarmUnit) (now n : Nat) : AlarmUnit :=
  match u.recs.find n with
  | none => u
  | some _ =>
    if isOrdinary n then (u.remove n).count now 0 true
    else { u with recs := u.recs.put n (rewrittenOverflow now (n - Config.alarmPlaces)) }

/-- Sounders from the highest to the lowest (R149). -/
def louder (a b : Sounder) : Sounder := if sounderCode' a < sounderCode' b then b else a
where
  /-- EVACUATE, FAST, SLOW, STEADY, OFF from the highest (R149). -/
  sounderCode' : Sounder → Nat | .off => 0 | .steady => 1 | .slow => 2 | .fast => 3 | .evacuate => 4

/-- The highest sounder that unacknowledged records ask of a zone; DURESS records ask none (R149). -/
def recordSounder (u : AlarmUnit) (z : Nat) : Sounder :=
  u.recs.foldl (fun acc p =>
    if p.2.zone = some z && p.2.state != .acknowledged && p.2.kind != some .duress then louder acc p.2.sounder
    else acc) .off

end AlarmUnit

namespace State

/-- Raises an alarm (R138). -/
def raise (s : State) (k : Kind) (j : Subject) (z p : Option Nat) : State :=
  s.setAlm (s.alm.raise s.now k j z p)

/-- Sends the end of a condition (R141). -/
def endAlarm (s : State) (k : Kind) (j : Subject) : State := s.setAlm (s.alm.endKind k j)

/-- Withdraws a subject (R141). -/
def withdraw (s : State) (j : Subject) : State := s.setAlm (s.alm.withdraw j)

/-- Ends RECORD_SUSPECT for a record (R174, R181). -/
def endSuspect (s : State) (t : Tbl) (n : Nat) : State := s.endAlarm .recordSuspect (.record t n)

/-- Raises RECORD_SUSPECT for a record (R181). -/
def raiseSuspect (s : State) (t : Tbl) (n : Nat) : State := s.raise .recordSuspect (.record t n) none none

/-- Marks a zone unverified, raising UNVERIFIED_ZONE when the flag changes (R90). An unconfigured zone has no flag,
so that a mark on the damaged inner zone of a suspect door may do nothing (log entry 86, DESIGN CHOICE). -/
def markUnverified (s : State) (z : Nat) : State :=
  match s.zone? z with
  | none => s
  | some r =>
    if r.verified then
      (s.changeZone z (fun r => { r with verified := false })).raise .unverifiedZone (.zone z) (some z) none
    else s

/-- An agent state in which the covered zones sound EVACUATE and stay EGRESS_ONLY (R109). -/
def inRelease : AgentState → Bool
  | .countdown | .abortHeld | .occupiedHold | .discharge => true
  | _ => false

/-- The resolved sounder pattern of a zone (R149). -/
def sounderOf (s : State) (z : Nat) : Sounder :=
  match s.coveringAgent z with
  | some a => if inRelease (s.agent a).state then .evacuate else s.alm.recordSounder z
  | none => s.alm.recordSounder z

end State
end Sys2Proof.Machine
end

