-- ==== Sys2Proof/Machine/Flags.lean ====
section
/-! DEFINITION. The condition word of an agent zone: its bits and their sources (R112), detector compare (R110), and
the release logic (R113, R114). -/

namespace Sys2Proof.Machine

/-- A word with one bit set or cleared. -/
def setBit (w : BitVec 32) (i : Nat) (b : Bool) : BitVec 32 :=
  if b then w ||| (1#32 <<< i) else w &&& ~~~(1#32 <<< i)

/-- The word `old` with the bits of `mask` taken from `new`. -/
def blend (old new mask : BitVec 32) : BitVec 32 := (old &&& ~~~mask) ||| (new &&& mask)

/-! ## Detector compare (R110) -/

/-- The effective alert threshold: the larger of A and F + 1. -/
def alertEff (c : Channel) : Nat := max c.alert (c.floor + 1)
/-- The effective fire threshold: the larger of Fi and A_eff. -/
def fireEff (c : Channel) : Nat := max c.fire (alertEff c)

/-- A threshold bit before the forcing of FAULT and OVER: set at the threshold, cleared below it less the
hysteresis, kept in between. -/
def latched (prev : Bool) (v t h : Nat) : Bool := if t ≤ v then true else if v + h < t then false else prev

/-- The four bits of a channel after a report of value `v`. -/
structure ChannelBits where
  fault : Bool
  overRange : Bool
  alert : Bool
  fire  : Bool
  deriving DecidableEq, Repr

/-- Detector compare of one channel against its previous ALERT and FIRE bits (R110). -/
def detect (c : Channel) (v : Nat) (prevAlert prevFire : Bool) : ChannelBits :=
  let fault : Bool := v < c.floor
  let overRange : Bool := v = 1023
  { fault := fault, overRange := overRange,
    alert := (latched prevAlert v (alertEff c) c.hyst && !fault) || overRange,
    fire := (latched prevFire v (fireEff c) c.hyst && !fault) || overRange }

/-! ## Release logic (R113, R114) -/

/-- The result of an operation (R113). -/
def opResult (op : LogicOp) (a b : Bool) : Bool :=
  match op with
  | .and => a && b
  | .andc => a && !b
  | .or => a || b
  | .orc => a || !b
  | .nand => !(a && b)
  | .nor => !(a || b)
  | .xor => a != b
  | .eqv => a == b

/-- The terms in table order, each reading its sources as they stand and writing its target (R114). -/
def runTerms (w : BitVec 32) : List Term → BitVec 32
  | [] => w
  | t :: ts => runTerms (setBit w t.target (opResult t.op (w.getLsbD t.a) (w.getLsbD t.b))) ts

namespace State

/-- The logic in force: the reset logic while the agent's table is suspect (R115). -/
def logicInForce (s : State) (a : Nat) : LogicCfg :=
  if (s.logicRec a).suspect then { terms := resetTerms } else (s.logicRec a).cfg

/-! ## Inputs that are derived from the records (R112) -/

/-- OCC_CLEAR: every covered zone has occupant count 0, reservations 0 and verified TRUE. -/
def occClear (s : State) (a : Nat) : Bool :=
  (s.coverage a).all (fun z => s.occupants z = 0 && s.reservations z = 0 &&
    match s.zone? z with | none => true | some r => r.verified)

/-- DOORS_CLOSED: every door whose inner zone is covered is SECURED or RELOCKING. -/
def doorsClosed (s : State) (a : Nat) : Bool :=
  s.door.doors.all (fun p => !s.covers a p.2.cfg.inner || p.2.state = .secured || p.2.state = .relocking)

/-- AFTER_HOURS: the top zone's hours state is AFTER. -/
def afterHours (s : State) (a : Nat) : Bool :=
  match s.effectiveTop a with | none => false | some t => s.isAfter t

/-- DURESS_OPEN: an open DURESS record has a covered zone as its zone. -/
def duressOpen (s : State) (a : Nat) : Bool := s.alm.duressIn (s.coverage a)

/-- The station record that serves an agent (R106, R157). -/
def agentServed (s : State) (a : Nat) : Option StationRec :=
  match (s.agent a).cfg.station with
  | none => none
  | some addr =>
    match s.station? addr with
    | none => none
    | some st => if st.cfg.kind = .agent && st.cfg.bound = a && !st.suspect then some st else none

/-- STATION_OK: the agent's station is ANSWERING. -/
def stationOk (s : State) (a : Nat) : Bool :=
  match s.agentServed a with | none => false | some st => st.link = .answering

end State

/-- Bit 7, ABORT, and the other bits of R112 that the rules name. -/
def bitManual : Nat := 6
def bitAbort : Nat := 7
def bitSpareA : Nat := 8
def bitSpareB : Nat := 9
def bitOccClear : Nat := 10
def bitDoorsClosed : Nat := 11
def bitAfterHours : Nat := 12
def bitDuressOpen : Nat := 13
def bitReady : Nat := 14
def bitStationOk : Nat := 15
def bitIsolated : Nat := 16
def bitOne : Nat := 17

/-- A mask of one bit. -/
def maskOf (i : Nat) : BitVec 32 := 1#32 <<< i

/-- The derived inputs: bits 10 to 13, 15, 16 and 17. -/
def derivedMask : BitVec 32 := 0x0003BC00#32

namespace State

/-- The derived inputs of an agent as the records stand; every other bit is clear. -/
def derivedWord (s : State) (a : Nat) : BitVec 32 :=
  setBit (setBit (setBit (setBit (setBit (setBit (setBit 0#32
    bitOccClear (s.occClear a)) bitDoorsClosed (s.doorsClosed a)) bitAfterHours (s.afterHours a))
    bitDuressOpen (s.duressOpen a)) bitStationOk (s.stationOk a)) bitIsolated (s.agent a).isolated) bitOne true

end State

/-- The condition word with the bits of one channel (R112): ALERT, FIRE, FAULT at `base`, OVER at `overBit`. -/
def putChannel (w : BitVec 32) (base overBit : Nat) (b : ChannelBits) : BitVec 32 :=
  setBit (setBit (setBit (setBit w base b.alert) (base + 1) b.fire) (base + 2) b.fault) overBit b.overRange

end Sys2Proof.Machine
end

