-- ==== Sys2Proof/Machine/Persons.lean ====
section
/-! DEFINITION. Persons and grants (03_persons_and_grants.md): the test of a record as it is read, credential
resolution, window and validity arithmetic, the grant search, grant uses and grant retirement. -/

namespace Sys2Proof.Machine

/-- A minute of week lies inside a window (R55). -/
def inWindow (s e m : Nat) : Bool := if s < e then s ≤ m && m < e else if e < s then s ≤ m || m < e else true

/-- What a credential resolves to (R43). -/
inductive Resolution where
  | unknown
  | suspect
  | person (p : Nat)
  deriving DecidableEq, Repr

/-- The person a credential resolves to. -/
def Resolution.person? : Resolution → Option Nat
  | .person p => some p
  | .unknown => none
  | .suspect => none

namespace State

/-! ## The test of a record as it is read (R181) -/

/-- Reads a person record: one that fails its check value becomes suspect at that moment. -/
def testPerson (s : State) (p : Nat) : State :=
  match s.person? p with
  | none => s
  | some r =>
    if r.checkOk || r.suspect then s
    else (s.putPerson p { r with suspect := true }).raiseSuspect .person p

/-- Reads a grant record, in the same way. -/
def testGrant (s : State) (g : Nat) : State :=
  match s.grant? g with
  | none => s
  | some r =>
    if r.checkOk || r.suspect then s
    else (s.putGrant g { r with suspect := true }).raiseSuspect .grant g

/-- Reads several person records in the order given. -/
def testPersons (s : State) (ps : List Nat) : State := ps.foldl (fun s p => s.testPerson p) s

/-- A person's record is absent or suspect. -/
def personSuspect (s : State) (p : Nat) : Bool :=
  match s.person? p with | none => true | some r => r.suspect

/-! ## Resolution (R43) -/

/-- The numbers of the records whose stored credential is this one, ascending. -/
def holders (s : State) (cred : Nat) : List Nat :=
  (s.adm.persons.filter (fun q => q.2.cfg.credential = cred)).map (·.1)

/-- What the records, as they stand, resolve a credential to. -/
def resolved (s : State) (cred : Nat) : Resolution :=
  match s.adm.persons.filter (fun q => q.2.cfg.credential = cred) with
  | [] => .unknown
  | [(p, r)] => if r.suspect then .suspect else .person p
  | _ :: _ :: _ => .suspect

/-- Resolves a credential: the records that hold it are tested, and then the records decide. R43 leaves open which records
a resolution reads: the model tests the ones whose stored credential equals the one reported, and not the whole table that
it searches (log entry 38, DESIGN CHOICE). -/
def resolve (s : State) (cred : Nat) : State × Resolution :=
  let s' := s.testPersons (s.holders cred)
  (s', s'.resolved cred)

/-! ## Grants (R55 to R57) -/

/-- A grant is valid on a day (R56). -/
def validOn (g : GrantCfg) (day : Nat) : Bool :=
  g.fromDay ≤ day && match g.untilDay with | none => true | some u => day ≤ u

/-- A grant matches a person and zone at this moment (R57). -/
def grantMatches (s : State) (g : GrantRec) (p z : Nat) : Bool :=
  g.cfg.person = p && !g.suspect && g.cfg.zones.contains z && (s.zone? z).isSome &&
    (match s.ret.calendar with
     | none => false
     | some c => validOn g.cfg c.day && inWindow g.cfg.wStart g.cfg.wEnd c.minute) &&
    (match g.cfg.uses with | none => true | some n => 0 < n)

/-- A person's grant list: the numbers of the grants that name the person, ascending (R50). Listing and counting them (R44)
tests none of the records, which the spec leaves open (log entry 50, DESIGN CHOICE). -/
def grantList (s : State) (p : Nat) : List Nat :=
  (s.adm.grants.filter (fun q => q.2.cfg.person = p)).map (·.1)

/-- Walks grant numbers, testing each record as it is read, to the first that matches (R57). -/
def searchGrants (s : State) (p z : Nat) : List Nat → State × Option (Nat × GrantCfg)
  | [] => (s, none)
  | n :: rest =>
    let s' := s.testGrant n
    match s'.grant? n with
    | none => searchGrants s' p z rest
    | some g => if s'.grantMatches g p z then (s', some (n, g.cfg)) else searchGrants s' p z rest

/-- The grant search for a person and zone (R57). -/
def grantSearch (s : State) (p z : Nat) : State × Option (Nat × GrantCfg) :=
  s.searchGrants p z (s.grantList p)

/-- A completed ENTRY passage under a grant is reported: its uses remaining fall by one where applicable (R59). -/
def reportUse (s : State) (x : Passage) : State :=
  match x.grant with
  | none => s
  | some n =>
    if x.retiredGrant then s
    else
      let s' := s.testGrant n
      match s'.grant? n with
      | none => s'
      | some g =>
        if g.suspect then s'
        else match g.cfg.uses with
          | none => s'
          | some 0 => s'
          | some (u + 1) => s'.putGrant n { g with cfg := { g.cfg with uses := some u } }

/-- A passage that names the retired grant number is marked (R54). -/
def markPassage (n : Nat) (x : Passage) : Passage :=
  if x.dir = .entry && x.grant = some n then { x with retiredGrant := true } else x

/-- A door's pending passages and pair wait after the retirement of a grant (R54). -/
def markDoor (n : Nat) (d : DoorRec) : DoorRec :=
  { d with
    cycle := d.cycle.map (fun c => { c with passages := c.passages.map (markPassage n) })
    pairWait := d.pairWait.map (fun w => if w.grant = some n then { w with retiredGrant := true } else w) }

/-- The retirement of a grant that exists (R54). -/
def dropGrant (s : State) (n : Nat) : State :=
  let s1 := s.setAdm { s.adm with grants := s.adm.grants.del n }
  let s2 := s1.setDoor { s1.door with doors := s1.door.doors.map (fun q => (q.1, markDoor n q.2)) }
  s2.endSuspect .grant n

end State
end Sys2Proof.Machine
end

