-- ==== Sys2Proof/Machine/Doors.lean ====
section
/-! DEFINITION. The Door Controller (02_doors_and_vestibules.md): release cycles, the arbiter of the open right,
contact openings and closings, decisions, zone closure, station silence and return. The completion that a closing
hands over is applied by `Sys2Proof/Machine/Occupancy.lean`. -/

namespace Sys2Proof.Machine

/-! ## What a door's state says (R19) -/

/-- The contact is open by the part's record. Of an UNKNOWN door the part holds no contact, and it counts as not open, for
INTERLOCK_BREACH too (R30; log entry 68, DESIGN CHOICE). -/
def contactOpen : DoorState → Bool
  | .opened | .held | .forced => true
  | _ => false

/-- The door is closed for its pair (R19). -/
def closedForPair : DoorState → Bool
  | .secured | .interlockWait | .relocking => true
  | _ => false

/-- The desired strike of a door's station: ON with the cycle's strike time in RELEASED, OFF (0) otherwise (R19). -/
def desiredStrike (r : DoorRec) : Nat :=
  match r.state, r.cycle with
  | .released, some c => c.vals.strike
  | _, _ => 0

/-- The indication that a decision sets (R35). -/
def indicationFor : DecisionOutcome → Indication
  | .granted | .releasedExit => .grant
  | .refused => .deny
  | .none => .none

/-! ## Cycles (R20, R21) -/

/-- Exit due of an exit that arrived at a tenth of a second, in units of 0.01 s (R20). -/
def exitDueAt (vals : ClassCfg) (arrival : Nat) : Nat := arrival * 10 + vals.limit * 100

/-- A cycle waits for an exit (R20). -/
def waitsForExit (c : Cycle) : Bool := c.unlisted || c.passages.any (fun x => x.dir = .exit)

/-- A cycle holds nothing that waits. -/
def emptyCycle (c : Cycle) : Bool := c.passages.isEmpty && !c.unlisted

/-- A release request joins a cycle (R21): an exit always, entries only when the list has places for all of them. -/
def joinCycle (c : Cycle) (xs : List Passage) : Option Cycle :=
  if xs.any (fun x => x.dir = .entry) then
    if c.passages.length + xs.length ≤ Config.cyclePlaces then some { c with passages := c.passages ++ xs } else none
  else
    let due := match c.exitDue, xs with
      | some e, _ => some e
      | none, x :: _ => some (exitDueAt c.vals x.arrival)
      | none, [] => none
    if c.passages.length + xs.length ≤ Config.cyclePlaces then
      some { c with passages := c.passages ++ xs, exitDue := due }
    else some { c with unlisted := true, exitDue := due }

/-- The door begins its lead on the time base, or with a lead of 0 enters RELEASED at once (R22, R182). -/
def beginLead (base : Nat) (r : DoorRec) : DoorRec :=
  match r.cycle with
  | none => r
  | some c =>
    if c.vals.lead = 0 then { r with state := .released, cycle := some { c with leadEnd := none } }
    else { r with state := .releasing, cycle := some { c with leadEnd := some (base + c.vals.lead * 10) } }

/-- The door enters RELEASED (R22, R29): the strike is driven. -/
def enterReleased (r : DoorRec) : DoorRec :=
  { r with state := .released, cycle := r.cycle.map (fun c => { c with leadEnd := none }) }

/-- What became of a release request (R21). -/
inductive Joined where
  | taken | full | dropped
  deriving DecidableEq, Repr

namespace State

/-- The class values a door reads when it creates a cycle: the reset values when the door or its class is suspect
(R18, R41). -/
def classVals (s : State) (r : DoorRec) : ClassCfg :=
  if r.suspect || (s.classRec r.cfg.cls).suspect then {} else (s.classRec r.cfg.cls).cfg

/-- A door's partner; one that does not name the door back is ignored (R41). -/
def partnerOf (s : State) (d : Nat) : Option Nat :=
  match s.door? d with
  | none => none
  | some r =>
    match r.cfg.partner with
    | none => none
    | some p =>
      match s.door? p with
      | none => none
      | some q => if q.cfg.partner = some d && p != d then some p else none

/-- A cycle created now for a door (R20). -/
def newCycle (s : State) (r : DoorRec) (xs : List Passage) : Cycle :=
  let vals := s.classVals r
  { passages := xs, vals := vals, began := s.nowTenths
    exitDue := (xs.find? (fun x => x.dir = .exit)).map (fun x => exitDueAt vals x.arrival) }

/-! ## Decisions (R35) -/

/-- A decision is reported at a door: it replaces the last decision, and the indication follows for 3 s. -/
def decided (s : State) (d : Nat) (x : Decision) : State :=
  s.changeDoor d (fun r => { r with decision := x, indication := indicationFor x.outcome, indEnd := some (s.base + 300) })

/-- A refusal is reported at a door (R67). -/
def refuse (s : State) (d : Nat) (c : RefusalCode) (p g : Option Nat) : State :=
  s.decided d { outcome := .refused, code := some c, person := p, grant := g, time := some s.now }

/-- Each of several passages is refused, in list order, so that the last one's refusal stands as the last decision. R37
gives them no order (log entry 49, DESIGN CHOICE). -/
def refuseEach (s : State) (d : Nat) (c : RefusalCode) (xs : List Passage) : State :=
  xs.foldl (fun s x => s.refuse d c x.person x.grant) s

/-! ## The open right (R27) -/

/-- The door may take the right from a partner in this state (R27). -/
def mayTake (r q : DoorRec) : Bool :=
  r.state = .interlockWait && r.cycle.isSome && closedForPair q.state && (!q.right || q.state = .relocking)

/-- Of two waiting doors the first has the better claim: an exit before an entry, then the earlier wait, then the
lower number (R27). -/
def outranks (d p : Nat) (c e : Cycle) : Bool :=
  if waitsForExit c != waitsForExit e then waitsForExit c
  else if c.began != e.began then c.began < e.began
  else d < p

/-- Door `d` takes the right from its pair and enters RELEASING (R27). -/
def giveRight (s : State) (d p : Nat) : State :=
  (s.changeDoor p (fun q => { q with right := false })).changeDoor d
    (fun r => beginLead s.base { r with right := true })

/-- The arbiter looks at a door's pair (R27). A waiting door with no partner needs no right. -/
def arbitrate (s : State) (d : Nat) : State :=
  match s.door? d with
  | none => s
  | some r =>
    match s.partnerOf d with
    | none => if r.state = .interlockWait then s.changeDoor d (beginLead s.base) else s
    | some p =>
      match s.door? p with
      | none => s
      | some q =>
        match mayTake r q, mayTake q r with
        | true, false => s.giveRight d p
        | false, true => s.giveRight p d
        | false, false => s
        | true, true =>
          match r.cycle, q.cycle with
          | some c, some e => if outranks d p c e then s.giveRight d p else s.giveRight p d
          | _, _ => s

/-! ## INTERLOCK_BREACH (R30) -/

/-- Raises INTERLOCK_BREACH for a door's pair: subject the lower door, zone that door's inner zone. -/
def raiseBreach (s : State) (d : Nat) : State :=
  match s.partnerOf d with
  | none => s
  | some p => s.raise .interlockBreach (.door (min d p)) ((s.door? (min d p)).map (fun r => r.cfg.inner)) none

/-- Raises INTERLOCK_BREACH when the contacts of both doors of the pair are open. -/
def breachIfBothOpen (s : State) (d : Nat) : State :=
  match s.door? d, (s.partnerOf d).bind s.door? with
  | some r, some q => if contactOpen r.state && contactOpen q.state then s.raiseBreach d else s
  | _, _ => s

/-- Ends INTERLOCK_BREACH when both doors of the pair are SECURED. -/
def endBreach (s : State) (d : Nat) : State :=
  match s.door? d, s.partnerOf d with
  | some r, some p =>
    match s.door? p with
    | some q =>
      if r.state = .secured && q.state = .secured then s.endAlarm .interlockBreach (.door (min d p)) else s
    | none => s
  | _, _ => s

/-- The door enters SECURED without a cycle and gives up the right; the arbiter looks at the pair (R22, R25). -/
def toSecured (s : State) (d : Nat) : State :=
  ((s.changeDoor d (fun r => { r with state := .secured, cycle := none, right := false })).endBreach d).arbitrate d

/-! ## Release requests (R21) -/

/-- A new cycle begins at a door: an unpaired door enters RELEASING; a paired door takes the right or waits. -/
def beginCycle (s : State) (d : Nat) (r : DoorRec) (xs : List Passage) : State :=
  match s.partnerOf d with
  | none => s.putDoor d (beginLead s.base { r with cycle := some (s.newCycle r xs) })
  | some _ => (s.putDoor d { r with state := .interlockWait, cycle := some (s.newCycle r xs) }).arbitrate d

/-- A release request arrives (R21): one exit, one entry, or the two entries of a pair release. -/
def releaseRequest (s : State) (d : Nat) (xs : List Passage) : State × Joined :=
  match s.door? d with
  | none => (s, .dropped)
  | some r =>
    match r.state with
    | .unknown => (s, .dropped)
    | .secured => (s.beginCycle d r xs, .taken)
    | .relocking =>
      if r.right then (s.putDoor d (beginLead s.base { r with cycle := some (s.newCycle r xs) }), .taken)
      else (s.beginCycle d r xs, .taken)
    | .interlockWait | .releasing | .released | .opened | .held | .forced =>
      match joinCycle (r.cycle.getD (s.newCycle r [])) xs with
      | none => (s, .full)
      | some c => ((s.putDoor d { r with cycle := some c }).arbitrate d, .taken)

/-! ## Contact openings and closings (R23 to R26, R28, R31) -/

/-- A door in RELOCKING without the right reopens (R28). -/
def reopen (s : State) (d : Nat) (r : DoorRec) : State :=
  let opened := { r with state := .opened,
                         cycle := r.cycle.map (fun c =>
                           { c with relockEnd := none, heldEnd := some (s.base + c.vals.heldOpen * 100) }) }
  match s.partnerOf d with
  | none => s.putDoor d opened
  | some p =>
    match s.door? p with
    | none => s.putDoor d opened
    | some q =>
      if r.right then s.putDoor d opened
      else if q.right && q.state = .releasing then
        (s.putDoor p { q with state := .interlockWait, right := false,
                              cycle := q.cycle.map (fun c => { c with leadEnd := none }) }).putDoor d
          { opened with right := true }
      else if q.right then s.putDoor d opened
      else s.putDoor d { opened with right := true }

/-- The door becomes FORCED (R31): the alarm is raised and the inner zone marked unverified. At a suspect door both take
the stored inner zone, damaged or not (log entry 86, DESIGN CHOICE). -/
def force (s : State) (d : Nat) (r : DoorRec) (c : Cycle) : State :=
  let s1 := s.putDoor d { r with state := .forced, right := false, cycle := some c }
  (s1.raise .doorForced (.door d) (some r.cfg.inner) none).markUnverified r.cfg.inner

/-- A contact opening (R23). -/
def opening (s : State) (d : Nat) : State :=
  match s.door? d with
  | none => s
  | some r =>
    match r.state with
    | .releasing | .released =>
      (s.putDoor d { r with state := .opened,
                            cycle := r.cycle.map (fun c =>
                              { c with leadEnd := none, strikeEnd := none,
                                       heldEnd := some (s.base + c.vals.heldOpen * 100) }) }).breachIfBothOpen d
    | .relocking => (s.reopen d r).breachIfBothOpen d
    | .secured | .unknown => (s.force d r (s.newCycle r [])).breachIfBothOpen d
    | .interlockWait =>
      let s1 := s.force d r { r.cycle.getD (s.newCycle r []) with waiting := true }
      match (s1.partnerOf d).bind s1.door? with
      | none => s1
      | some q => if closedForPair q.state then s1 else s1.raiseBreach d
    | .opened | .held | .forced => s

/-- The partner of an overriding door after it has lost the right (R29). -/
def overridden (q : DoorRec) : DoorRec :=
  match q.state, q.cycle with
  | .released, _ => { q with state := .secured, cycle := none, right := false }
  | .releasing, some c =>
    let c' := { c with passages := c.passages.filter (fun x => x.dir = .exit), leadEnd := none }
    if emptyCycle c' then { q with state := .secured, cycle := none, right := false }
    else { q with state := .interlockWait, cycle := some c', right := false }
  | _, _ => { q with right := false }

/-- An exit takes the right by override from INTERLOCK_WAIT: the strike is driven at once (R29). -/
def overrideRight (s : State) (d : Nat) : State :=
  match s.partnerOf d with
  | none => s.changeDoor d enterReleased
  | some p =>
    ((s.changeDoor p overridden).changeDoor d (fun r => enterReleased { r with right := true })).raiseBreach d

/-- A door closes in FORCED (R31). The answer says whether a completion follows. -/
def closeForced (s : State) (d : Nat) (r : DoorRec) : State × Bool :=
  let s1 := (s.endAlarm .doorForced (.door d)).endAlarm .doorHeld (.door d)
  match r.cycle with
  | none => (s1.toSecured d, false)
  | some c =>
    if c.waiting then
      if emptyCycle c then (s1.toSecured d, false)
      else
        let s2 := s1.putDoor d { r with state := .interlockWait, cycle := some { c with waiting := false } }
        (if s.fallsDue c.exitDue then s2.overrideRight d else s2.arbitrate d, false)
    else
      (((s1.putDoor d { r with state := .secured, right := false }).endBreach d).arbitrate d, true)

/-- A contact closing (R24, R31). The answer says whether the Door Controller hands over a completion, which
`takeCycle` then takes from the door. -/
def closing (s : State) (d : Nat) : State × Bool :=
  match s.door? d with
  | none => (s, false)
  | some r =>
    match r.state with
    | .opened | .held =>
      let s1 := if r.state = .held then s.endAlarm .doorHeld (.door d) else s
      let inhibit := if r.state = .held then false else r.heldInhibit
      let c := r.cycle.getD (s.newCycle r [])
      let s2 :=
        if c.vals.relock = 0 then
          (s1.putDoor d { r with state := .secured, right := false, heldInhibit := inhibit,
                                 cycle := some { c with heldEnd := none } }).endBreach d
        else
          s1.putDoor d { r with state := .relocking, heldInhibit := inhibit,
                                cycle := some { c with heldEnd := none,
                                                       relockEnd := some (s.base + c.vals.relock * 10) } }
      (s2.arbitrate d, true)
    | .forced => s.closeForced d r
    | .secured | .interlockWait | .releasing | .released | .relocking | .unknown => (s, false)

/-- The list and the mark that a completion hands over are cleared; a door that is SECURED has no cycle (R24). -/
def takeCycle (s : State) (d : Nat) : State :=
  s.changeDoor d (fun r =>
    if r.state = .secured then { r with cycle := none }
    else { r with cycle := r.cycle.map (fun c => { c with passages := [], unlisted := false, exitDue := none }) })

/-! ## Timers (R22, R25, R29, R32, R35) -/

/-- The lead of a door in RELEASING has expired (R22). -/
def leadEnds (s : State) (d : Nat) : State :=
  match s.door? d with
  | none => s
  | some r =>
    match r.cycle with
    | none => s
    | some c => if r.state = .releasing && s.reached c.leadEnd then s.putDoor d (enterReleased r) else s

/-- The strike timer of a door in RELEASED has expired: the release ends without opening (R22). -/
def strikeEnds (s : State) (d : Nat) : State :=
  match s.door? d with
  | none => s
  | some r =>
    match r.cycle with
    | none => s
    | some c => if r.state = .released && s.reached c.strikeEnd then s.toSecured d else s

/-- The held-open allowance of a door in OPEN or HELD has expired (R32). -/
def heldOpenEnds (s : State) (d : Nat) : State :=
  match s.door? d with
  | none => s
  | some r =>
    match r.cycle with
    | none => s
    | some c =>
      if (r.state = .opened || r.state = .held) && s.reached c.heldEnd then
        let s1 := s.putDoor d { r with state := .held,
                                       cycle := some { c with heldEnd := c.heldEnd.map (· + c.vals.heldOpen * 100) } }
        if r.heldInhibit then s1 else s1.raise .doorHeld (.door d) (some r.cfg.inner) none
      else s

/-- The relock hold of a door has expired (R25). -/
def relockEnds (s : State) (d : Nat) : State :=
  match s.door? d with
  | none => s
  | some r =>
    match r.cycle with
    | none => s
    | some c => if r.state = .relocking && s.reached c.relockEnd then s.toSecured d else s

/-- The first listed ENTRY passage whose interlock wait limit has been reached (R29). -/
def timedOut (s : State) (c : Cycle) : Option Passage :=
  c.passages.find? (fun x => x.dir = .entry && x.arrival * 10 + c.vals.limit * 100 ≤ s.nowCs)

/-- An ENTRY passage that still waits at its limit is refused INTERLOCK_TIMEOUT (R29). -/
def interlockTimesOut (s : State) (d : Nat) : State :=
  match s.door? d with
  | none => s
  | some r =>
    match r.cycle with
    | none => s
    | some c =>
      if r.state = .interlockWait || (r.state = .forced && c.waiting) then
        match s.timedOut c with
        | none => s
        | some x =>
          let c' := { c with passages := c.passages.erase x }
          let s1 := (s.putDoor d { r with cycle := some c' }).refuse d .interlockTimeout x.person x.grant
          if r.state = .interlockWait && emptyCycle c' then s1.toSecured d else s1
      else s

/-- Exit due has been reached (R29). -/
def exitFallsDue (s : State) (d : Nat) : State :=
  match s.door? d with
  | none => s
  | some r =>
    match r.cycle with
    | none => s
    | some c =>
      if s.fallsDue c.exitDue then
        match r.state with
        | .interlockWait => s.overrideRight d
        | .releasing => s.putDoor d (enterReleased r)
        | .released | .opened | .held | .forced | .secured | .relocking | .unknown => s
      else s

/-- The indication returns to NONE 3 s after a decision (R35). -/
def indicationEnds (s : State) (d : Nat) : State :=
  match s.door? d with
  | none => s
  | some r => if s.reached r.indEnd then s.putDoor d { r with indication := .none, indEnd := none } else s

/-- The echo of a token issued while the strike was ON starts the strike timer, once (R22). -/
def strikeEcho (s : State) (d : Nat) : State :=
  s.changeDoor d (fun r =>
    if r.state = .released then
      { r with cycle := r.cycle.map (fun c =>
          { c with strikeEnd := c.strikeEnd.orElse (fun _ => some (s.base + c.vals.strike * 10)) }) }
    else r)

/-! ## Zone closure (R37) -/

/-- The entries of a waiting cycle are refused ZONE_CLOSED (R37). -/
def closeWaiting (s : State) (d : Nat) (r : DoorRec) (c : Cycle) : State :=
  let c' := { c with passages := c.passages.filter (fun x => x.dir = .exit) }
  let s1 := (s.putDoor d { r with cycle := some c' }).refuseEach d .zoneClosed
    (c.passages.filter (fun x => x.dir = .entry))
  if r.state = .interlockWait && emptyCycle c' then s1.toSecured d else s1

/-- A door whose inner zone's entry state has left OPEN (R37). -/
def closeDoor (s : State) (d : Nat) : State :=
  match s.door? d with
  | none => s
  | some r =>
    match r.cycle with
    | none => s
    | some c =>
      match r.state with
      | .interlockWait => s.closeWaiting d r c
      | .releasing | .released =>
        if waitsForExit c then s
        else (s.toSecured d).refuseEach d .zoneClosed c.passages
      | .forced => if c.waiting then s.closeWaiting d r c else s
      | .opened | .held | .secured | .relocking | .unknown => s

/-! ## Station silence and return (R38, R39) -/

/-- The state leaves the zone behind a silent door in doubt (R38). -/
def mayHavePassed : DoorState → Bool
  | .released | .opened | .held | .forced => true
  | _ => false

/-- A door's station has fallen silent (R38). -/
def doorSilent (s : State) (d : Nat) : State :=
  match s.door? d with
  | none => s
  | some r =>
    let waiting := match r.state, r.cycle with
      | .interlockWait, some c => c.passages.filter (fun x => x.dir = .entry)
      | _, _ => []
    let s1 := s.refuseEach d .doorUnavailable waiting
    let s2 := match r.pairWait with
      | none => s1
      | some w => s1.refuse d .doorUnavailable (some w.person) w.grant
    let s3 := s2.changeDoor d (fun q =>
      { q with state := .unknown, right := false, cycle := none, pairWait := none, heldInhibit := false,
               indication := .none, indEnd := none })
    let s4 := if mayHavePassed r.state then s3.markUnverified r.cfg.inner else s3
    s4.arbitrate d

/-- A door's station returns: the door leaves UNKNOWN by the reported contact and latch (R39). -/
def doorReturn (s : State) (d : Nat) (isOpen latch : Bool) : State :=
  match s.door? d with
  | none => s
  | some r =>
    if r.state = .unknown then
      if isOpen then s.opening d
      else
        let s1 := s.putDoor d { r with state := .secured, right := false, cycle := none }
        let s2 := if latch then s1.markUnverified r.cfg.inner else s1
        (((s2.endAlarm .doorForced (.door d)).endAlarm .doorHeld (.door d)).endBreach d).arbitrate d
    else s

/-! ## Starts and acknowledgements (R32, R40) -/

/-- A door after a warm restart (R40). -/
def restarted (r : DoorRec) : DoorRec :=
  { cfg := r.cfg, lockout := r.lockout, suspect := r.suspect, checkOk := r.checkOk }

/-- The Alarm Unit tells that a DOOR_HELD record of a door is acknowledged (R32, R143). -/
def heldAcknowledged (s : State) (d : Nat) : State :=
  s.changeDoor d (fun r => if r.state = .held then { r with heldInhibit := true } else r)

/-- A REQUESTED zone with no admission in flight becomes HELD (R75). -/
def freezeReached (s : State) : State :=
  s.setOcc { s.occ with zones := s.occ.zones.map (fun p =>
    if p.2.freeze = .requested && s.inFlight p.1 = 0 then (p.1, { p.2 with freeze := .held }) else p) }

end State
end Sys2Proof.Machine
end

