-- ==== Sys2Proof/Machine/Occupancy.lean ====
section
/-! DEFINITION. The Occupancy Unit (01, 05): hours states and their transitions, occupancy records made, moved and
retired, the three deadlines, check-ins, pair evaluation and the application of a completion. -/

namespace Sys2Proof.Machine

/-- The hours state of a zone (R4). -/
def computeHours (cal : Option Calendar) (c : ZoneCfg) : Hours :=
  match cal with
  | none => .after
  | some k =>
    match c.override with
    | .forceAfter => .after
    | .forceDay => .day
    | .schedule => if c.windows.any (fun w => inWindow w.1 w.2 k.minute) then .day else .after

namespace State

/-! ## Deadlines (R92, R93, R95) -/

/-- The check-in deadline that a record in a zone takes now (R93). None is set in a suspect zone (05, section 5.4), and the
model makes the deadline absent there (log entry 55, DESIGN CHOICE). -/
def checkinFor (s : State) (z : Nat) : Option Nat :=
  match s.zone? z with
  | none => none
  | some r =>
    if r.hours = .after && r.cfg.checkin != 0 && !r.suspect then some (s.now + r.cfg.checkin * 60) else none

/-- Takes the dwell deadline of a sound record if it has passed in an AFTER zone and was not taken before (R92), with the
person in the person field (log entry 28, DEDUCED). -/
def takeDwell (s : State) (i : Nat) : State :=
  match s.occ? i with
  | none => s
  | some r =>
    if s.passed r.dwell && s.isAfter r.zone && !r.overdue && !r.suspect then
      (s.putOcc i { r with overdue := true }).raise .dwellOverrun (.person r.person) (some r.zone) (some r.person)
    else s

/-- Takes the check-in deadline of a sound record if it has passed in an AFTER zone (R93), with the person in the
person field (log entry 28, DEDUCED). -/
def takeCheckin (s : State) (i : Nat) : State :=
  match s.occ? i with
  | none => s
  | some r =>
    if s.passed r.checkin && s.isAfter r.zone && !r.suspect then
      (s.putOcc i { r with missing := true, checkin := none }).raise .checkinMissed (.person r.person) (some r.zone)
        (some r.person)
    else s

/-- Takes the pair-grace deadline of a sound record if it has passed in an AFTER zone (R95), with the person in the
person field (log entry 28, DEDUCED). -/
def takePairGrace (s : State) (i : Nat) : State :=
  match s.occ? i with
  | none => s
  | some r =>
    if s.passed r.pairGrace && s.isAfter r.zone && !r.suspect then
      (s.putOcc i { r with pairGrace := none }).raise .pairBroken (.person r.person) (some r.zone) (some r.person)
    else s

/-- A record for whose person no grant matches takes the after-hours grace, where it holds no dwell deadline (R96). -/
def takeGrace (s : State) (i : Nat) (r : OccRec) : State :=
  match s.zone? r.zone with
  | none => s
  | some z => if r.dwell.isNone then s.putOcc i { r with dwell := some (s.now + z.cfg.afterGrace * 60) } else s

/-- The grant search for a DAY-basis record in an AFTER zone, and the after-hours grace where no grant of the person
matches the zone (R57, R96). -/
def searchGrace (s : State) (i : Nat) : State :=
  match s.occ? i with
  | none => s
  | some r =>
    if r.basis = .day && s.isAfter r.zone then
      match s.grantSearch r.person r.zone with
      | (s', some _) => s'
      | (s', none) => s'.takeGrace i r
    else s

/-- The search of R86 for a record made or moved: for one that holds no dwell deadline only (R57). -/
def giveGrace (s : State) (i : Nat) : State :=
  match s.occ? i with
  | none => s
  | some r => if r.dwell.isNone then s.searchGrace i else s

/-! ## Records made, moved and retired (R83, R86, R98) -/

/-- The lowest free slot (R83). -/
def lowestSlot (s : State) : Option Nat := s.occ.recs.freeFrom Config.occSlots 0

/-- A record made or moved into a zone: grace and dwell as at an hours transition (R86). -/
def arrived (s : State) (i : Nat) : State := (s.giveGrace i).takeDwell i

/-- A record that arrives in zone `z` now (R82): the other fields are those of `r`. -/
def placed (s : State) (r : OccRec) (z : Nat) : OccRec :=
  { r with zone := z, zoneEntered := s.now, checkin := s.checkinFor z }

/-- A record is moved to a zone by a passage (R86). While its duress flag is TRUE the move raises DURESS (R82), after a dwell
deadline that has passed is taken (log entry 60, DESIGN CHOICE), and with the person in the person field (log entry 28,
DEDUCED). -/
def moveRecord (s : State) (i : Nat) (r : OccRec) (z : Nat) (m : Mode) : State :=
  let duress : Bool := r.duress || m = .duress
  let s1 := (s.changeOcc i (fun r => { s.placed r z with pairGrace := none, alone := false, duress := duress })).endAlarm
    .pairBroken (.person r.person)
  let s2 := s1.arrived i
  if duress then s2.raise .duress (.person r.person) (some z) (some r.person) else s2

/-- A record is retired (R98). -/
def retireRecord (s : State) (i : Nat) (r : OccRec) : State :=
  let s1 := (((s.delOcc i).endAlarm .checkinMissed (.person r.person)).endAlarm .dwellOverrun
    (.person r.person)).endAlarm .pairBroken (.person r.person)
  if r.suspect then s1.endSuspect .occupancy i else s1

/-- A person's record leaves a zone for the outer zone, or is retired when that is zone 0 (R87, R88). -/
def leave (s : State) (i : Nat) (r : OccRec) (outer : Nat) : State :=
  if outer = 0 then s.retireRecord i r else s.moveRecord i r outer .normal

/-- Raises LOCATION_MISMATCH for a person (R86, R87, R94, R150). It carries the person in the person field too, as R65 says
of the admission's own (log entry 28, DEDUCED). -/
def mismatch (s : State) (p z : Nat) : State := s.raise .locationMismatch (.person p) (some z) (some p)

/-! ## Passages (R86 to R89) -/

/-- The record that an attributed ENTRY passage makes (R86). -/
def entryRecord (s : State) (p z : Nat) (x : Passage) : OccRec :=
  { person := p, zone := z, entered := s.now, zoneEntered := s.now,
    basis := if x.grant.isSome then .grant else .day, grant := x.grant,
    dwell := match x.grant, x.ceiling with | some _, some c => some (s.now + c * 60) | _, _ => none,
    checkin := s.checkinFor z, duress := x.mode = .duress }

/-- Makes the record of an attributed ENTRY passage in the lowest free slot; with none free the entry is
unrecordable and the zone is marked unverified (R86, R89). -/
def makeEntry (s : State) (p z : Nat) (x : Passage) : State :=
  match s.lowestSlot with
  | none => s.markUnverified z
  | some i => (s.putOcc i (s.entryRecord p z x)).arrived i

/-- An attributed ENTRY passage of person `p` from `outer` into `inner` (R86). The record is made or moved first, then
LOCATION_MISMATCH is raised, then the zone of the mismatch marked (log entry 82, DESIGN CHOICE). -/
def applyEntry (s : State) (inner outer p : Nat) (x : Passage) : State :=
  match s.recordOf p with
  | some (i, r) =>
    if r.zone = inner then
      (s.mismatch p inner).markUnverified (if outer = 0 then inner else outer)
    else if r.zone = outer then s.moveRecord i r inner x.mode
    else ((s.moveRecord i r inner x.mode).mismatch p inner).markUnverified (if outer = 0 then r.zone else outer)
  | none =>
    if (s.suspectRecordOf p).isSome then s.markUnverified inner
    else if outer = 0 then s.makeEntry p inner x
    else ((s.makeEntry p inner x).mismatch p inner).markUnverified outer

/-- An attributed EXIT passage of person `p` from `inner` to `outer` (R87). Where both zones are marked unverified, R87
does not say which first: the model marks the inner before the outer whatever their numbers, after LOCATION_MISMATCH (log
entry 82, DESIGN CHOICE). -/
def applyExit (s : State) (inner outer p : Nat) : State :=
  match s.recordOf p with
  | some (i, r) =>
    if r.zone = inner then s.leave i r outer
    else if r.zone = outer then (s.mismatch p inner).markUnverified inner
    else ((s.leave i r outer).mismatch p inner).markUnverified inner
  | none =>
    if (s.suspectRecordOf p).isSome then (s.markUnverified inner).markUnverified outer
    else ((s.mismatch p inner).markUnverified inner).markUnverified outer

/-- The exit inference of an unattributed exit (R88). `double` says that the completion holds both a listed
unattributed EXIT and the unlisted-exit mark. -/
def inferExit (s : State) (inner outer : Nat) (double : Bool) : State :=
  let s1 :=
    match s.zoneOrder inner with
    | [(i, r)] => if r.suspect then s else s.leave i r outer
    | _ => s.markUnverified inner
  if double then s1.markUnverified inner else s1

/-- One listed passage of a completion (R85 step 3). R59 leaves open whether the report of a grant's use stands before or
after the grace search of R86 in one moved passage: the model moves the record and searches first, so that a last use
still matches in that search (log entry 41, DESIGN CHOICE). -/
def applyPassage (s : State) (inner outer : Nat) (x : Passage) : State :=
  match x.dir, x.person with
  | .entry, some p => (s.applyEntry inner outer p x).reportUse x
  | .entry, none => (s.markUnverified inner).reportUse x
  | .exit, some p => s.applyExit inner outer p
  | .exit, none => s

/-! ## Pair evaluation (R95) -/

/-- Pair grace starts for the one record of a zone: pair rule, AFTER, sound record, no LONE_WORK (R95, R96). No
deadline is set in a suspect zone (05, section 5.4), and the model sets no ALONE flag there either (log entry 55, DESIGN
CHOICE). -/
def startGrace (s : State) (z : Nat) : State :=
  match s.zone? z, s.zoneOrder z with
  | some zr, [(i, r)] =>
    if zr.cfg.pairRule && zr.hours = .after && !zr.suspect && !r.suspect then
      let s1 := s.testPerson r.person
      let lone := match s1.person? r.person with | none => false | some q => q.cfg.loneWork && !q.suspect
      if lone then s1
      else s1.changeOcc i (fun r => { r with alone := true, pairGrace := some (s1.now + zr.cfg.pairGrace) })
    else s
  | _, _ => s

/-- A record flagged ALONE in a zone of two or more loses the flag (R95). -/
def clearAlone (s : State) (q : Nat × OccRec) : State :=
  if q.2.alone then
    (s.changeOcc q.1 (fun r => { r with alone := false, pairGrace := none })).endAlarm .pairBroken
      (.person q.2.person)
  else s

/-- Pair evaluation of a zone whose count was `before` (R95). -/
def pairEvaluate (s : State) (z before : Nat) : State :=
  let n := s.occupants z
  if n = before || z = 0 then s
  else if 2 ≤ n then (s.zoneOrder z).foldl (fun s q => s.clearAlone q) s
  else if n = 1 && 2 ≤ before then s.startGrace z
  else s

/-! ## Completions (R85) -/

/-- An unattributed EXIT is listed. -/
def listsUnattributedExit (xs : List Passage) : Bool := xs.any (fun x => x.dir = .exit && x.person.isNone)
/-- An attributed EXIT is listed. -/
def listsAttributedExit (xs : List Passage) : Bool := xs.any (fun x => x.dir = .exit && x.person.isSome)

/-- Step 2 of R85: the exit inference, where the completion holds an unattributed exit and no attributed one. -/
def inferred (s : State) (inner outer : Nat) (xs : List Passage) (unlisted : Bool) : State :=
  if (listsUnattributedExit xs || unlisted) && !listsAttributedExit xs then
    s.inferExit inner outer (listsUnattributedExit xs && unlisted)
  else s

/-- Steps 1 to 4 of R85: one completion of a door between `inner` and `outer`. The inner zone is pair-evaluated before the
outer, and a third zone that a mismatched record has left after the two (R95; log entry 10, DESIGN CHOICE). -/
def complete (s : State) (inner outer : Nat) (xs : List Passage) (unlisted : Bool) : State :=
  let ni := s.occupants inner
  let no := s.occupants outer
  let s2 := xs.foldl (fun s x => s.applyPassage inner outer x) (s.inferred inner outer xs unlisted)
  let s3 := (s2.pairEvaluate inner ni).pairEvaluate outer no
  (s.occ.zones.keys.filter (fun z => z != inner && z != outer)).foldl (fun s' z => s'.pairEvaluate z (s.occupants z)) s3

/-- The zones of records of `t` that `u` does not hold in the same slot and zone. -/
def movedOut (t u : Table OccRec) : List Nat :=
  (t.filter (fun p => (u.find p.1).map (·.zone) != some p.2.zone)).map (fun p => p.2.zone)

/-- The zones in which a record was made, moved or retired between two moments of one passage (R85 step 5). -/
def zonesMoved (before after : State) : List Nat :=
  movedOut before.occ.recs after.occ.recs ++ movedOut after.occ.recs before.occ.recs

/-- The same along the passages of a completion. -/
def zonesAlong (inner outer : Nat) : State → List Passage → List Nat
  | _, [] => []
  | s, x :: xs => s.zonesMoved (s.applyPassage inner outer x) ++ zonesAlong inner outer (s.applyPassage inner outer x) xs

/-- The zones that a completion reports to the Release Unit as having had a record made, moved or retired (R85 step 5,
R118): a record that arrives and leaves in one completion is among them. -/
def zonesReported (s : State) (inner outer : Nat) (xs : List Passage) (unlisted : Bool) : List Nat :=
  s.zonesMoved (s.inferred inner outer xs unlisted) ++ zonesAlong inner outer (s.inferred inner outer xs unlisted) xs

/-- The completion that a closing hands over (R24, R31), taken from the door and applied. Where the stored inner zone of a
suspect door is not configured, the outer zone is 0, and sound records are made in that number or moved into it (log entry
79, DESIGN CHOICE). -/
def handOver (s : State) (d : Nat) : State :=
  match s.door? d with
  | none => s
  | some r =>
    match r.cycle with
    | none => s
    | some c => (s.takeCycle d).complete r.cfg.inner (s.parentOf r.cfg.inner) c.passages c.unlisted

/-- The zones that the completion of `handOver` reports. -/
def handedZones (s : State) (d : Nat) : List Nat :=
  match s.door? d with
  | none => []
  | some r =>
    match r.cycle with
    | none => []
    | some c => (s.takeCycle d).zonesReported r.cfg.inner (s.parentOf r.cfg.inner) c.passages c.unlisted

/-! ## Check-ins (R94) -/

/-- A check-in at a station of zone `z` with a credential (R94). -/
def checkIn (s : State) (z cred : Nat) : State :=
  match s.resolve cred with
  | (s1, .person p) =>
    match s1.recordOf p with
    | some (i, r) =>
      if r.zone = z then
        let s2 := s1.changeOcc i (fun r => { r with missing := false, checkin := s1.checkinFor z })
        if r.missing then s2.endAlarm .checkinMissed (.person p) else s2
      else s1.mismatch p z
    | none => if (s1.suspectRecordOf p).isSome then s1 else s1.mismatch p z
  | (s1, .unknown) => s1.raise .locationMismatch (.zone z) (some z) none
  | (s1, .suspect) => s1.raise .locationMismatch (.zone z) (some z) none

/-! ## Hours transitions (R5, R96, R97) -/

/-- One record of a zone that turns AFTER (R96 steps 1 to 3). The search of R57 is made for each DAY-basis record, also for
one that holds a dwell deadline, which it keeps. A suspect record takes its check-in deadline and the grace
as any other; R104 bars only the taking of its deadlines, which `takeDwell` leaves out. -/
def turnRecord (s : State) (i : Nat) : State :=
  ((s.changeOcc i (fun r => { r with checkin := s.checkinFor r.zone })).searchGrace i).takeDwell i

/-- A zone has turned AFTER (R96). -/
def turnAfter (s : State) (z : Nat) : State :=
  ((s.zoneOrder z).foldl (fun s q => s.turnRecord q.1) s).startGrace z

/-- A zone has turned DAY: its records lose their check-in and pair-grace deadlines (R97). -/
def turnDay (s : State) (z : Nat) : State :=
  s.setOcc { s.occ with recs := s.occ.recs.map (fun p =>
    if p.2.zone = z then (p.1, { p.2 with checkin := none, pairGrace := none }) else p) }

/-- Evaluates a zone's hours state and applies the transition to its records (R5). A suspect zone is not
evaluated (R14). -/
def evaluateHours (s : State) (z : Nat) : State :=
  match s.zone? z with
  | none => s
  | some r =>
    if r.suspect then s
    else
      let h := computeHours s.ret.calendar r.cfg
      if h = r.hours then s
      else
        let s1 := s.putZone z { r with hours := h }
        match h with
        | .after => s1.turnAfter z
        | .day => s1.turnDay z

/-- Evaluates every configured zone, ascending (R5). -/
def evaluateAllHours (s : State) : State := s.occ.zones.keys.foldl (fun s z => s.evaluateHours z) s

/-- Every deadline that has passed in an AFTER zone is taken, slot by slot (R105 step 7), and of one record the dwell, the
check-in and the pair-grace deadline in this order (log entry 70, DESIGN CHOICE). -/
def takeAllDeadlines (s : State) : State :=
  s.occ.recs.keys.foldl (fun s i => ((s.takeDwell i).takeCheckin i).takePairGrace i) s

end State
end Sys2Proof.Machine
end

