-- ==== Sys2Proof/Machine/Admission.lean ====
section
/-! DEFINITION. The Admission Unit (04_admission.md): the ordered entry checks, grants, the pair rule, exits, the
freeze protocol and the wait list. A request's effects on agents are taken by `Sys2Proof/Machine/Release.lean`. -/

namespace Sys2Proof.Machine

/-- Where an entry request stands after the checks of R63. -/
inductive Verdict where
  /-- Refused with a code, and the grant found so far (R67). -/
  | refused (c : RefusalCode) (grant : Option Nat)
  /-- Diverted by check 5 (R77). -/
  | diverted
  /-- Checks 1 to 12 have passed: the person, and the grant and ceiling read at check 11. -/
  | passed (p : Nat) (grant ceiling : Option Nat)
  deriving DecidableEq, Repr

namespace State

/-- The room test of check 12 for `n` new reservations (R66). -/
def hasRoom (s : State) (z n : Nat) : Bool :=
  match s.zone? z with
  | none => false
  | some r => s.occupants z + s.reservations z + n ≤ r.cfg.capacity && s.allReservations + n ≤ s.freeSlots

/-- Checks 6 to 10 on the resolved person (R65). The first refusal, or the person. -/
def checkPerson (s : State) (z : Nat) (zr : ZoneRec) (res : Resolution) : Except RefusalCode Nat :=
  match res with
  | .unknown => .error .unknownCredential
  | .suspect => .error .recordSuspect
  | .person p =>
    match s.person? p with
    | none => .error .unknownCredential
    | some r =>
      if r.cfg.suspended then .error .suspended
      else if s.presentZone p != s.parentOf z then .error .locationMismatch
      else if r.cfg.clearance < zr.cfg.clearance then .error .clearance
      else .ok p

/-- Checks 11 and 12 for a person who has passed checks 1 to 10 (R65, R66). -/
def checkGrant (s : State) (z : Nat) (zr : ZoneRec) (p n : Nat) : State × Verdict :=
  match zr.hours with
  | .day => if s.hasRoom z n then (s, .passed p none none) else (s, .refused .zoneFull none)
  | .after =>
    match s.grantSearch p z with
    | (s', none) => (s', .refused .noGrant none)
    | (s', some (g, c)) =>
      if s'.hasRoom z n then (s', .passed p (some g) c.ceiling) else (s', .refused .zoneFull (some g))

/-- Checks 1 to 12 of R63, in order, at a door with room tested for `n`. -/
def entryChecks (s : State) (r : DoorRec) (res : Resolution) (n : Nat) : State × Verdict :=
  if !s.ret.active then (s, .refused .notCommissioned none)
  else if r.state = .unknown || r.suspect then (s, .refused .doorUnavailable none)
  else if r.lockout then (s, .refused .lockedOut none)
  else
    match s.zone? r.cfg.inner with
    | none => (s, .refused .zoneClosed none)
    | some zr =>
      if zr.entry != .opened || zr.suspect then (s, .refused .zoneClosed none)
      else if zr.freeze != .thawed then (s, .diverted)
      else
        match s.checkPerson r.cfg.inner zr res with
        | .error c => (s, .refused c none)
        | .ok p => s.checkGrant r.cfg.inner zr p n

/-- The pair rule applies at check 13 (R69). -/
def pairRuleApplies (s : State) (r : DoorRec) (p : Nat) : Bool :=
  match s.zone? r.cfg.inner with
  | none => false
  | some zr =>
    zr.cfg.pairRule && zr.hours = .after &&
      (match s.person? p with | none => true | some q => !q.cfg.loneWork) &&
      s.occupants r.cfg.inner + s.reservations r.cfg.inner = 0 && r.pairWait.isNone

/-- A person's repeat presentation at a door (R68, R69): an ENTRY passage pending there, or the pair wait's first
presenter. -/
def isRepeat (r : DoorRec) (p : Nat) : Bool :=
  (match r.cycle with
   | none => false
   | some c => c.passages.any (fun x => x.dir = .entry && x.person = some p)) ||
  (match r.pairWait with | none => false | some w => w.person = p)

/-- The pending ENTRY passage of a pair wait's first presenter (R70): the values held in the wait. -/
def firstPassage (w : PairWait) : Passage :=
  { dir := .entry, person := some w.person, grant := w.grant, ceiling := w.ceiling, mode := w.mode,
    arrival := w.start, retiredGrant := w.retiredGrant }

/-- The GRANTED decision of a person and grant (R35). -/
def grantedNow (s : State) (p g : Option Nat) : Decision :=
  { outcome := .granted, person := p, grant := g, time := some s.now }

/-- A granted entry (R68): the decision, then the release request; a full list refuses it ZONE_FULL. -/
def grantEntry (s : State) (d p : Nat) (g c : Option Nat) (m : Mode) (arrival : Nat) : State :=
  let x : Passage := { dir := .entry, person := some p, grant := g, ceiling := c, mode := m, arrival := arrival }
  match (s.decided d (s.grantedNow (some p) g)).releaseRequest d [x] with
  | (s', .taken) => s'
  | (s', .full) => s'.refuse d .zoneFull (some p) g
  | (s', .dropped) => s'.refuse d .doorUnavailable (some p) g

/-- A pair release (R70): the two passages in one request; with fewer than two places the second presenter is
refused ZONE_FULL and the pair wait goes on. -/
def pairRelease (s : State) (d : Nat) (w : PairWait) (p : Nat) (g c : Option Nat) (m : Mode) (arrival : Nat) : State :=
  let x : Passage := { dir := .entry, person := some p, grant := g, ceiling := c, mode := m, arrival := arrival }
  match s.releaseRequest d [firstPassage w, x] with
  | (s', .taken) =>
    (s'.changeDoor d (fun r => { r with pairWait := none })).decided d (s'.grantedNow (some p) g)
  | (s', .full) => s'.refuse d .zoneFull (some p) g
  | (s', .dropped) => s'.refuse d .doorUnavailable (some p) g

/-- The request becomes the door's pair wait (R69). -/
def beginPairWait (s : State) (d p : Nat) (g c : Option Nat) (m : Mode) (arrival window : Nat) : State :=
  s.changeDoor d (fun r =>
    { r with pairWait := some { person := p, grant := g, ceiling := c, mode := m, start := arrival, window := window } })

/-- The pair window of a zone (R36). -/
def pairWindowOf (s : State) (z : Nat) : Nat :=
  match s.zone? z with | none => 0 | some r => r.cfg.pairWindow

/-- Checks 13 and 14, or R70 at a door that holds a pair wait. -/
def admitEntry (s : State) (d : Nat) (r : DoorRec) (p : Nat) (g c : Option Nat) (m : Mode) (arrival : Nat) : State :=
  match r.pairWait with
  | some w => s.pairRelease d w p g c m arrival
  | none =>
    if s.pairRuleApplies r p then s.beginPairWait d p g c m arrival (s.pairWindowOf r.cfg.inner)
    else s.grantEntry d p g c m arrival

/-- A request diverted by check 5 (R77). A request whose credential and door are in the list already while the list is
full meets both cases of R77, which does not say which goes first: the model ignores it (log entry 81, DESIGN CHOICE). -/
def divert (s : State) (e : WaitEntry) (p : Option Nat) : State :=
  if s.adm.waits.any (fun q => q.credential = e.credential && q.door = e.door) then s
  else if Config.waitPlaces ≤ s.adm.waits.length then s.refuse e.door .waitFull p none
  else s.setAdm { s.adm with waits := s.adm.waits ++ [e] }

/-- An entry request whose credential has been resolved is decided (R63). -/
def decideEntry (s : State) (d : Nat) (cred : Option Nat) (res : Resolution) (m : Mode) (arrival : Nat) : State :=
  match s.door? d with
  | none => s
  | some r =>
    if (match res.person? with | none => false | some p => isRepeat r p) then s
    else
      match s.entryChecks r res (if r.pairWait.isSome then 2 else 1) with
      | (s', .refused c g) =>
        let s1 :=
          match c, res.person? with
          | .locationMismatch, some p => s'.mismatch p r.cfg.inner
          | _, _ => s'
        s1.refuse d c res.person? g
      | (s', .diverted) => s'.divert { credential := cred, door := d, mode := m, arrival := arrival } res.person?
      | (s', .passed p g c) => s'.admitEntry d r p g c m arrival

/-- An exit that the door's cycle already lists (R72). -/
def exitListed (r : DoorRec) (p : Option Nat) : Bool :=
  match r.cycle with
  | none => false
  | some c =>
    match p with
    | some n => c.passages.any (fun x => x.dir = .exit && x.person = some n)
    | none => c.unlisted || c.passages.any (fun x => x.dir = .exit && x.person.isNone)

/-- An exit request (R72, R73): never refused, and dropped only at a door that is UNKNOWN (R21). Its passage holds the mode
NORMAL, which R20 does not give it (log entry 75, DESIGN CHOICE). -/
def exitRequest (s : State) (d : Nat) (p : Option Nat) (arrival : Nat) : State :=
  match s.door? d with
  | none => s
  | some r =>
    let s1 := s.decided d { outcome := .releasedExit, person := p, time := some s.now }
    if exitListed r p then s1
    else
      match s1.releaseRequest d [{ dir := .exit, person := p, arrival := arrival }] with
      | (s', .taken) => s'
      | (s', .full) => s'
      | (s', .dropped) => s'.refuse d .doorUnavailable p none

/-! ## Pair waits and the wait list end (R71, R78, R80) -/

/-- The pair window of a door's pair wait has been reached (R71). -/
def pairWindowEnds (s : State) (d : Nat) : State :=
  match s.door? d with
  | none => s
  | some r =>
    match r.pairWait with
    | none => s
    | some w =>
      if w.start * 10 + w.window * 100 ≤ s.nowCs then
        (s.putDoor d { r with pairWait := none }).refuse d .pairTimeout (some w.person) w.grant
      else s

/-- The person a wait-list entry's credential resolves to, and the tests that reading it makes. R77 keeps the credential and
not the person of the arrival (R61): the model resolves it again as the wait ends (log entry 54, DESIGN CHOICE). -/
def waitPerson (s : State) (e : WaitEntry) : State × Option Nat :=
  match e.credential with
  | none => (s, none)
  | some c => match s.resolve c with | (s', r) => (s', r.person?)

/-- The oldest wait-list entry has waited 8 s and is refused WAIT_EXPIRED (R78). -/
def waitExpires (s : State) : State :=
  match s.adm.waits with
  | [] => s
  | e :: rest =>
    if e.arrival * 10 + 800 ≤ s.nowCs then
      match (s.setAdm { s.adm with waits := rest }).waitPerson e with
      | (s', p) => s'.refuse e.door .waitExpired p none
    else s

/-- A wait-list entry's door has this zone as its inner zone, as the door stands (R77). -/
def waitsFor (s : State) (z : Nat) (e : WaitEntry) : Bool :=
  match s.door? e.door with | none => false | some r => r.cfg.inner = z

/-- The pair wait of a door into a closing zone is refused ZONE_CLOSED (R80). -/
def closePairWait (s : State) (d : Nat) : State :=
  match s.door? d with
  | none => s
  | some r =>
    match r.pairWait with
    | none => s
    | some w => (s.putDoor d { r with pairWait := none }).refuse d .zoneClosed (some w.person) w.grant

/-- Numbers of the doors whose inner zone is `z`, ascending. -/
def doorsInto (s : State) (z : Nat) : List Nat := (s.door.doors.filter (fun p => p.2.cfg.inner = z)).map (·.1)

/-- Admission's part of a zone closure (R80): pair waits, then wait-list entries in list order. -/
def closeWaits (s : State) (z : Nat) : State :=
  let s1 := (s.doorsInto z).foldl (fun s d => s.closePairWait d) s
  let mine := s1.adm.waits.filter (fun e => s1.waitsFor z e)
  let s2 := s1.setAdm { s1.adm with waits := s1.adm.waits.filter (fun e => !s1.waitsFor z e) }
  mine.foldl (fun s e =>
    match s.waitPerson e with | (s', p) => s'.refuse e.door .zoneClosed p none) s2

/-- A zone's entry state has left OPEN: the Door Controller and then the Admission Unit cancel (R37, R80). The spec gives
the two no order at one door: the passages are refused first, then the pair wait, then the wait-list entries (log entry
49, DESIGN CHOICE). -/
def zoneCloses (s : State) (z : Nat) : State :=
  (((s.doorsInto z).foldl (fun s d => s.closeDoor d) s).closeWaits z).freezeReached

end State
end Sys2Proof.Machine
end

