-- ==== Sys2Proof/Machine/Release.lean ====
section
/-! DEFINITION. The Release Unit (06_suppression_release.md): entry states of covered zones, the egress deadline, the
agent state machine, the acts on logic outputs, and the taking of an agent station's report. -/

namespace Sys2Proof.Machine
namespace State

/-! ## Entry states (R109) -/

/-- The entry state that an agent's state gives its covered zones (R109). -/
def entryFor : AgentState → EntryState
  | .countdown | .abortHeld | .occupiedHold | .discharge => .egressOnly
  | .discharged => .flooded
  | .unconfigured | .normal | .alert | .spent | .fault => .opened

/-- The evacuation pattern that an agent's state gives its station (R109). -/
def evacFor : AgentState → Evac
  | .countdown | .abortHeld | .occupiedHold | .discharge => .evacuate
  | .discharged => .agentPresent
  | .unconfigured | .normal | .alert | .spent | .fault => .off

/-- The entry state of a zone: that of its covering agent, OPEN outside every coverage (R109). -/
def entryOf (s : State) (z : Nat) : EntryState :=
  match s.coveringAgent z with | none => .opened | some a => entryFor (s.agent a).state

/-- Every zone takes the entry state of R109, and the zones that leave OPEN are closed (R37, R80). -/
def syncEntries (s : State) : State :=
  let leaving := (s.occ.zones.filter (fun p => p.2.entry = .opened && s.entryOf p.1 != .opened)).map (·.1)
  let s1 := s.setOcc { s.occ with zones := s.occ.zones.map (fun p => (p.1, { p.2 with entry := s.entryOf p.1 })) }
  leaving.foldl (fun s z => s.zoneCloses z) s1

/-! ## Agent states (R117, R119) -/

/-- Raises an alarm with subject AGENT and zone the top zone, at a suspect agent the stored one, damaged or not (log
entry 86, DESIGN CHOICE). -/
def raiseAgent (s : State) (a : Nat) (k : Kind) : State := s.raise k (.agent a) (s.agent a).cfg.top none

/-- An agent enters a state: the alarms that end with the state it leaves, and the entry states (R109, R119). -/
def enterState (s : State) (a : Nat) (new : AgentState) : State :=
  let old := (s.agent a).state
  let s1 := s.changeAgent a (fun r => { r with state := new })
  let s2 := if old = .countdown && new != .countdown then s1.endAlarm .egressShortfall (.agent a) else s1
  let s3 := if old = .occupiedHold && new != .occupiedHold then s2.endAlarm .occupiedHold (.agent a) else s2
  (if inRelease new then s3 else s3.endAlarm .preDischarge (.agent a)).syncEntries

/-- The effective maximum delay Dm (R106). -/
def maxDelay (c : AgentCfg) : Nat := max c.dmax c.db

/-- A bit of an agent's condition word. -/
def agentBit (s : State) (a i : Nat) : Bool := (s.agent a).cw.getLsbD i

/-- The gate of R126: OCC_CLEAR and DOORS_CLOSED, read as the records stand. -/
def gateOpen (s : State) (a : Nat) : Bool := s.occClear a && s.doorsClosed a

/-! ## The egress deadline (R116 to R118) -/

/-- The traverse time of a zone (R116 step 1); a suspect zone counts 60 s (R14). -/
def traverseOf (s : State) (r : ZoneRec) : Nat :=
  if r.suspect then 60
  else
    match r.cfg.egressDoor with
    | none => 60
    | some d =>
      match s.door? d with
      | none => 60
      | some dr => (s.classVals dr).traverse

/-- W and traverse of one zone of a path (R116 step 1); a suspect zone counts W 120 s (R14). -/
def zoneCost (s : State) (z : Nat) : Nat :=
  match s.zone? z with
  | none => 180
  | some r => (if r.suspect then 120 else r.cfg.walk) + s.traverseOf r

/-- The record of a person gives the longer allowance: ASSISTED_EGRESS, or a suspect record (R116 step 2). A person
with no record cannot be known to need less, and counts as suspect. -/
def assisted (s : State) (p : Nat) : Bool :=
  match s.person? p with | none => true | some r => r.cfg.assisted || r.suspect

/-- The egress allowance of an occupancy record in an agent's coverage (R116). -/
def allowance (s : State) (a top : Nat) (r : OccRec) : Nat :=
  if r.suspect then maxDelay (s.agent a).cfg
  else
    let e := ((s.pathTo r.zone top).map (fun z => s.zoneCost z)).sum
    if s.assisted r.person then (3 * e + 1) / 2 else e

/-- The occupancy records in an agent's coverage, by slot. -/
def coveredRecs (s : State) (a : Nat) : Table OccRec := s.occ.recs.filter (fun p => s.covers a p.2.zone)

/-- The required egress time E of an agent (R116), with the persons' records tested as they are read. -/
def egressTime (s : State) (a : Nat) : State × Nat :=
  match s.effectiveTop a with
  | none => (s, 0)
  | some top =>
    let rs := s.coveredRecs a
    let s' := s.testPersons ((rs.filter (fun p => !p.2.suspect)).map (fun p => p.2.person))
    (s', (rs.map (fun p => s'.allowance a top p.2)).foldl max 0)

/-- The deadline that a required time gives at `now` in a countdown begun at `t0` (R117, R118). -/
def deadlineAt (c : AgentCfg) (t0 now e : Nat) : Nat := min (t0 + maxDelay c) (max (t0 + c.db) (now + e + c.margin))

/-- An agent with the times of an opening countdown begun now (R117). -/
def openingTimes (r : AgentRec) (now e : Nat) : AgentRec :=
  { r with t0 := some now, deadline := some (deadlineAt r.cfg now now e), bound := some (now + maxDelay r.cfg),
           kind := .opening, echoed := false, confirmBy := none }

/-- An agent with no countdown times. -/
def noTimes (r : AgentRec) : AgentRec := { r with t0 := none, deadline := none, bound := none }

/-- A release begins (R122, R124): ABORT_HELD while ABORT is set, else an opening countdown. -/
def beginRelease (s : State) (a : Nat) : State :=
  if s.agentBit a bitAbort then
    ((s.raiseAgent a .preDischarge).changeAgent a noTimes).enterState a .abortHeld
  else
    match s.egressTime a with
    | (s1, e) =>
      let s2 := s1.changeAgent a (fun r => openingTimes r s1.now e)
      let c := (s.agent a).cfg
      let s3 := if maxDelay c < e + c.margin then s2.raiseAgent a .egressShortfall else s2
      (s3.raiseAgent a .preDischarge).enterState a .countdown

/-! ## The deadline, the hold and the gate (R125, R126) -/

/-- The agent enters OCCUPIED_HOLD and raises it (R125). -/
def enterHold (s : State) (a : Nat) : State := (s.enterState a .occupiedHold).raiseAgent a .occupiedHold

/-- The deadline of a COUNTDOWN is taken (R125). -/
def deadlineTaken (s : State) (a : Nat) : State :=
  if s.gateOpen a then (s.changeAgent a (fun r => { r with flag := true, echoed := false })).enterState a .discharge
  else s.enterHold a

/-- The deadline is taken when it has been reached in COUNTDOWN. -/
def takeCountdown (s : State) (a : Nat) : State :=
  if (s.agent a).state = .countdown && s.passed (s.agent a).deadline then s.deadlineTaken a else s

/-- The hold ends and a closing countdown begins (R117, R125); with M 0 its deadline is reached at once. -/
def endHold (s : State) (a : Nat) : State :=
  let tc := s.now
  ((s.changeAgent a (fun r => { r with deadline := some (tc + r.cfg.margin), bound := some (tc + r.cfg.margin),
                                       kind := .closing })).enterState a .countdown).takeCountdown a

/-- The flag is withdrawn by the gate, and the agent holds (R126). -/
def withdrawFlag (s : State) (a : Nat) : State := (s.changeAgent a (fun r => { r with flag := false })).enterHold a

/-- The discharge gate is tested while a flag that is not echoed is set (R126). -/
def testGate (s : State) (a : Nat) : State :=
  let r := s.agent a
  if r.state = .discharge && r.flag && !r.echoed && !s.gateOpen a then s.withdrawFlag a else s

/-- OCC_CLEAR and DOORS_CLOSED are read again: the hold ends, or the gate withdraws the flag (R125, R126). While the
agent is suspect its hold stays (R132). -/
def readGate (s : State) (a : Nat) : State :=
  if (s.agent a).state = .occupiedHold && !(s.agent a).suspect && s.gateOpen a then s.endHold a else s.testGate a

/-! ## Evaluation and its acts (R114, R121, R122) -/

/-- The agent is configured and its configuration record sound: its outputs and MANUAL act (R132). -/
def active (s : State) (a : Nat) : Bool := (s.agent a).state != .unconfigured && !(s.agent a).suspect

/-- The logic is evaluated for this agent: it is active, and not waiting for the report after a rewrite (R114, R132). -/
def logicRuns (s : State) (a : Nat) : Bool := s.active a && !(s.agent a).halted

/-- One evaluation: the terms run and the two outputs are read; nothing acts yet (R114). -/
def evaluate (s : State) (a : Nat) : State :=
  let l := s.logicInForce a
  s.changeAgent a (fun r =>
    let w := runTerms r.cw l.terms
    { r with cw := w, alertOut := w.getLsbD l.alertSel, releaseOut := w.getLsbD l.releaseSel })

/-- The acts on a rise or fall of the alert output (R121). -/
def actAlert (s : State) (a : Nat) (before : Bool) : State :=
  match before, (s.agent a).alertOut with
  | false, true =>
    let s1 := s.raiseAgent a .suppressionAlert
    if (s.agent a).state = .normal then s1.enterState a .alert else s1
  | true, false =>
    let s1 := s.endAlarm .suppressionAlert (.agent a)
    if (s.agent a).state = .alert then s1.enterState a .normal else s1
  | false, false => s
  | true, true => s

/-- The agent can begin a release (R122). -/
def watching (s : State) (a : Nat) : Bool := (s.agent a).state = .normal || (s.agent a).state = .alert

/-- The acts on a rise of the release output (R122). -/
def actRelease (s : State) (a : Nat) (before : Bool) : State :=
  if !before && (s.agent a).releaseOut && !(s.agent a).isolated && s.watching a then s.beginRelease a else s

/-- The acts on the changes of both outputs since they were `alert` and `release`. -/
def actOutputs (s : State) (a : Nat) (alert release : Bool) : State := (s.actAlert a alert).actRelease a release

/-- A release is called for by level: the release output without isolation, or MANUAL (R121, R124). -/
def releaseCalled (s : State) (a : Nat) : Bool :=
  ((s.agent a).releaseOut && !(s.agent a).isolated) || s.agentBit a bitManual

/-- A re-evaluation (R121): the outputs as they stand are read as levels. A suspect agent's outputs and MANUAL begin
nothing (R132). -/
def reevaluate (s : State) (a : Nat) : State :=
  if s.watching a && s.active a then
    if s.releaseCalled a then s.beginRelease a
    else if (s.agent a).alertOut then
      if (s.agent a).state = .normal then (s.raiseAgent a .suppressionAlert).enterState a .alert else s
    else if (s.agent a).state = .alert then s.enterState a .normal
    else s
  else s

/-- The derived inputs that an agent follows: all while it is active; while it is suspect its condition word keeps its
bits, and STATION_OK alone follows, since station silence acts as stated (R112, R130, R132; log entry 14). The bit
ISOLATED of a suspect agent so keeps its value where R131 has it follow the flag (log entry 14, DESIGN CHOICE). -/
def followedMask (s : State) (a : Nat) : BitVec 32 :=
  if (s.agent a).state = .unconfigured then 0#32
  else if (s.agent a).suspect then maskOf bitStationOk
  else derivedMask

/-- The derived inputs that `mask` names are re-read (R112), and one evaluation is made and acts when one has changed
(R114). An agent that waits for the report after a rewrite takes its inputs and makes no evaluation (R132). -/
def rereadAgent (mask : BitVec 32) (s : State) (a : Nat) : State :=
  let w := blend (s.agent a).cw (s.derivedWord a) (mask &&& s.followedMask a)
  if w = (s.agent a).cw then s
  else
    let s1 := s.changeAgent a (fun r => { r with cw := w })
    if s.logicRuns a then (s1.evaluate a).actOutputs a (s.agent a).alertOut (s.agent a).releaseOut else s1

/-- One round: every agent's inputs are re-read with the acts that follow, and then every agent's hold and gate (R114,
R125, R126), each ascending. The spec does not order the two at one change (log entry 21, DESIGN CHOICE). -/
def settleRound (mask : BitVec 32) (s : State) : State :=
  eight.foldl (fun s a => s.readGate a) (eight.foldl (fun s a => rereadAgent mask s a) s)

/-- Rounds until no agent changes, at most `fuel` of them (log entry 21). -/
def settleLoop : Nat → BitVec 32 → State → State
  | 0, _, s => s
  | n + 1, mask, s =>
    let s' := settleRound mask s
    if s'.rel.agents = s.rel.agents then s' else settleLoop n derivedMask s'

/-- The Release Unit has been told of changes that reach the inputs of `mask`: R112, R114, R125, R126. -/
def settleBits (s : State) (mask : BitVec 32) : State := settleLoop 32 mask s

/-- The Release Unit has been told of a change of any derived input. -/
def settle (s : State) : State := s.settleBits derivedMask

/-! ## Recomputing the deadline (R118) -/

/-- The deadline of an opening countdown is recomputed now (R118). -/
def recompute (s : State) (a : Nat) : State :=
  match (s.agent a).t0, (s.agent a).deadline with
  | some t0, some dl =>
    if (s.agent a).state = .countdown && (s.agent a).kind = .opening && !(s.agent a).suspect then
      match s.egressTime a with
      | (s1, e) =>
        (s1.changeAgent a (fun r => { r with deadline := some (min dl (deadlineAt r.cfg t0 s1.now e)) })).takeCountdown a
    else s
  | _, _ => s

/-- The Occupancy Unit reports that records of these zones have been made, moved or retired or have become suspect: the
agents that cover one of them recompute (R13, R118). -/
def recomputeFor (s : State) (zs : List Nat) : State :=
  eight.foldl (fun s a => if zs.any (fun z => s.covers a z) then s.recompute a else s) s

/-! ## Discharge (R127, R128) -/

/-- An agent with the values of an entry into DISCHARGED (R127). -/
def dischargedRec (r : AgentRec) (now : Nat) : AgentRec :=
  { r with dischargeTime := some now, flag := false, t0 := none, deadline := none, bound := none, confirmBy := none,
           echoed := false }

/-- The agent enters DISCHARGED and raises DISCHARGE (R127). -/
def enterDischarged (s : State) (a : Nat) : State :=
  ((s.changeAgent a (fun r => dischargedRec r s.now)).enterState a .discharged).raiseAgent a .discharge

/-- The confirmation deadline is reached without the pressure switch (R127). -/
def takeConfirmation (s : State) (a : Nat) : State :=
  if (s.agent a).state = .discharge && (s.agent a).echoed && s.passed (s.agent a).confirmBy then
    (s.enterDischarged a).raiseAgent a .dischargeUnconfirmed
  else s

/-- A report echoes a token issued while the discharge flag was set (R127). It is taken once, and in every state but
those in which the discharge is over or the agent has no configuration (log entry 22). -/
def takeEcho (s : State) (a : Nat) : State :=
  match (s.agent a).state with
  | .unconfigured | .discharged | .spent => s
  | .normal | .alert | .countdown | .abortHeld | .occupiedHold | .discharge | .fault =>
    if (s.agent a).echoed then s
    else
      let s1 := s.changeAgent a (fun r => { r with echoed := true, confirmBy := some (s.now + r.cfg.confirm) })
      if (s.agent a).state = .discharge then s1 else s1.enterState a .discharge

/-- A report shows the pressure switch active (R128). -/
def takePressure (s : State) (a : Nat) : State :=
  match (s.agent a).state with
  | .unconfigured => s
  | .discharged => s.endAlarm .dischargeUnconfirmed (.agent a)
  | .normal | .alert | .countdown | .abortHeld | .occupiedHold | .discharge | .spent | .fault => s.enterDischarged a

/-! ## ABORT, AGENT_READY, silence and return (R123, R124, R129, R130) -/

/-- ABORT has set (R123). -/
def abortSet (s : State) (a : Nat) : State :=
  match (s.agent a).state with
  | .countdown | .occupiedHold => (s.changeAgent a noTimes).enterState a .abortHeld
  | .discharge =>
    if (s.agent a).echoed then s
    else (s.changeAgent a (fun r => noTimes { r with flag := false })).enterState a .abortHeld
  | .unconfigured | .normal | .alert | .abortHeld | .discharged | .spent | .fault => s

/-- ABORT has cleared (R124). While the agent is suspect, its outputs and MANUAL begin nothing (R132). -/
def abortCleared (s : State) (a : Nat) : State :=
  if (s.agent a).state = .abortHeld then
    if s.active a && s.releaseCalled a then s.beginRelease a
    else (s.enterState a .normal).reevaluate a
  else s

/-- The acts on a change of ABORT from `before` (R123, R124). -/
def actAbort (s : State) (a : Nat) (before : Bool) : State :=
  match before, s.agentBit a bitAbort with
  | false, true => s.abortSet a
  | true, false => s.abortCleared a
  | false, false => s
  | true, true => s

/-- The act on a rise of MANUAL (R122). -/
def actManual (s : State) (a : Nat) (before : Bool) : State :=
  if !before && s.agentBit a bitManual && s.watching a then s.beginRelease a else s

/-- The act on a rise of AGENT_READY: SPENT becomes NORMAL (R129). -/
def actReady (s : State) (a : Nat) (before : Bool) : State :=
  if !before && s.agentBit a bitReady && (s.agent a).state = .spent then
    ((s.changeAgent a (fun r => { r with dischargeTime := none })).enterState a .normal).reevaluate a
  else s

/-- The agent's station has been declared SILENT (R130); the spent mark says whether FAULT was entered from SPENT (R107). At an
UNCONFIGURED agent nothing is raised (log entry 71, DESIGN CHOICE). -/
def agentSilent (s : State) (a : Nat) : State :=
  if (s.agent a).state = .unconfigured then s
  else
    let s1 := s.raiseAgent a .agentFault
    match (s.agent a).state with
    | .normal | .alert => (s1.changeAgent a (fun r => { r with spentMark := false })).enterState a .fault
    | .spent => (s1.changeAgent a (fun r => { r with spentMark := true })).enterState a .fault
    | .unconfigured | .countdown | .abortHeld | .occupiedHold | .discharge | .discharged | .fault => s1

/-- The return of R130: an agent in FAULT leaves it by the readiness that the report shows. -/
def agentReturn (s : State) (a : Nat) (ready : Bool) : State :=
  let s1 := s.endAlarm .agentFault (.agent a)
  if (s.agent a).state = .fault then
    if (s.agent a).spentMark && !ready then
      (s1.changeAgent a (fun r => { r with spentMark := false })).enterState a .spent
    else (s1.changeAgent a (fun r => { r with spentMark := false, dischargeTime := none })).enterState a .normal
  else s1

/-! ## Reports (R111, R120) -/

/-- DETECTOR_FAULT at a change of one channel's FAULT bit, the other channel's being `other` (R111). -/
def actFault (s : State) (a : Nat) (before after other : Bool) : State :=
  match before, after with
  | false, true => s.raiseAgent a .detectorFault
  | true, false => if other then s else s.endAlarm .detectorFault (.agent a)
  | false, false => s
  | true, true => s

/-- What an agent station's report says (R120). -/
structure AgentReport where
  v1       : Nat
  v2       : Nat
  manual   : Bool
  abort    : Bool
  spareA   : Bool
  spareB   : Bool
  ready    : Bool
  pressure : Bool
  deriving DecidableEq, Repr

/-- The condition word after a report's inputs (R110, R112). -/
def inputWord (r : AgentRec) (x : AgentReport) : BitVec 32 :=
  let w := r.cw
  let w1 := putChannel w 0 18 (detect r.cfg.ch1 x.v1 (w.getLsbD 0) (w.getLsbD 1))
  let w2 := putChannel w1 3 19 (detect r.cfg.ch2 x.v2 (w.getLsbD 3) (w.getLsbD 4))
  setBit (setBit (setBit (setBit (setBit w2 bitManual x.manual) bitAbort x.abort) bitSpareA x.spareA) bitSpareB
    x.spareB) bitReady x.ready

/-- Step 4 of R120: the inputs with DETECTOR_FAULT, and one evaluation if any has changed. The report after a rewrite is
evaluated in every case, since logic evaluation resumes at it (R132; log entry 15). Channel 1 is taken first, beside the
FAULT bit that channel 2 had (R111; log entry 61, DESIGN CHOICE). -/
def takeInputs (s : State) (a : Nat) (x : AgentReport) : State :=
  let w0 := (s.agent a).cw
  let w := blend (inputWord (s.agent a) x) (s.derivedWord a) derivedMask
  let s1 := s.changeAgent a (fun r => { r with cw := w, halted := false })
  let s2 := s1.actFault a (w0.getLsbD 2) (w.getLsbD 2) (w0.getLsbD 5)
  let s3 := s2.actFault a (w0.getLsbD 5) (w.getLsbD 5) (w.getLsbD 2)
  if w = w0 && !(s.agent a).halted then s3 else s3.evaluate a

/-- At the first good report after a warm restart, after step 4 (R133): conditions that did not outlast the restart
end, and an agent in NORMAL is re-evaluated. -/
def firstReport (s : State) (a : Nat) : State :=
  let s1 := if s.agentBit a 2 || s.agentBit a 5 then s else s.endAlarm .detectorFault (.agent a)
  let s2 := if (s.agent a).alertOut then s1 else s1.endAlarm .suppressionAlert (.agent a)
  if (s.agent a).state = .normal then s2.reevaluate a else s2

/-- Steps 4 and 5 of R120. `back` says that the report brought the agent from FAULT to NORMAL, so that a
re-evaluation stands in place of the acts on output changes (R130); `first` that it is the first after a warm
restart. Of its inputs a suspect agent takes only ABORT (R132). -/
def takeBits (s : State) (a : Nat) (x : AgentReport) (back first : Bool) : State :=
  let r := s.agent a
  if r.suspect then
    let s1 := s.changeAgent a (fun r => { r with cw := setBit r.cw bitAbort x.abort })
    (if first then s1.firstReport a else s1).actAbort a (r.cw.getLsbD bitAbort)
  else
    let s1 := s.takeInputs a x
    let s2 := if first then s1.firstReport a else s1
    let s3 := if back then s2.reevaluate a else s2
    let s4 := (s3.actAbort a (r.cw.getLsbD bitAbort)).actManual a (r.cw.getLsbD bitManual)
    let s5 := if back then s4 else s4.actOutputs a r.alertOut r.releaseOut
    s5.actReady a (r.cw.getLsbD bitReady)

/-- An accepted report of an agent's station (R120). `returned`: it ends AWAITING or SILENT (R164). `echo`: it
echoes a token issued while the discharge flag was set. -/
def agentReport (s : State) (a : Nat) (x : AgentReport) (returned echo : Bool) : State :=
  let r := s.agent a
  if r.state = .unconfigured then s
  else
    let first := r.awaitFirst
    let s0 := s.changeAgent a (fun r => { r with awaitFirst := false })
    let s1 := if returned || first then s0.agentReturn a x.ready else s0
    let back := r.state = .fault && (s1.agent a).state = .normal
    let s2 := if echo then s1.takeEcho a else s1
    let s3 := if x.pressure then s2.takePressure a else s2
    (s3.takeBits a x back first).settle

/-! ## Starts and rewrites (R107, R108, R133) -/

/-- An agent's live fields at their Reset values, with its configuration (R107). -/
def unconfiguredRec (r : AgentRec) : AgentRec :=
  { cfg := r.cfg, suspect := r.suspect, halted := r.halted, checkOk := r.checkOk }

/-- The state and discharge time after a warm restart that ends at `now` (R133). -/
def restartState (r : AgentRec) (now : Nat) : AgentState × Option Nat :=
  match r.state with
  | .unconfigured => (.unconfigured, none)
  | .normal | .alert | .countdown | .abortHeld | .occupiedHold => (.normal, none)
  | .fault => if r.spentMark then (.spent, r.dischargeTime) else (.normal, none)
  | .spent => (.spent, r.dischargeTime)
  | .discharged => (.discharged, r.dischargeTime)
  | .discharge => if r.echoed then (.discharged, some now) else (.normal, none)

/-- An agent's record after a warm restart, before its inputs are read (R133): station inputs, STATION_OK and scratch
bits are clear, and the outputs are FALSE until an evaluation is made. The spent mark, the countdown kind and the echoed flag
return to their Reset values (log entry 62, DESIGN CHOICE). -/
def restartedAgent (r : AgentRec) (now : Nat) : AgentRec :=
  { cfg := r.cfg, suspect := r.suspect, checkOk := r.checkOk, state := (restartState r now).1, isolated := r.isolated,
    dischargeTime := (restartState r now).2, awaitFirst := r.state != .unconfigured }

/-- The alarms of one agent at a warm restart (R133). -/
def restartAlarms (s : State) (a : Nat) (r : AgentRec) : State :=
  match r.state with
  | .countdown | .abortHeld | .occupiedHold =>
    ((s.endAlarm .preDischarge (.agent a)).endAlarm .egressShortfall (.agent a)).endAlarm .occupiedHold (.agent a)
  | .discharge =>
    if r.echoed then
      ((s.endAlarm .preDischarge (.agent a)).raiseAgent a .discharge).raiseAgent a .dischargeUnconfirmed
    else
      ((s.endAlarm .preDischarge (.agent a)).endAlarm .egressShortfall (.agent a)).endAlarm .occupiedHold (.agent a)
  | .unconfigured | .normal | .alert | .discharged | .spent | .fault => s

/-- The derived inputs of a configured agent are read from the tables (R108, R133). -/
def readInputs (s : State) (a : Nat) : State :=
  if (s.agent a).state = .unconfigured then s
  else s.changeAgent a (fun r => { r with cw := blend r.cw (s.derivedWord a) derivedMask })

/-- The inputs of an agent at a warm restart, and one evaluation whose outputs are stored without acting (R133). A
suspect agent makes no evaluation (R132; log entry 15). -/
def restartInputs (s : State) (a : Nat) : State :=
  if s.logicRuns a then (s.readInputs a).evaluate a else s.readInputs a

/-- The Release Unit at a warm restart (R133). -/
def restartRelease (s : State) : State :=
  let s1 := eight.foldl (fun t a => (t.putAgent a (restartedAgent (s.agent a) s.now)).restartAlarms a (s.agent a)) s
  let s2 := s1.setOcc { s1.occ with zones := s1.occ.zones.map (fun p => (p.1, { p.2 with entry := s1.entryOf p.1 })) }
  eight.foldl (fun s a => s.restartInputs a) s2

end State
end Sys2Proof.Machine
end

