-- ==== Sys2Proof/Machine/Link.lean ====
section
/-! DEFINITION. The Station Link Controller (08_station_link.md): serving, desired outputs and tokens, the transmitter
with its lanes, polls, reports, silence and return, and the delivery of reported events to their owners. -/

namespace Sys2Proof.Machine

/-- The Reset values of a kind's desired outputs (R165). -/
def resetOutputs : StationKind → Outputs
  | .door => .door 0 .none
  | .zone => .zone .off
  | .agent => .agent false .off

/-- The outputs carry the discharge flag set. -/
def flagIn : Outputs → Bool
  | .agent f _ => f
  | .door _ _ => false
  | .zone _ => false

/-- The outputs carry the strike ON. -/
def strikeIn : Outputs → Bool
  | .door n _ => n != 0
  | .zone _ => false
  | .agent _ _ => false

/-- The discharge flag of the sent image; a station that was never polled was sent none. -/
def sentFlag (st : StationRec) : Bool := match st.sent with | none => false | some x => flagIn x.1

/-- The station's outputs are delivered (R155). -/
def delivered (st : StationRec) : Bool := st.echo = some st.token

namespace State

/-! ## Serving (R157) -/

/-- The station serves its bound object (R157), by the address that the object's record stores, damaged or not (log entry
84, DESIGN CHOICE). -/
def serves (s : State) (addr : Nat) (st : StationRec) : Bool :=
  !st.suspect &&
    match st.cfg.kind with
    | .zone => true
    | .door => match s.door? st.cfg.bound with | none => false | some d => d.cfg.station = addr
    | .agent => (s.agent st.cfg.bound).cfg.station = some addr

/-- The outputs that the owner of a station's object wants driven (R165). A station that serves nothing keeps the
Reset values (R157). -/
def ownerOutputs (s : State) (addr : Nat) (st : StationRec) : Outputs :=
  if s.serves addr st then
    match st.cfg.kind with
    | .door =>
      match s.door? st.cfg.bound with
      | none => resetOutputs .door
      | some d => .door (desiredStrike d) d.indication
    | .zone => .zone (s.sounderOf st.cfg.bound)
    | .agent => .agent (s.agent st.cfg.bound).flag (evacFor (s.agent st.cfg.bound).state)
  else resetOutputs st.cfg.kind

/-- A station with new desired outputs: its token advances when they differ (R165). -/
def withOutputs (st : StationRec) (o : Outputs) : StationRec :=
  if o = st.desired then st else { st with desired := o, token := (st.token + 1) % 8 }

/-- After one event, every owner's changed outputs are written, and each station's token advances once (R165). -/
def syncStations (s : State) : State :=
  s.setLink { s.link with stations := s.link.stations.map (fun p => (p.1, withOutputs p.2 (s.ownerOutputs p.1 p.2))) }

/-! ## Lanes (R163) -/

/-- The station is in the exchange in progress. -/
def inExchange (s : State) (addr : Nat) : Bool :=
  match s.link.exchange with | none => false | some x => x.address = addr && !x.void

/-- 250 ms have passed since the station's last poll began. A station of which no poll is on record, since it was never
polled or an AMEND, a rewrite or a start has cleared it, is due at once (log entry 64, DESIGN CHOICE). -/
def pollDue (s : State) (st : StationRec) : Bool :=
  match st.lastPoll with | none => true | some t => t + 25 ≤ s.base

/-- The condition of the safety lane (R163). -/
def safetyHolds (s : State) (addr : Nat) : Bool :=
  match s.station? addr with
  | none => false
  | some st =>
    !st.suspect && !s.inExchange addr && st.cfg.kind = .agent &&
      ((inRelease (s.agent st.cfg.bound).state && s.pollDue st) || flagIn st.desired != sentFlag st)

/-- The condition of the door lane (R163). -/
def doorHolds (s : State) (addr : Nat) : Bool :=
  match s.station? addr with
  | none => false
  | some st => !st.suspect && !s.inExchange addr && st.link != .silent && !delivered st

/-- A lane keeps its stations in their order of joining while its condition holds, and the others join at its end. -/
def laneWith (holds : Nat → Bool) (keys lane : List Nat) : List Nat :=
  lane.filter holds ++ keys.filter (fun k => holds k && !lane.contains k)

/-- Stations join and leave the safety and door lanes (R163). -/
def refreshLanes (s : State) : State :=
  s.setLink { s.link with
    safetyLane := laneWith (fun a => s.safetyHolds a) s.link.stations.keys s.link.safetyLane
    doorLane := laneWith (fun a => s.doorHolds a) s.link.stations.keys s.link.doorLane }

/-- The end of one event: freeze states (R75), the Release Unit's inputs (R112), the stations' outputs (R165), and the lanes,
which a station joins at the event that brings its condition (R163). -/
def conclude (s : State) : State := s.freezeReached.settle.syncStations.refreshLanes

/-- The end of a command is the end of its last event. -/
def finish (s : State) : State := s.conclude

/-- The stations of the rotation lane: the configured ones that are not suspect (R163). -/
def rotationLane (s : State) : List Nat := (s.link.stations.filter (fun p => !p.2.suspect)).map (·.1)

/-- The next station of the rotation lane: ascending and cyclic, after the one last taken from it (R163). -/
def rotationNext (s : State) : Option Nat :=
  match s.rotationLane.find? (fun a => s.link.rotation < a) with
  | some a => some a
  | none => s.rotationLane.head?

/-- The lane a free transmitter takes from. -/
inductive Lane where
  | safety | door | rotation
  deriving DecidableEq, Repr

/-- The station that a free transmitter takes, and its lane (R163). -/
def chosen (s : State) : Option (Nat × Lane) :=
  match s.link.safetyLane with
  | a :: _ => some (a, .safety)
  | [] =>
    match s.link.doorLane, s.rotationNext with
    | d :: _, none => some (d, .door)
    | d :: _, some r => if s.link.rotationTurn then some (r, .rotation) else some (d, .door)
    | [], some r => some (r, .rotation)
    | [], none => none

/-- The link after a station has been taken from a lane: it leaves the safety and door lanes, and the turn and the
rotation position move (R163). -/
def taken (u : LinkUnit) (addr : Nat) (lane : Lane) : LinkUnit :=
  let u1 := { u with safetyLane := u.safetyLane.filter (· != addr), doorLane := u.doorLane.filter (· != addr) }
  match lane with
  | .safety => u1
  | .door => { u1 with rotationTurn := true }
  | .rotation => { u1 with rotationTurn := false, rotation := addr }

/-! ## Polls (R126, R159) -/

/-- The gate test of a poll that would carry the discharge flag set (R126). A discharge already echoed cannot be
recalled, so that only its flag is cleared (log entry 23). -/
def pollGate (s : State) (a : Nat) : State :=
  let r := s.agent a
  if r.flag && !s.gateOpen a then
    if r.state = .discharge && !r.echoed then s.withdrawFlag a else s.changeAgent a (fun r => { r with flag := false })
  else s

/-- The poll of this station would carry the discharge flag set, and the gate is shut (R126). -/
def gateShuts (s : State) (st : StationRec) : Bool :=
  flagIn st.desired && !s.gateOpen st.cfg.bound

/-- The gate test when a station is about to be polled with the flag set; the outputs follow at once (R159). -/
def gateBeforePoll (s : State) (st : StationRec) : State :=
  if s.gateShuts st then (s.pollGate st.cfg.bound).conclude else s

/-- The outputs that the poll of a station carries: while the gate is shut the poll being built carries the flag clear
(R126). -/
def polledOutputs (s : State) (st : StationRec) : Outputs :=
  match st.desired with
  | .agent f e => .agent (f && s.gateOpen st.cfg.bound) e
  | .door n i => .door n i
  | .zone x => .zone x

/-- The bytes of the poll that a station is sent now (R159). -/
def pollOf (s : State) (addr : Nat) (st : StationRec) : List Byte :=
  pollFrame addr (st.link != .answering) st.token st.lastReport (s.polledOutputs st)

/-- The poll of a station: the image sent is stored and the exchange begins (R159). -/
def sendPoll (s : State) (addr : Nat) (lane : Lane) (st : StationRec) : State :=
  let s1 := s.putStation addr { st with sent := some (s.polledOutputs st, st.token), lastPoll := some s.base }
  s1.setLink { taken s1.link addr lane with exchange := some { address := addr }, frame := s.pollOf addr st }

/-- A free transmitter takes a station and polls it (R159, R163). -/
def pollNext (s : State) : State :=
  match s.link.exchange with
  | some _ => s
  | none =>
    match s.chosen with
    | none => s
    | some (addr, lane) =>
      match s.station? addr with
      | none => s
      | some st =>
        let s1 := s.gateBeforePoll st
        match s1.station? addr with
        | none => s1
        | some st1 => s1.sendPoll addr lane st1

/-! ## Silence (R157, R164) -/

/-- The owner of a door or agent is told that the station which serves it has fallen silent (R157, R164). -/
def tellSilence (s : State) (c : StationCfg) : State :=
  match c.kind with
  | .door => s.doorSilent c.bound
  | .agent => s.agentSilent c.bound
  | .zone => s

/-- The zone that a raise for a station carries while it serves (R164): by the object's record as stored (log entry 86,
DESIGN CHOICE). -/
def stationZone (s : State) (addr : Nat) (st : StationRec) : Option Nat :=
  if s.serves addr st then
    match st.cfg.kind with
    | .door => (s.door? st.cfg.bound).map (fun d => d.cfg.inner)
    | .zone => some st.cfg.bound
    | .agent => (s.agent st.cfg.bound).cfg.top
  else none

/-- The third consecutive miss makes a station SILENT (R164). -/
def goSilent (s : State) (addr : Nat) (st : StationRec) : State :=
  let s1 := (s.putStation addr { st with link := .silent, missed := 3 }).raise .stationSilent (.station addr)
    (s.stationZone addr st) none
  if s.serves addr st then s1.tellSilence st.cfg else s1

/-- A missed poll (R164). -/
def missedPoll (s : State) (addr : Nat) (st : StationRec) : State :=
  if st.link = .silent then s
  else if st.missed < 2 then s.putStation addr { st with missed := st.missed + 1 }
  else s.goSilent addr st

/-- The exchange ends after all that its reply brings: the station polled joins a lane again, at its end, where a condition
holds (R163; log entry 8). -/
def exchangeOver (s : State) : State :=
  let s1 := s.finish
  (s1.setLink { s1.link with exchange := none }).refreshLanes

/-- The poll of an exchange counts as missed at the station polled, unless the station was retired or is suspect (R156,
R160). -/
def missedReply (s : State) (x : Exchange) : State :=
  if x.void then s
  else
    match s.station? x.address with
    | none => s
    | some st => if st.suspect then s else s.missedPoll x.address st

/-- The reply window has ended with no good report (R160). -/
def windowEnds (s : State) : State :=
  match s.link.exchange with
  | none => s.finish
  | some x => (s.missedReply x).exchangeOver

/-- The serving of an object ends at a station with this link: the owner takes a silence unless it has taken one already
(R157). -/
def endServing (s : State) (link : Link) (c : StationCfg) : State := if link = .silent then s else s.tellSilence c

/-- Serving begins for a station: it is AWAITING with missed count 0 (R157). -/
def beginServing (s : State) (addr : Nat) : State :=
  s.changeStation addr (fun st => { st with link := .awaiting, missed := 0, serving := some st.cfg })

/-- One station whose serving may have begun or ended: the owner of the object that was served takes an end as a silence
(R157), whatever damage has written into the record (R166). A suspect station is treated as SILENT (R166). -/
def tellServing (s : State) (p : Nat × StationRec) : State :=
  match p.2.serving, s.serves p.1 p.2 with
  | some c, false =>
    (s.endServing p.2.link c).changeStation p.1 (fun st =>
      { st with serving := none, link := if st.suspect then .silent else st.link })
  | none, true => s.beginServing p.1
  | some _, true => s
  | none, false => if p.2.suspect then s.changeStation p.1 (fun st => { st with link := .silent }) else s

/-- The stations whose serving has begun or ended since their owners were last told, ascending (R157). A serving that
ends or begins by damage to a door or an agent is told here too, which the events of R157 do not name (log entry 84,
DESIGN CHOICE). -/
def syncServing (s : State) : State := s.link.stations.foldl (fun t p => t.tellServing p) s

/-! ## Door reports (R26, R85) -/

/-- A contact closing, with the completion it hands over (R24, R85 step 5, R118). The Release Unit takes the door's
new state first and the completion after it (06, worked example "an occupied hold"); of what the completion brings it
takes DURESS_OPEN before the other inputs, and the deadline last (log entry 17, DESIGN CHOICE). -/
def closeAndComplete (s : State) (d : Nat) : State :=
  match s.closing d with
  | (s1, false) => s1
  | (s1, true) =>
    let s2 := s1.settleBits (maskOf bitDoorsClosed)
    let s3 := (s2.handOver d).freezeReached
    ((s3.settleBits (maskOf bitDuressOpen)).settle.recomputeFor (s2.handedZones d)).settle

/-- A door station's contact state and opened-latch (R26). -/
def doorStatus (s : State) (d : Nat) (isOpen latch : Bool) : State :=
  match s.door? d with
  | none => s
  | some r =>
    if isOpen then (if contactOpen r.state then s else (s.opening d).conclude)
    else if contactOpen r.state then (s.closeAndComplete d).conclude
    else if latch then (((s.opening d).conclude).closeAndComplete d).conclude
    else s

/-! ## Events (R61, R62, R94, R150, R162) -/

/-- DURESS at the arrival of a door request (R62). -/
def raiseDuress (s : State) (d : Nat) (p : Option Nat) : State :=
  s.raise .duress (match p with | some n => .person n | none => .door d)
    ((s.door? d).map (fun r => r.cfg.inner)) p

/-- A door request at a reader (R61, R62): resolution, DURESS, then the decision or the exit. The Release Unit takes
DURESS_OPEN before the decision (log entry 59, DESIGN CHOICE). -/
def doorRequest (s : State) (d : Nat) (isEntry : Bool) (cred : Nat) (m : Mode) : State :=
  match s.resolve cred with
  | (s1, res) =>
    let s2 := match m with
      | .duress => (s1.raiseDuress d res.person?).settleBits (maskOf bitDuressOpen)
      | .normal => s1
    if isEntry then s2.decideEntry d (some cred) res m s2.nowTenths
    else s2.exitRequest d res.person? s2.nowTenths

/-- A fob report at a station of zone `z` (R150). -/
def fobReport (s : State) (k : Kind) (z cred : Nat) : State :=
  match s.resolve cred with
  | (s1, .person p) =>
    let s2 := s1.raise k (.person p) (some z) (some p)
    match s2.recordOf p with
    | some (_, r) => if r.zone = z then s2 else s2.mismatch p z
    | none => if (s2.suspectRecordOf p).isSome then s2 else s2.mismatch p z
  | (s1, .unknown) => s1.raise k (.zone z) (some z) none
  | (s1, .suspect) => s1.raise k (.zone z) (some z) none

/-- The mode that a reader event's qualifier gives: 1 for DURESS (R186; log entry 24 for other values). -/
def modeOf (qualifier : Nat) : Mode := if qualifier = 1 then .duress else .normal

/-- One event of a report, delivered to its owner (R162). An event of another kind than its station's, or without the
credential it needs, is discarded. R186 gives no effect to a qualifier other than 0 in types 3 to 6, nor to a credential
in an exit-button event: the model passes both over and takes the event (log entry 85, DESIGN CHOICE). -/
def deliverEvent (k : StationKind) (bound : Nat) (s : State) (e : Event) : State :=
  match k, e.type with
  | .door, 1 => if e.credential = 0 then s else (s.doorRequest bound true e.credential (modeOf e.qualifier)).conclude
  | .door, 2 => if e.credential = 0 then s else (s.doorRequest bound false e.credential (modeOf e.qualifier)).conclude
  | .door, 3 => (s.exitRequest bound none s.nowTenths).conclude
  | .zone, 4 => if e.credential = 0 then s else (s.checkIn bound e.credential).conclude
  | .zone, 5 => if e.credential = 0 then s else (s.fobReport .duress bound e.credential).conclude
  | .zone, 6 => if e.credential = 0 then s else (s.fobReport .manDown bound e.credential).conclude
  | _, _ => s

/-! ## Good reports (R161, R162, R164) -/

/-- A good report is judged and numbered, and the station is ANSWERING. Its return from AWAITING or SILENT ends
STATION_SILENT (R161, R164, R167). -/
def judged (s : State) (addr : Nat) (st : StationRec) (n : Nat) : State :=
  let s1 := s.putStation addr { st with link := .answering, missed := 0, lastReport := some n }
  if st.link = .answering then s1 else s1.endAlarm .stationSilent (.station addr)

/-- The sent image that a report's echoed token delivers (R162 step 2). -/
def echoedImage (st : StationRec) (echo : Nat) : Option Outputs :=
  match st.sent with
  | none => none
  | some (o, t) => if t = echo then some o else none

/-- A door that is UNKNOWN takes its station's return by R39, and with it the report's status. -/
def takesReturn (s : State) (st : StationRec) : Bool :=
  st.link != .answering &&
    match s.door? st.cfg.bound with | none => false | some r => r.state = .unknown

/-- Steps 1 to 3 of R162 at a serving station. On a return the door takes the report's status by R39. -/
def deliverStatus (s : State) (st : StationRec) (r : Report) (image : Option Outputs) (accepted : Bool) : State :=
  match st.cfg.kind, r.status with
  | .door, .door isOpen latch =>
    let latch' := latch && accepted
    let s1 := if s.takesReturn st then (s.doorReturn st.cfg.bound isOpen latch').conclude else s
    let s2 := match image with
      | some o => if strikeIn o then s1.strikeEcho st.cfg.bound else s1
      | none => s1
    if s.takesReturn st then s2 else s2.doorStatus st.cfg.bound isOpen latch'
  | .agent, .agent v1 v2 m a sa sb rd p =>
    (s.agentReport st.cfg.bound ⟨v1, v2, m, a, sa, sb, rd, p⟩ (st.link != .answering)
      (match image with | some o => flagIn o | none => false)).conclude
  | _, _ => s

/-- A good report is delivered (R161, R162, R164), inside the exchange. A station that serves nothing delivers nothing. -/
def deliver (s : State) (addr : Nat) (st : StationRec) (r : Report) : State :=
  let accepted : Bool := st.lastReport != some r.number
  let s1 := s.judged addr st r.number
  if s.serves addr st then
    let image := echoedImage st r.echo
    let s2 := match image with
      | some _ => s1.changeStation addr (fun q => { q with echo := some r.echo })
      | none => s1
    let s3 := s2.deliverStatus st r image accepted
    if accepted then r.events.foldl (deliverEvent st.cfg.kind st.cfg.bound) s3 else s3
  else s1

/-- The good report that these bytes are, with the station polled, if they are one (R160). -/
def goodReply (s : State) (bytes : List Byte) : Option (Nat × StationRec × Report) :=
  match s.link.exchange with
  | none => none
  | some x =>
    if x.void then none
    else
      match s.station? x.address with
      | none => none
      | some st =>
        if st.suspect then none else (readReport st.cfg.kind x.address bytes).map (fun r => (x.address, st, r))

/-- A station's reply (R160): a good report is delivered, and the exchange ends with it; any other reply leaves the exchange
to the end of its window. -/
def reply (s : State) (bytes : List Byte) : State :=
  match s.goodReply bytes with
  | none => s.finish
  | some (addr, st, r) => (s.deliver addr st r).exchangeOver

/-! ## Starts (R167) -/

/-- A station after a warm restart (R167). -/
def restartedStation (st : StationRec) : StationRec :=
  { cfg := st.cfg, suspect := st.suspect, checkOk := st.checkOk, serving := st.serving,
    link := if st.suspect then .silent else .awaiting, lastReport := st.lastReport,
    desired := resetOutputs st.cfg.kind }

/-- The Station Link Controller at a warm restart, before the owners write their outputs (R167). -/
def restartLink (s : State) : State :=
  s.setLink { stations := s.link.stations.map (fun p => (p.1, restartedStation p.2)), frame := s.link.frame }

end State
end Sys2Proof.Machine
end

