-- ==== Sys2Proof/Machine/Checks.lean ====
section
/-! DEFINITION. Record checks (10, R181): the damage that the environment does (log entry 5), the marks and the effects
of a failed check in each table, the reading of the tables, the check sweep, and the full check of a warm restart. -/

namespace Sys2Proof.Machine
namespace State

/-! ## Damage (R178, R181; log entry 5) -/

/-- A zone record with damaged content. A record already suspect leaves its place in the tree at once where R14 says so
of the parent that it now stores (log entry 37). -/
def damagedZone (zs : Table ZoneRec) (k : Nat) (c : ZoneCfg) (r : ZoneRec) : ZoneRec :=
  { r with cfg := c, checkOk := r.suspect, orphan := r.orphan || (r.suspect && orphaned zs k c.parent) }

/-- What the environment has done to one stored item: its content is replaced and its check value no longer agrees. A
record already suspect keeps its mark and is tested no more (R180, R181). -/
def damageOne (s : State) (d : Damage) : State :=
  match d with
  | .person k c =>
    match s.person? k with | none => s | some r => s.putPerson k { r with cfg := c, checkOk := r.suspect }
  | .grant k c =>
    match s.grant? k with | none => s | some r => s.putGrant k { r with cfg := c, checkOk := r.suspect }
  | .zone k c => s.changeZone k (damagedZone s.occ.zones k c)
  | .door k c => s.changeDoor k (fun r => { r with cfg := c, checkOk := r.suspect })
  | .cls k c => s.putClass k { s.classRec k with cfg := c, checkOk := (s.classRec k).suspect }
  | .occupancy k x => s.changeOcc k (fun r => { x with suspect := r.suspect, checkOk := r.suspect })
  | .agent k c => s.changeAgent k (fun r => { r with cfg := c, checkOk := r.suspect })
  | .logic k c => s.putLogic k { s.logicRec k with cfg := c, checkOk := (s.logicRec k).suspect }
  | .route k c =>
    s.setAlm { s.alm with
      routes := s.alm.routes.setIfInBounds k { s.alm.routeRec k with cfg := c, checkOk := (s.alm.routeRec k).suspect } }
  | .routeLimit n => s.setAlm { s.alm with limit := n, limitOk := s.alm.limitSuspect }
  | .alarm k => s.setAlm { s.alm with recs := s.alm.recs.change k (fun r => { r with checkOk := false }) }
  | .station k c => s.changeStation k (fun r => { r with cfg := c, checkOk := r.suspect })
  | .calendar => s.setRet { s.ret with calendarOk := s.ret.calendar.isNone }
  | .classMask => s.setAlm { s.alm with maskOk := false }
  | .holdSet c => s.setAlm { s.alm with holdsBad := s.alm.holdsBad ||| (1#4 <<< c) }
  | .marker => s.setRet { s.ret with marker := false }
  | .markerCheck => s.setRet { s.ret with markerCheck := false }

/-- All the damage of a command, in the order given. -/
def applyDamages (s : State) (ds : List Damage) : State := ds.foldl (fun s d => s.damageOne d) s

/-- Every stored item but the person and grant records agrees with its check value. Those two tables are tested record by
record as each is read (`testPerson`, `testGrant`). -/
def intact (s : State) : Bool :=
  s.occ.zones.all (fun p => p.2.checkOk) && s.door.doors.all (fun p => p.2.checkOk) &&
  eight.all (fun k => (s.classRec k).checkOk) && s.occ.recs.all (fun p => p.2.checkOk) &&
  eight.all (fun k => (s.agent k).checkOk) && eight.all (fun k => (s.logicRec k).checkOk) &&
  (List.range 32).all (fun k => (s.alm.routeRec k).checkOk) && s.alm.limitOk && s.alm.recs.all (fun p => p.2.checkOk) &&
  s.link.stations.all (fun p => p.2.checkOk) && s.ret.calendarOk && s.alm.maskOk && s.alm.holdsBad = 0#4

/-! ## A failed check: the marks (R181) -/

/-- A zone record is tested: one that fails is suspect, and leaves its place in the tree where R14 says so. -/
def markZone (s : State) (k : Nat) : State :=
  s.changeZone k (fun r =>
    if r.checkOk then r
    else { r with suspect := true, checkOk := true, orphan := orphaned s.occ.zones k r.cfg.parent })

/-- The zone records that fail, ascending. -/
def markZones (s : State) : State := s.occ.zones.keys.foldl (fun s k => s.markZone k) s

/-- A door record that fails is suspect (R41). -/
def testedDoor (r : DoorRec) : DoorRec := if r.checkOk then r else { r with suspect := true, checkOk := true }
/-- A class record that fails is suspect (R18). -/
def testedClass (r : ClassRec) : ClassRec := if r.checkOk then r else { r with suspect := true, checkOk := true }
/-- An occupancy record that fails is suspect (R104). -/
def testedOcc (r : OccRec) : OccRec := if r.checkOk then r else { r with suspect := true, checkOk := true }
/-- An agent's configuration record that fails is suspect (R132). -/
def testedAgent (r : AgentRec) : AgentRec := if r.checkOk then r else { r with suspect := true, checkOk := true }
/-- A logic table that fails is suspect (R115). -/
def testedLogic (r : LogicRec) : LogicRec := if r.checkOk then r else { r with suspect := true, checkOk := true }
/-- A route entry that fails is suspect (R153). -/
def testedRoute (r : RouteRec) : RouteRec := if r.checkOk then r else { r with suspect := true, checkOk := true }
/-- A station record that fails is suspect (R166). -/
def testedStation (r : StationRec) : StationRec := if r.checkOk then r else { r with suspect := true, checkOk := true }

/-- The alarm records, the class mask and the hold sets that fail: a record is discarded or rewritten, the mask and a hold
set are emptied (R153). -/
def testedRecords (u : AlarmUnit) (now : Nat) : AlarmUnit :=
  let v := (u.recs.filter (fun p => !p.2.checkOk)).foldl (fun v p => v.fail now p.1) u
  { v with
    mask := if u.maskOk then u.mask else 0#4
    maskOk := true
    holds := v.holds.filter (fun h => !u.holdsBad.getLsbD h.1)
    holdsBad := 0#4 }

/-- A route limit that fails is suspect (R153). -/
def testedLimit (u : AlarmUnit) : AlarmUnit := { u with limitSuspect := u.limitSuspect || !u.limitOk, limitOk := true }

/-- The Alarm Unit's items that fail, the route entries among them, which are suspect (R153). -/
def testedAlarms (u : AlarmUnit) (now : Nat) : AlarmUnit :=
  { testedLimit (testedRecords u now) with routes := mapVec testedRoute u.routes }

/-- Every item that fails its check value takes its mark, before the effects of any (log entry 5). -/
def markFailed (s : State) : State :=
  let s1 := (s.setAlm (testedAlarms s.alm s.now)).markZones
  let s2 := s1.setDoor { doors := s1.door.doors.map (fun p => (p.1, testedDoor p.2))
                         classes := mapVec testedClass s1.door.classes }
  let s3 := s2.setOcc { s2.occ with recs := s2.occ.recs.map (fun p => (p.1, testedOcc p.2)) }
  let s4 := s3.setRel { agents := mapVec testedAgent s3.rel.agents, logic := mapVec testedLogic s3.rel.logic }
  let s5 := s4.setLink { s4.link with stations := s4.link.stations.map (fun p => (p.1, testedStation p.2)) }
  s5.setRet { s5.ret with calendar := if s5.ret.calendarOk then s5.ret.calendar else none, calendarOk := true }

/-! ## A failed check: the effects (R181) -/

/-- RECORD_SUSPECT is raised for records of one table, in the order given. -/
def tellTable (s : State) (t : Tbl) (ks : List Nat) : State := ks.foldl (fun s k => s.raiseSuspect t k) s

/-- Every configured zone is marked unverified (R104). -/
def markAllUnverified (s : State) : State := s.occ.zones.keys.foldl (fun s z => s.markUnverified z) s

/-- The Occupancy Unit is told of a failed record: its stored zone, or every zone for an unplaced record, is marked
unverified (R104). -/
def tellOcc (s : State) (p : Nat × OccRec) : State :=
  let s1 := s.raiseSuspect .occupancy p.1
  if (s.zone? p.2.zone).isSome then s1.markUnverified p.2.zone else s1.markAllUnverified

/-- Raises CLOCK_UNSET (R179 to R181). -/
def raiseClockUnset (s : State) : State := s.raise .clockUnset (.zone 0) none none

/-- The occupancy records whose check value fails, by slot. -/
def failedOccs (s : State) : Table OccRec := s.occ.recs.filter (fun p => !p.2.checkOk)

/-- The owners are told of what failed in `before`, table by table in the sweep's order (R181): ZONE (R14), DOOR (R41),
CLASS (R18), OCCUPANCY (R104), AGENT (R132), LOGIC (R115), ROUTE with the route limit (R153), STATION with the serving
that ends or begins (R157, R166), and the calendar (R5). The events that R157 lists do not name a door or agent found
suspect with another station address in its damaged content: the model ends or begins the serving there as well (log entry
84, DESIGN CHOICE). -/
def tellFailed (s before : State) : State :=
  let s1 := s.tellTable .zone ((before.occ.zones.filter (fun p => !p.2.checkOk)).map (·.1))
  let s2 := s1.tellTable .door ((before.door.doors.filter (fun p => !p.2.checkOk)).map (·.1))
  let s3 := s2.tellTable .cls (eight.filter (fun k => !(before.classRec k).checkOk))
  let s4 := before.failedOccs.foldl (fun s p => s.tellOcc p) s3
  let s5 := s4.tellTable .agent (eight.filter (fun k => !(before.agent k).checkOk))
  let s6 := s5.tellTable .logic (eight.filter (fun k => !(before.logicRec k).checkOk))
  let s7 := s6.tellTable .route ((List.range 32).filter (fun k => !(before.alm.routeRec k).checkOk))
  let s8 := if before.alm.limitOk then s7 else s7.raiseSuspect .route 32
  let s9 := (s8.tellTable .station ((before.link.stations.filter (fun p => !p.2.checkOk)).map (·.1))).syncServing
  if before.ret.calendarOk then s9 else s9.raiseClockUnset.evaluateAllHours

/-- The tables are read (R181): an item that fails is found, and its effects follow, with the entry states of a coverage
that changed (R109, R132), the Release Unit's inputs and deadlines (R112, R118), and the lanes, which a station that is
treated as SILENT leaves (R163, R166). Every command that computes with the records begins so (log entry 5). -/
def readTables (s : State) : State :=
  if s.intact then s
  else ((((s.markFailed).tellFailed s).syncEntries.conclude).recomputeFor
    (s.failedOccs.map (fun p => p.2.zone))).finish

/-! ## The check sweep (R181) -/

/-- Keys under one rank of the sweep's order. -/
def ranked (rank : Nat) (ks : List Nat) : List (Nat × Nat) := ks.map (fun k => (rank, k))

/-- The items that the sweep visits, in its order: stored records that are not suspect, then the calendar, the class
mask and the hold sets (R181). -/
def sweepItems (s : State) : List (Nat × Nat) :=
  ranked 0 ((s.adm.persons.filter (fun p => !p.2.suspect)).map (·.1)) ++
  ranked 1 ((s.adm.grants.filter (fun p => !p.2.suspect)).map (·.1)) ++
  ranked 2 ((s.occ.zones.filter (fun p => !p.2.suspect)).map (·.1)) ++
  ranked 3 ((s.door.doors.filter (fun p => !p.2.suspect)).map (·.1)) ++
  ranked 4 (eight.filter (fun k => !(s.classRec k).suspect)) ++
  ranked 5 ((s.occ.recs.filter (fun p => !p.2.suspect)).map (·.1)) ++
  ranked 6 (eight.filter (fun k => !(s.agent k).suspect)) ++
  ranked 7 (eight.filter (fun k => !(s.logicRec k).suspect)) ++
  ranked 8 ((List.range 32).filter (fun k => !(s.alm.routeRec k).suspect)) ++
  ranked 8 (if s.alm.limitSuspect then [] else [32]) ++
  ranked 9 s.alm.recs.keys ++
  ranked 10 ((s.link.stations.filter (fun p => !p.2.suspect)).map (·.1)) ++
  [(11, 0), (12, 0), (13, 0), (13, 1), (13, 2), (13, 3)]

/-- An item stands at or behind the sweep's position. -/
def atOrAfter (pos item : Nat × Nat) : Bool := pos.1 < item.1 || (pos.1 = item.1 && pos.2 ≤ item.2)

/-- The item that the sweep visits next, wrapping to the first after the last (R181). -/
def sweepNext (s : State) : Option (Nat × Nat) :=
  match s.sweepItems.find? (fun i => atOrAfter s.ret.sweep i) with
  | some i => some i
  | none => s.sweepItems.head?

/-- The item of the sweep's order that stands at a rank and key fails its check value (R181). -/
def itemFails (s : State) (i : Nat × Nat) : Bool :=
  match i.1 with
  | 0 => match s.person? i.2 with | none => false | some r => !r.checkOk
  | 1 => match s.grant? i.2 with | none => false | some r => !r.checkOk
  | 2 => match s.zone? i.2 with | none => false | some r => !r.checkOk
  | 3 => match s.door? i.2 with | none => false | some r => !r.checkOk
  | 4 => !(s.classRec i.2).checkOk
  | 5 => match s.occ? i.2 with | none => false | some r => !r.checkOk
  | 6 => !(s.agent i.2).checkOk
  | 7 => !(s.logicRec i.2).checkOk
  | 8 => if i.2 = 32 then !s.alm.limitOk else !(s.alm.routeRec i.2).checkOk
  | 9 => match s.alm.recs.find i.2 with | none => false | some r => !r.checkOk
  | 10 => match s.station? i.2 with | none => false | some r => !r.checkOk
  | 11 => !s.ret.calendarOk
  | 12 => !s.alm.maskOk
  | 13 => s.alm.holdsBad.getLsbD i.2
  | _ => false

/-- A route entry, or under key 32 the route limit, fails its check (R153). -/
def routeFailed (u : AlarmUnit) (k : Nat) : AlarmUnit :=
  if k = 32 then { u with limitSuspect := true, limitOk := true }
  else { u with routes := u.routes.setIfInBounds k (testedRoute (u.routeRec k)) }

/-- The raise of a kind reads its route entry, where its number is below the route limit in force (R137). -/
def readRoute (u : AlarmUnit) (k : Kind) : AlarmUnit :=
  if u.beyondLimit k then u
  else { u with routes := u.routes.setIfInBounds (kindNum k) (testedRoute (u.routeRec (kindNum k))) }

/-- The Alarm Unit as a change of its records finds it: the records, with the class mask and the hold sets by which the
lines are driven, are read, and so tested (R138, R147, R181). -/
def readAlarms (s : State) : State := s.setAlm (testedRecords s.alm s.now)

/-- What a raise of RECORD_SUSPECT reads, and so tests, before it is made (R137, R138, R181): the alarm records, the route
limit and the kind's route entry. A limit or an entry that fails is suspect, and RECORD_SUSPECT is raised for it (R153). -/
def readForRaise (s : State) : State :=
  let u := testedLimit s.readAlarms.alm
  let s1 := s.setAlm (readRoute u .recordSuspect)
  let s2 := if s.alm.limitOk then s1 else s1.raiseSuspect .route 32
  if u.beyondLimit .recordSuspect || (s.alm.routeRec (kindNum .recordSuspect)).checkOk then s2
  else s2.raiseSuspect .route (kindNum .recordSuspect)

/-- The zone records are read, and so tested, as the place of a zone in the tree is decided by them (R14). Each that fails
is suspect, and RECORD_SUSPECT is raised for it, ascending. -/
def readZones (s : State) : State :=
  s.markZones.tellTable .zone ((s.occ.zones.filter (fun p => !p.2.checkOk)).map (·.1))

/-- What follows the failure of the one item that the sweep visits (R181): it takes its mark and RECORD_SUSPECT is raised,
or it is discarded or emptied (R153), and no other item is tested but what the raise or the change of the Alarm Unit reads,
and the zone records that the place of a failed zone is decided by (R14).
At an occupancy record, a station and the calendar the owners act at once, on a zone, on the object served and on every
zone (R104, R157, R181), and so they read the tables (log entry 5). -/
def itemFailed (s : State) (i : Nat × Nat) : State :=
  match i.1 with
  | 0 => s.readForRaise.testPerson i.2
  | 1 => s.readForRaise.testGrant i.2
  | 2 => s.readForRaise.readZones
  | 3 => (s.readForRaise.changeDoor i.2 testedDoor).raiseSuspect .door i.2
  | 4 => (s.readForRaise.putClass i.2 (testedClass (s.classRec i.2))).raiseSuspect .cls i.2
  | 6 => (s.readForRaise.changeAgent i.2 testedAgent).raiseSuspect .agent i.2
  | 7 => (s.readForRaise.putLogic i.2 (testedLogic (s.logicRec i.2))).raiseSuspect .logic i.2
  | 8 => ((s.setAlm (routeFailed s.alm i.2)).readForRaise).raiseSuspect .route i.2
  | 9 | 12 | 13 => s.readAlarms
  | _ => s.readTables

/-- The end of a failed visit: serving (R157), entry states (R109) and the end of every event. The blocks read the tables
for it, so that while another item fails unfound it is left to the reading that finds that item (log entry 5). The serving
follows the damaged station address of a door or agent found suspect here (log entry 84, DESIGN CHOICE). -/
def visitEnds (s : State) : State := if s.intact then s.syncServing.syncEntries.finish else s

/-- The check sweep visits its next item and moves on (R181). An item that agrees has no effect. -/
def sweepStep (s : State) : State :=
  match s.sweepNext with
  | none => s
  | some i =>
    let s1 := s.setRet { s.ret with sweep := (i.1, i.2 + 1) }
    if s.itemFails i then (s1.itemFailed i).visitEnds else s1

/-! ## The full check of a warm restart (R180 step 2) -/

/-- Every stored record of every table and the calendar are tested, before the blocks take up their live state. -/
def fullCheck (s : State) : State :=
  let s1 := s.markFailed.testPersons s.adm.persons.keys
  (s.adm.grants.keys.foldl (fun s k => s.testGrant k) s1).tellFailed s

/-- Records marked suspect in every table (R176). -/
def suspectCount (s : State) : Nat :=
  (s.adm.persons.filter (fun p => p.2.suspect)).length + (s.adm.grants.filter (fun p => p.2.suspect)).length +
  (s.occ.zones.filter (fun p => p.2.suspect)).length + (s.door.doors.filter (fun p => p.2.suspect)).length +
  (eight.filter (fun k => (s.classRec k).suspect)).length + (s.occ.recs.filter (fun p => p.2.suspect)).length +
  (eight.filter (fun k => (s.agent k).suspect)).length + (eight.filter (fun k => (s.logicRec k).suspect)).length +
  ((List.range 32).filter (fun k => (s.alm.routeRec k).suspect)).length + (if s.alm.limitSuspect then 1 else 0) +
  (s.link.stations.filter (fun p => p.2.suspect)).length

end State
end Sys2Proof.Machine
end

