-- ==== Sys2Proof/Machine/Images.lean ====
section
/-! DEFINITION. The record images of R185, field by field in ascending id, and the answers that an owner gives to the
Host Port. -/

namespace Sys2Proof.Machine

/-- What an owner answers to a request (R169, R171): a status, fields, and whether a value was clamped. -/
structure Answer where
  status  : Status
  fields  : List Field := []
  clamped : Bool := false
  deriving DecidableEq, Repr

/-- A refusal with no cause (R173). -/
def refusedWith (c : Status) : Answer := { status := c }
/-- A refusal with the person number that caused it, under id 255 (R103, R184). -/
def refusedFor (c : Status) (p : Nat) : Answer := { status := c, fields := [fldN 255 2 p] }
/-- OK with fields. -/
def okWith (fs : List Field) : Answer := { status := .ok, fields := fs }
/-- OK with the key under id 0 (R171, R184). -/
def okKey (w k : Nat) : Answer := okWith [fldN 0 w k]
/-- A record that was read: OK, or SUSPECT with its fields as stored (R174). -/
def imageOf (suspect : Bool) (fs : List Field) : Answer := { status := if suspect then .suspect else .ok, fields := fs }

/-- The person image (R44, R185). -/
def personImage (s : State) (k : Nat) (r : PersonRec) : List Field :=
  [fldN 1 2 k, fldN 2 4 r.cfg.credential, fldN 3 1 r.cfg.clearance,
   fldN 4 1 (boolCode r.cfg.assisted + 2 * boolCode r.cfg.loneWork), fldB 5 r.cfg.suspended,
   fldN 16 1 (s.presentZone k), fldN 17 2 (s.grantList k).length]

/-- The grant image (R53, R185). -/
def grantImage (k : Nat) (r : GrantRec) : List Field :=
  [fldN 1 2 k, fldN 2 2 r.cfg.person, fld 3 (r.cfg.zones.map (BitVec.ofNat 8)), fldN 4 2 r.cfg.wStart,
   fldN 5 2 r.cfg.wEnd, fldN 6 2 r.cfg.fromDay, fldO 7 2 r.cfg.untilDay, fldO 8 2 r.cfg.ceiling, fldO 9 2 r.cfg.uses]

/-- The zone image (R7, R185). -/
def zoneImage (s : State) (k : Nat) (r : ZoneRec) : List Field :=
  [fldN 1 1 k, fldN 2 1 r.cfg.parent, fldN 3 1 r.cfg.clearance, fldN 4 1 r.cfg.capacity, fldN 5 1 r.cfg.walk,
   fldO 6 1 r.cfg.egressDoor, fld 7 (r.cfg.windows.map (fun w => toBE 2 w.1 ++ toBE 2 w.2)).flatten,
   fldN 8 1 (overrideCode r.cfg.override), fldN 9 1 (pairRuleCode r.cfg.pairRule), fldN 10 1 r.cfg.pairWindow,
   fldN 11 2 r.cfg.pairGrace, fldN 12 1 r.cfg.checkin, fldN 13 1 r.cfg.afterGrace,
   fldN 16 1 (hoursCode r.hours), fldN 17 1 (entryCode r.entry), fldN 18 2 (s.occupants k),
   fldN 19 1 (s.reservations k), fldB 20 r.verified, fldN 21 1 (freezeCode r.freeze)]

/-- A pending passage in 11 bytes (R185). The mode of an EXIT passage is shown as NORMAL (log entry 75, DESIGN CHOICE). -/
def passageBytes (x : Passage) : List Byte :=
  toBE 1 (dirCode x.dir) ++ toBE 2 (x.person.getD 0) ++ toBE 2 (x.grant.getD 0) ++ toBE 1 (modeCode x.mode) ++
    seconds (x.arrival / 10) ++ toBE 1 (x.arrival % 10)

/-- A door's last decision in 10 bytes (R185). The time of a decision NONE is free (log entry 7). -/
def decisionBytes (d : Nat) (x : Decision) : List Byte :=
  toBE 1 (outcomeCode x.outcome) ++ toBE 1 (match x.code with | none => 0 | some c => refusalCode c) ++
    toBE 2 (x.person.getD 0) ++ toBE 2 (x.grant.getD 0) ++
    (match x.time with | some t => seconds t | none => toBE 4 (Config.freeDecisionTime d).toNat)

/-- The right holder of a door: NONE, THIS, PARTNER (R15, R185). -/
def rightCode (s : State) (k : Nat) (r : DoorRec) : Nat :=
  if r.right then 1
  else match (s.partnerOf k).bind s.door? with | none => 0 | some q => if q.right then 2 else 0

/-- The door image (R15, R185). Whether a pair wait is present is shown as 0 or 1 (log entry 9, DESIGN CHOICE). -/
def doorImage (s : State) (k : Nat) (r : DoorRec) : List Field :=
  [fldN 1 1 k, fldN 2 1 r.cfg.inner, fldN 3 1 r.cfg.cls, fldO 4 1 r.cfg.partner, fldN 5 1 r.cfg.station,
   fldB 16 r.lockout, fldN 17 1 (doorCode r.state), fldN 18 1 (rightCode s k r),
   fld 19 (match r.cycle with | none => [] | some c => (c.passages.map passageBytes).flatten),
   fldB 20 r.pairWait.isSome, fld 21 (decisionBytes k r.decision)]

/-- The class image (R18, R185). -/
def classImage (k : Nat) (r : ClassRec) : List Field :=
  [fldN 1 1 k, fldN 2 1 r.cfg.lead, fldN 3 2 r.cfg.strike, fldN 4 1 r.cfg.relock, fldN 5 2 r.cfg.heldOpen,
   fldN 6 1 r.cfg.limit, fldN 7 1 r.cfg.traverse]

/-- The occupancy image (R99, R185). -/
def occImage (k : Nat) (r : OccRec) : List Field :=
  [fldN 1 1 k, fldN 2 2 r.person, fldN 3 1 r.zone, fldT 4 r.dwell, fldT 16 (some r.entered),
   fldT 17 (some r.zoneEntered), fldN 18 1 (basisCode r.basis), fldO 19 2 r.grant, fldT 20 r.checkin,
   fldT 21 r.pairGrace, fldB 22 r.duress,
   fldN 23 1 (boolCode r.overdue + 2 * boolCode r.missing + 4 * boolCode r.alone)]

/-- The agent image (R108, R185). -/
def agentImage (k : Nat) (r : AgentRec) : List Field :=
  [fldN 1 1 k, fldO 2 1 r.cfg.top, fldO 3 1 r.cfg.station, fldN 4 1 r.cfg.db, fldN 5 1 r.cfg.margin,
   fldN 6 2 r.cfg.dmax, fldN 7 1 r.cfg.confirm, fldN 8 1 r.cfg.soak, fldN 9 2 r.cfg.ch1.floor, fldN 10 2 r.cfg.ch1.alert,
   fldN 11 2 r.cfg.ch1.fire, fldN 12 1 r.cfg.ch1.hyst, fldN 13 2 r.cfg.ch2.floor, fldN 14 2 r.cfg.ch2.alert,
   fldN 15 2 r.cfg.ch2.fire, fldN 31 1 r.cfg.ch2.hyst, fldN 32 1 (agentCode r.state), fldB 33 r.isolated, fldT 34 r.t0,
   fldT 35 r.deadline, fldT 36 r.bound, fldN 37 1 (kindOfCountdownCode r.kind), fldB 38 r.echoed, fldT 39 r.confirmBy,
   fldT 40 r.dischargeTime, fldB 41 r.spentMark, fldN 42 4 r.cw.toNat, fldB 43 r.alertOut, fldB 44 r.releaseOut,
   fldN 45 2 (State.maxDelay r.cfg)]

/-- A logic term in four bytes (R185). -/
def termBytes (t : Term) : List Byte := toBE 1 t.target ++ toBE 1 (opCode t.op) ++ toBE 1 t.a ++ toBE 1 t.b

/-- The logic image (R113, R185). -/
def logicImage (k : Nat) (r : LogicRec) : List Field :=
  [fldN 1 1 k, fld 2 (r.cfg.terms.map termBytes).flatten, fldN 3 1 r.cfg.alertSel, fldN 4 1 r.cfg.releaseSel]

/-- The image of a route entry (R136, R185). -/
def routeImage (k : Nat) (r : RouteRec) : List Field :=
  [fldN 1 1 k, fldN 2 1 r.cfg.cls, fldN 3 1 (deliveryCode r.cfg.delivery), fldN 4 1 (sounderCode r.cfg.sounder)]

/-- The image of the route limit, under key 32 (R137, R185). -/
def limitImage (u : AlarmUnit) : List Field := [fldN 1 1 32, fldN 5 1 u.limit]

/-- An alarm subject in four bytes: its kind, a table code, and an id (R185). -/
def subjectBytes : Subject → List Byte
  | .person n => toBE 1 0 ++ toBE 1 0 ++ toBE 2 n
  | .door n => toBE 1 1 ++ toBE 1 0 ++ toBE 2 n
  | .zone n => toBE 1 2 ++ toBE 1 0 ++ toBE 2 n
  | .agent n => toBE 1 3 ++ toBE 1 0 ++ toBE 2 n
  | .station n => toBE 1 4 ++ toBE 1 0 ++ toBE 2 n
  | .record t n => toBE 1 5 ++ toBE 1 (tblCode t) ++ toBE 2 n

/-- The alarm image (R135, R185). An overflow record has kind 255 and no subject. -/
def alarmImage (k : Nat) (r : AlarmRec) : List Field :=
  [fldN 1 1 k, fldN 2 1 (match r.kind with | none => 255 | some c => kindNum c),
   fld 3 (match r.subject with | none => [] | some j => subjectBytes j), fldO 4 1 r.zone, fldO 5 2 r.person,
   fldT 6 (some r.raisedAt), fldT 7 (some r.lastRaised), fldN 8 1 r.count, fldN 9 1 (alarmCode r.state), fldB 10 r.ended,
   fldB 11 r.latching, fldN 12 1 r.cls, fldN 13 1 (deliveryCode r.delivery), fldN 14 1 (sounderCode r.sounder)]

/-- The station image (R155, R185). Whether the station serves is shown as 0 or 1 (log entry 9, DESIGN CHOICE). -/
def stationImage (s : State) (k : Nat) (r : StationRec) : List Field :=
  [fldN 1 1 k, fldN 2 1 (stationCode r.cfg.kind), fldN 3 1 r.cfg.bound, fldN 16 1 (linkCode r.link), fldN 17 1 r.missed,
   fldO 18 1 r.lastReport, fldN 19 1 r.token, fld 20 (outputImage r.desired),
   fld 21 (match r.sent with | none => [] | some x => outputImage x.1), fldO 22 1 r.echo, fldB 23 (s.serves k r)]

/-! ## Keys, cursors and field lists -/

/-- The key of a request in `lo..hi` at its width; an absent or ill-formed key is none (R171, R184). -/
def keyIn (w lo hi : Nat) (r : Req) : Option Nat := numIn w lo hi r.key

/-- The cursor of a LIST (R172): absent, or a key in range; none is a cursor out of its range. -/
def cursorIn (w lo hi : Nat) (r : Req) : Option (Option Nat) := optIn w lo hi r.key

/-- A LOOKUP or RETIRE of a key that carries no field. Fields are BAD_VALUE before the record is looked at (log entry 74,
DESIGN CHOICE). -/
def keyAlone (w lo hi : Nat) (r : Req) : Option Nat := if r.fields = [] then keyIn w lo hi r else none

/-- A LIST with no filter. -/
def cursorAlone (w lo hi : Nat) (r : Req) : Option (Option Nat) := if r.fields = [] then cursorIn w lo hi r else none

end Sys2Proof.Machine
end

