-- ==== Sys2Proof/Machine/AgentTable.lean ====
section
/-! DEFINITION. Record requests on the AGENT and LOGIC tables (06_suppression_release.md, R106 to R108, R113, R115,
R132). -/

namespace Sys2Proof.Machine
namespace State

/-! ## AGENT -/

/-- One configuration field of an agent (R106, R185). -/
def agentField (c : AgentCfg) (i : Nat) (v : List Byte) : Option AgentCfg :=
  match i with
  | 2 => (optIn 1 1 31 v).map (fun o => { c with top := o })
  | 3 => (optIn 1 1 96 v).map (fun o => { c with station := o })
  | 4 => (numIn 1 10 120 v).map (fun n => { c with db := n })
  | 5 => (numIn 1 0 60 v).map (fun n => { c with margin := n })
  | 6 => (numIn 2 30 600 v).map (fun n => { c with dmax := n })
  | 7 => (numIn 1 10 60 v).map (fun n => { c with confirm := n })
  | 8 => (numIn 1 10 240 v).map (fun n => { c with soak := n })
  | 9 => (numIn 2 0 1022 v).map (fun n => { c with ch1 := { c.ch1 with floor := n } })
  | 10 => (numIn 2 0 1023 v).map (fun n => { c with ch1 := { c.ch1 with alert := n } })
  | 11 => (numIn 2 0 1023 v).map (fun n => { c with ch1 := { c.ch1 with fire := n } })
  | 12 => (numIn 1 0 63 v).map (fun n => { c with ch1 := { c.ch1 with hyst := n } })
  | 13 => (numIn 2 0 1022 v).map (fun n => { c with ch2 := { c.ch2 with floor := n } })
  | 14 => (numIn 2 0 1023 v).map (fun n => { c with ch2 := { c.ch2 with alert := n } })
  | 15 => (numIn 2 0 1023 v).map (fun n => { c with ch2 := { c.ch2 with fire := n } })
  | 31 => (numIn 1 0 63 v).map (fun n => { c with ch2 := { c.ch2 with hyst := n } })
  | _ => none

/-- Every configuration field id of an agent. -/
def agentIds : List Nat := [2, 3, 4, 5, 6, 7, 8, 9, 10, 11, 12, 13, 14, 15, 31]

/-- The states in which an agent's configuration and logic may not be amended (R108, R113). -/
def releaseUnderWay : AgentState → Bool
  | .countdown | .abortHeld | .occupiedHold | .discharge | .discharged => true
  | .unconfigured | .normal | .alert | .spent | .fault => false

/-- The top zone `t` would make two coverages overlap (R108 test 5, R13). The stored top zone of a suspect agent that covers
nothing (R132) counts here as any other (log entry 57, DESIGN CHOICE). -/
def overlaps (s : State) (a t : Nat) : Bool :=
  eight.any (fun b => b != a &&
    match (s.agent b).cfg.top with | none => false | some u => s.isUnder t u || s.isUnder u t)

/-- Tests 3 to 5 of R108 on a top zone that the request gives. -/
def topRefusal (s : State) (a : Nat) (c : AgentCfg) : Option Status :=
  match c.top with
  | none => none
  | some t =>
    if c.station.isNone then some .badValue
    else
      match s.zone? t with
      | none => some .notFound
      | some z => if z.suspect then some .suspect else if s.overlaps a t then some .badValue else none

/-- The agent becomes UNCONFIGURED: its live fields take their Reset values and its alarms are withdrawn (R108). -/
def unconfigure (s : State) (a : Nat) : State :=
  (s.changeAgent a (fun r => { unconfiguredRec r with halted := false })).withdraw (.agent a)

/-- The agent enters NORMAL: its inputs are read, one evaluation is made, whose outputs act as the changes from FALSE
that they are (R114, R121, R122), and it is re-evaluated (R108). So it is at once where a rewrite of a suspect UNCONFIGURED
agent gives the top zone (log entry 72, DESIGN CHOICE). -/
def configure (s : State) (a : Nat) : State :=
  let s1 := (s.changeAgent a (fun r => { unconfiguredRec r with state := .normal, halted := false })).readInputs a
  ((s1.evaluate a).actOutputs a false false).reevaluate a

/-- What follows from the top zone of an AMEND that is taken (R108). "Present from absent" is decided by the state, and not
by the stored top zone, which damage may have changed while the agent was suspect: a rewritten agent that was configured
goes on in its state (log entry 52, DESIGN CHOICE). -/
def topChanged (s : State) (a : Nat) : State :=
  let r := s.agent a
  if r.cfg.top.isNone then (if r.state = .unconfigured then s else s.unconfigure a)
  else if r.state = .unconfigured then s.configure a
  else s

/-- An AMEND of an agent is stored (R108, R132). A rewritten agent's detector compare and logic evaluation resume at its
next report. The evaluation of an agent that is configured comes before the serving of a station given with the top zone
begins (log entry 63, DESIGN CHOICE). -/
def storeAgent (s : State) (a : Nat) (c : AgentCfg) : State :=
  let old := s.agent a
  let s1 := s.putAgent a { old with cfg := c, suspect := false, checkOk := true, halted := old.halted || old.suspect }
  let s2 := if old.suspect then s1.endSuspect .agent a else s1
  (s2.topChanged a).syncServing

/-- The answer of an agent. -/
def answerAgent (s : State) (k : Nat) : Answer := imageOf (s.agent k).suspect (agentImage k (s.agent k))

/-- LOOKUP of an agent (R108). -/
def lookupAgent (s : State) (r : Req) : State × Answer :=
  match keyAlone 1 0 7 r with
  | none => (s, refusedWith .badValue)
  | some k => (s, s.answerAgent k)

/-- The number after a cursor over a fixed table. -/
def nextIndex (c : Option Nat) : Nat := match c with | none => 0 | some n => n + 1

/-- LIST of agents (R108, R172). -/
def listAgent (s : State) (r : Req) : State × Answer :=
  match cursorAlone 1 0 7 r with
  | none => (s, refusedWith .badValue)
  | some c => if nextIndex c < 8 then (s, s.answerAgent (nextIndex c)) else (s, refusedWith .empty)

/-- AMEND of an agent (R108, R132). -/
def amendAgent (s : State) (r : Req) : State × Answer :=
  match keyIn 1 0 7 r with
  | none => (s, refusedWith .badValue)
  | some k =>
    let q := s.agent k
    if q.suspect && !carries r.fields agentIds then (s, s.answerAgent k)
    else
      match foldFields agentField q.cfg r.fields with
      | none => (s, refusedWith .badValue)
      | some c =>
        if !q.suspect && releaseUnderWay q.state then (s, refusedWith .wrongState)
        else
          match (if (ids r.fields).contains 2 then s.topRefusal k c else none) with
          | some e => (s, refusedWith e)
          | none => (s.storeAgent k c, okKey 1 k)

/-! ## LOGIC -/

/-- One term of a logic table in four bytes (R113). -/
def termIn (v : List Byte) : Option Term :=
  match v with
  | [t, o, a, b] =>
    match ops[o.toNat]? with
    | none => none
    | some op =>
      if 20 ≤ t.toNat ∧ t.toNat ≤ 31 ∧ a.toNat ≤ 31 ∧ b.toNat ≤ 31 then some ⟨t.toNat, op, a.toNat, b.toNat⟩ else none
  | _ => none

/-- A term list of at most twelve terms (R113). -/
def termList (v : List Byte) : Option (List Term) :=
  match items 4 Config.maxTerms v with
  | none => none
  | some l => allSome termIn l

/-- One configuration field of a logic table (R113, R185). -/
def logicField (c : LogicCfg) (i : Nat) (v : List Byte) : Option LogicCfg :=
  match i with
  | 2 => (termList v).map (fun l => { c with terms := l })
  | 3 => (numIn 1 0 31 v).map (fun n => { c with alertSel := n })
  | 4 => (numIn 1 0 31 v).map (fun n => { c with releaseSel := n })
  | _ => none

/-- A logic table is stored, and one evaluation follows, whose outputs act (R113). -/
def storeLogic (s : State) (a : Nat) (c : LogicCfg) (wasSuspect : Bool) : State :=
  let s1 := s.putLogic a { cfg := c }
  let s2 := if wasSuspect then s1.endSuspect .logic a else s1
  if s2.logicRuns a then (s2.evaluate a).actOutputs a (s.agent a).alertOut (s.agent a).releaseOut else s2

/-- The answer of a logic table. -/
def answerLogic (s : State) (k : Nat) : Answer := imageOf (s.logicRec k).suspect (logicImage k (s.logicRec k))

/-- LOOKUP of a logic table (R113). -/
def lookupLogic (s : State) (r : Req) : State × Answer :=
  match keyAlone 1 0 7 r with
  | none => (s, refusedWith .badValue)
  | some k => (s, s.answerLogic k)

/-- LIST of logic tables (R113, R172). -/
def listLogic (s : State) (r : Req) : State × Answer :=
  match cursorAlone 1 0 7 r with
  | none => (s, refusedWith .badValue)
  | some c => if nextIndex c < 8 then (s, s.answerLogic (nextIndex c)) else (s, refusedWith .empty)

/-- AMEND of a logic table (R113, R115). -/
def amendLogic (s : State) (r : Req) : State × Answer :=
  match keyIn 1 0 7 r with
  | none => (s, refusedWith .badValue)
  | some k =>
    let q := s.logicRec k
    if q.suspect && !carries r.fields [2, 3, 4] then (s, s.answerLogic k)
    else
      match foldFields logicField q.cfg r.fields with
      | none => (s, refusedWith .badValue)
      | some c =>
        if releaseUnderWay (s.agent k).state then (s, refusedWith .wrongState)
        else (s.storeLogic k c q.suspect, okKey 1 k)

end State
end Sys2Proof.Machine
end

