-- ==== Sys2Proof/Machine/AlarmTable.lean ====
section
/-! DEFINITION. Record requests on the ROUTE and ALARM tables, and the supervisor's requests on alarms
(07_staff_alarms.md, R136, R137, R142 to R147, R152, R153). -/

namespace Sys2Proof.Machine

/-- The status by which a retired alarm shows its state (R184). -/
def retiredState : Nat := 3

namespace State

/-! ## ROUTE -/

/-- One configuration field of a route entry (R136, R185). -/
def routeField (c : Route) (i : Nat) (v : List Byte) : Option Route :=
  match i with
  | 2 => (numIn 1 0 3 v).map (fun n => { c with cls := n })
  | 3 => (enumIn deliveries v).map (fun x => { c with delivery := x })
  | 4 => (enumIn routeSounders v).map (fun x => { c with sounder := x })
  | _ => none

/-- Entry 0 cannot be given a class other than 0 or the delivery LOCAL (R136). -/
def routeForbidden (k : Nat) (c : Route) (fs : List Field) : Bool :=
  k = 0 && (((ids fs).contains 2 && c.cls != 0) || ((ids fs).contains 3 && c.delivery = .localOnly))

/-- The answer of a key of the ROUTE table; key 32 is the route limit (R136, R137). -/
def answerRoute (s : State) (k : Nat) : Answer :=
  if k = 32 then imageOf s.alm.limitSuspect (limitImage s.alm)
  else imageOf (s.alm.routeRec k).suspect (routeImage k (s.alm.routeRec k))

/-- LOOKUP of a route entry or the route limit. -/
def lookupRoute (s : State) (r : Req) : State × Answer :=
  match keyAlone 1 0 32 r with
  | none => (s, refusedWith .badValue)
  | some k => (s, s.answerRoute k)

/-- LIST of the ROUTE table, keys 0..32 (R172). -/
def listRoute (s : State) (r : Req) : State × Answer :=
  match cursorAlone 1 0 32 r with
  | none => (s, refusedWith .badValue)
  | some none => (s, s.answerRoute 0)
  | some (some c) => if c < 32 then (s, s.answerRoute (c + 1)) else (s, refusedWith .empty)

/-- AMEND of the route limit, under key 32 (R137, R153). While it is suspect, an AMEND that does not carry the limit answers
SUSPECT, and one that does is tested by R137, which lets it carry the limit alone (R174). -/
def amendLimit (s : State) (r : Req) : State × Answer :=
  if s.alm.limitSuspect && !carries r.fields [5] then (s, s.answerRoute 32)
  else
    match r.fields with
    | [] => (s, okKey 1 32)
    | [f] =>
      match numIn 1 1 32 f.2 with
      | none => (s, refusedWith .badValue)
      | some n =>
        if f.1 = 5#8 then
          let s1 := s.setAlm { s.alm with limit := n, limitSuspect := false, limitOk := true }
          (if s.alm.limitSuspect then s1.endSuspect .route 32 else s1, okKey 1 32)
        else (s, refusedWith .badValue)
    | _ :: _ :: _ => (s, refusedWith .badValue)

/-- AMEND of a route entry (R136, R153). -/
def amendEntry (s : State) (k : Nat) (r : Req) : State × Answer :=
  let q := s.alm.routeRec k
  if q.suspect && !carries r.fields [2, 3, 4] then (s, s.answerRoute k)
  else
    match foldFields routeField q.cfg r.fields with
    | none => (s, refusedWith .badValue)
    | some c =>
      if routeForbidden k c r.fields then (s, refusedWith .badValue)
      else
        let s1 := s.setAlm { s.alm with routes := s.alm.routes.setIfInBounds k { cfg := c } }
        (if q.suspect then s1.endSuspect .route k else s1, okKey 1 k)

/-- AMEND of the ROUTE table. -/
def amendRoute (s : State) (r : Req) : State × Answer :=
  match keyIn 1 0 32 r with
  | none => (s, refusedWith .badValue)
  | some k => if k = 32 then s.amendLimit r else s.amendEntry k r

/-! ## ALARM -/

/-- The answer of an alarm number (R152). -/
def answerAlarm (s : State) (k : Nat) : Answer :=
  match s.alm.recs.find k with | none => refusedWith .notFound | some r => okWith (alarmImage k r)

/-- LOOKUP of an alarm record (R152). -/
def lookupAlarm (s : State) (r : Req) : State × Answer :=
  match keyAlone 1 0 63 r with
  | none => (s, refusedWith .badValue)
  | some k => (s, s.answerAlarm k)

/-- LIST of the open alarm records (R152, R172). -/
def listAlarm (s : State) (r : Req) : State × Answer :=
  match cursorAlone 1 0 63 r with
  | none => (s, refusedWith .badValue)
  | some c =>
    match s.alm.recs.after c with
    | none => (s, refusedWith .empty)
    | some (k, _) => (s, s.answerAlarm k)

/-! ## NEXT_NOTICE, ACKNOWLEDGE, RESTORE, SET_MASK -/

/-- A request that carries neither table, key nor field (R170). -/
def bare (r : Req) : Bool := r.table = 0#8 && r.key.isEmpty && r.fields.isEmpty

/-- The key of an operational request that carries no field; a table named is refused (R170), before the object is looked at
(log entry 74, DESIGN CHOICE). -/
def opKey (lo hi : Nat) (r : Req) : Option Nat := if r.table = 0#8 then keyAlone 1 lo hi r else none

/-- The record presented becomes NOTIFIED and joins its class's hold set if its delivery is NOTIFY_AND_MASK
(R146, R147). -/
def present (u : AlarmUnit) (n : Nat) (r : AlarmRec) : AlarmUnit :=
  { u with recs := u.recs.put n { r with state := .notified },
           holds := if r.delivery = .notifyAndMask && !u.holds.contains (r.cls, n) then u.holds ++ [(r.cls, n)]
                    else u.holds }

/-- NEXT_NOTICE (R147). -/
def nextNotice (s : State) (r : Req) : State × Answer :=
  if !bare r then (s, refusedWith .badValue)
  else
    match s.alm.nextRecord with
    | none => (s, refusedWith .empty)
    | some (n, a) => (s.setAlm (present s.alm n a), okWith (alarmImage n { a with state := .notified }))

/-- The answer with an alarm's resulting state, or RETIRED (R142, R143, R184). -/
def alarmStateAnswer (u : AlarmUnit) (n : Nat) : Answer :=
  okWith [fldN 9 1 (match u.recs.find n with | none => retiredState | some r => alarmCode r.state)]

/-- The record becomes ACKNOWLEDGED: its hold is released, and it is retired if its condition has ended (R143). -/
def acknowledged (u : AlarmUnit) (n : Nat) (r : AlarmRec) : AlarmUnit :=
  if r.ended then u.remove n
  else { u.unhold n with recs := u.recs.put n { r with state := .acknowledged } }

/-- The Door Controller is told of an acknowledged DOOR_HELD record (R143 step 2, R32). -/
def tellDoor (s : State) (r : AlarmRec) : State :=
  match r.kind, r.subject with
  | some .doorHeld, some (.door d) => s.heldAcknowledged d
  | _, _ => s

/-- ACKNOWLEDGE (R143). -/
def acknowledge (s : State) (r : Req) : State × Answer :=
  match opKey 0 63 r with
  | none => (s, refusedWith .badValue)
  | some n =>
    match s.alm.recs.find n with
    | none => (s, refusedWith .notFound)
    | some a =>
      if a.state = .acknowledged then (s, alarmStateAnswer s.alm n)
      else (((s.tellDoor a).setAlm (acknowledged s.alm n a)), alarmStateAnswer (acknowledged s.alm n a) n)

/-- RESTORE (R142). -/
def restore (s : State) (r : Req) : State × Answer :=
  match opKey 0 63 r with
  | none => (s, refusedWith .badValue)
  | some n =>
    match s.alm.recs.find n with
    | none => (s, refusedWith .notFound)
    | some a =>
      if !a.latching || a.kind.isNone then (s, refusedWith .wrongState)
      else if a.ended then (s, alarmStateAnswer s.alm n)
      else (s.setAlm (s.alm.endRecord n a), alarmStateAnswer (s.alm.endRecord n a) n)

/-- The one field of an operational request, under id 1 (R184). -/
def oneField (r : Req) : Option (List Byte) :=
  match r.fields with
  | [f] => if f.1 = 1#8 then some f.2 else none
  | [] => none
  | _ :: _ :: _ => none

/-- SET_MASK (R145): a set of classes, bit c for class c. -/
def setMask (s : State) (r : Req) : State × Answer :=
  if r.table = 0#8 ∧ r.key = [] then
    match (oneField r).bind (fun v => numIn 1 0 15 v) with
    | none => (s, refusedWith .badValue)
    | some n => (s.setAlm { s.alm with mask := BitVec.ofNat 4 n, maskOk := true }, okWith [fldN 1 1 n])
  else (s, refusedWith .badValue)

/-! ## Starts (R154) -/

/-- An alarm record after a warm restart: NOTIFIED returns to RAISED. -/
def restartedAlarm (r : AlarmRec) : AlarmRec := if r.state = .notified then { r with state := .raised } else r

/-- The Alarm Unit at a warm restart (R154 steps 1 to 3). -/
def restartAlarmUnit (s : State) : State :=
  s.setAlm { s.alm with recs := s.alm.recs.map (fun p => (p.1, restartedAlarm p.2)), mask := 0#4, holds := [] }

end State
end Sys2Proof.Machine
end

