-- ==== Sys2Proof/Machine/DoorTable.lean ====
section
/-! DEFINITION. Record requests on the DOOR and CLASS tables (02_doors_and_vestibules.md, R15 to R18, R41). -/

namespace Sys2Proof.Machine
namespace State

/-! ## DOOR -/

/-- One configuration field of a door (R15, R185). R16 names no refusal for an INSERT that also carries id 1, the door
number: the model answers BAD_VALUE (log entry 42, DESIGN CHOICE). -/
def doorField (c : DoorCfg) (i : Nat) (v : List Byte) : Option DoorCfg :=
  match i with
  | 2 => (numIn 1 1 31 v).map (fun n => { c with inner := n })
  | 3 => (numIn 1 0 7 v).map (fun n => { c with cls := n })
  | 4 => (optIn 1 0 47 v).map (fun o => { c with partner := o })
  | 5 => (numIn 1 1 96 v).map (fun n => { c with station := n })
  | _ => none

/-- The door is SECURED or UNKNOWN. -/
def atRest (r : DoorRec) : Bool := r.state = .secured || r.state = .unknown

/-- The door is SECURED or UNKNOWN with no cycle and no pair wait. -/
def idleDoor (r : DoorRec) : Bool := atRest r && r.cycle.isNone && r.pairWait.isNone

/-- The inner zones of two doors make a vestibule: one has a controlled parent zone, which is the other (R16). -/
def vestibule (s : State) (x y : Nat) : Bool :=
  (s.parentOf x = y && y != 0) || (s.parentOf y = x && x != 0)

/-- The pairing rule of R16 for a door `d` with inner zone `inner` and a partner `p`. A stored partner of `p` counts even
where it does not name `p` back (log entry 48, DESIGN CHOICE). -/
def pairRefusal (s : State) (d inner p : Nat) : Option Status :=
  match s.door? p with
  | none => some .notFound
  | some q =>
    if p = d then some .notFound
    else if q.cfg.partner.isSome && q.cfg.partner != some d then some .inUse
    else if !s.vestibule inner q.cfg.inner then some .badValue
    else if !idleDoor q then some .wrongState
    else none

/-- The inner zone of a door that R16 and R17 ask for: configured, then not suspect. -/
def innerRefusal (s : State) (z : Nat) : Option Status :=
  match s.zone? z with
  | none => some .notFound
  | some r => if r.suspect then some .suspect else none

/-- The door is a zone's egress door (R9). -/
def isEgress (s : State) (d : Nat) : Bool := s.occ.zones.any (fun p => p.2.cfg.egressDoor = some d)

/-- A change of a door's inner zone (R17). A stored partner that does not name the door back still makes the door one that
names a partner, which the spec leaves open (log entry 48, DESIGN CHOICE). -/
def moveDoorRefusal (s : State) (d : Nat) (old : DoorRec) (z : Nat) : Option Status :=
  match s.innerRefusal z with
  | some e => some e
  | none =>
    if s.isEgress d || old.cfg.partner.isSome then some .inUse
    else if !s.zoneHeld old.cfg.inner || !s.zoneHeld z then some .notHeld
    else if !atRest old then some .wrongState
    else none

/-- A door's present partner, if it has one, is SECURED or UNKNOWN with no cycle and no pair wait (R17). A stored partner
that does not name the door back is ignored (R41). -/
def partnerIdle (s : State) (d : Nat) : Bool := ((s.partnerOf d).bind s.door?).all idleDoor

/-- A change of a door's partner field (R17). -/
def partnerRefusal (s : State) (d : Nat) (old : DoorRec) (inner : Nat) (p : Option Nat) : Option Status :=
  let paired := match p with | none => none | some n => s.pairRefusal d inner n
  match paired with
  | some e => some e
  | none =>
    if old.cfg.partner.isSome && !(idleDoor old && s.partnerIdle d) then some .wrongState else none

/-- The tests of R17 on the fields that change, in the order of the rule's table: class, inner zone, partner. R17 gives
"the first failure" no order of its own (log entry 47, DESIGN CHOICE). A partner that is carried unchanged is not tested,
also at the rewrite of a suspect door whose stored partner does not name it back (R41; log entry 58, DESIGN CHOICE). -/
def doorRefusal (s : State) (d : Nat) (old : DoorRec) (c : DoorCfg) : Option Status :=
  if c.cls != old.cfg.cls && old.state != .secured then some .wrongState
  else
    let moved := if c.inner != old.cfg.inner then s.moveDoorRefusal d old c.inner else none
    match moved with
    | some e => some e
    | none => if c.partner != old.cfg.partner then s.partnerRefusal d old c.inner c.partner else none

/-- A door's partner field becomes `o`; a new pair's open right starts free (R16). -/
def setPartner (s : State) (d : Nat) (o : Option Nat) : State :=
  s.changeDoor d (fun r => { r with cfg := { r.cfg with partner := o }, right := false })

/-- The old partner of a door that changes its partner loses the pair (R17). -/
def dissolve (s : State) (d : Nat) (old : Option Nat) : State :=
  match old with
  | none => s
  | some n =>
    match s.door? n with
    | none => s
    | some q => if q.cfg.partner = some d then s.setPartner n none else s

/-- A door newly paired in RELEASING or RELEASED holds its pair's right, as R19 states for these states (log entry
25). -/
def rightOnPairing (r : DoorRec) (p : Option Nat) : Bool :=
  p.isSome && (r.state = .releasing || r.state = .released)

/-- The pair changes of a door whose partner field changes from `old` to `new` (R17). An INTERLOCK_BREACH still open for
either pair is left as it is, also where both doors of the new pair are SECURED: R30 ends it where a door enters SECURED
(log entry 53, DESIGN CHOICE). -/
def repair (s : State) (d : Nat) (old new : Option Nat) : State :=
  if new = old then s
  else
    let s1 := s.dissolve d old
    let s2 := match new with | none => s1 | some n => s1.setPartner n (some d)
    s2.changeDoor d (fun r => { r with right := rightOnPairing r new })

/-- A door's fields are stored with a new check value; its live state is kept (R17, R41). -/
def storeDoor (s : State) (d : Nat) (old : DoorRec) (c : DoorCfg) : State :=
  let s1 := s.putDoor d { old with cfg := c, suspect := false, checkOk := true }
  let s2 := s1.repair d old.cfg.partner c.partner
  (if old.suspect then s2.endSuspect .door d else s2).syncServing

/-- The answer of a door that was found. -/
def answerDoor (s : State) (k : Nat) : Answer :=
  match s.door? k with | none => refusedWith .notFound | some r => imageOf r.suspect (doorImage s k r)

/-- LOOKUP of a door (R15). -/
def lookupDoor (s : State) (r : Req) : State × Answer :=
  match keyAlone 1 0 47 r with
  | none => (s, refusedWith .badValue)
  | some k => (s, s.answerDoor k)

/-- LIST of doors (R15, R172). -/
def listDoor (s : State) (r : Req) : State × Answer :=
  match cursorAlone 1 0 47 r with
  | none => (s, refusedWith .badValue)
  | some c =>
    match s.door.doors.after c with
    | none => (s, refusedWith .empty)
    | some (k, _) => (s, s.answerDoor k)

/-- INSERT into an unconfigured slot: tests 4 to 7 of R16. -/
def makeDoor (s : State) (k : Nat) (c : DoorCfg) : State × Answer :=
  match s.innerRefusal c.inner with
  | some e => (s, refusedWith e)
  | none =>
    if !s.zoneHeld c.inner then (s, refusedWith .notHeld)
    else
      match (match c.partner with | none => none | some p => s.pairRefusal k c.inner p) with
      | some e => (s, refusedWith e)
      | none => (((s.putDoor k { cfg := c }).repair k none c.partner).syncServing, okKey 1 k)

/-- INSERT of a door (R16, R41). -/
def insertDoor (s : State) (r : Req) : State × Answer :=
  match keyIn 1 0 47 r with
  | none => (s, refusedWith .badValue)
  | some k =>
    let old := s.door? k
    if (match old with | none => false | some q => !q.suspect) then (s, refusedWith .duplicate)
    else
      match foldFields doorField { inner := 0, station := 0 } r.fields with
      | none => (s, refusedWith .badValue)
      | some c =>
        if !carries r.fields [2, 5] then (s, refusedWith .badValue)
        else
          match old with
          | none => s.makeDoor k c
          | some q =>
            match s.doorRefusal k q c with
            | some e => (s, refusedWith e)
            | none => (s.storeDoor k q c, okKey 1 k)

/-- AMEND of a door (R17, R41). A field out of its range is BAD_VALUE before the tests of R17's table (log entry 47, DESIGN
CHOICE). -/
def amendDoor (s : State) (r : Req) : State × Answer :=
  match keyIn 1 0 47 r with
  | none => (s, refusedWith .badValue)
  | some k =>
    match s.door? k with
    | none => (s, refusedWith .notFound)
    | some q =>
      if q.suspect && !carries r.fields [2, 3, 4, 5] then (s, s.answerDoor k)
      else
        match foldFields doorField q.cfg r.fields with
        | none => (s, refusedWith .badValue)
        | some c =>
          match s.doorRefusal k q c with
          | some e => (s, refusedWith e)
          | none => (s.storeDoor k q c, okKey 1 k)

/-- The removal of a door: its wait-list entries leave with no refusal shown (R17, R78). -/
def dropDoor (s : State) (k : Nat) (q : DoorRec) : State :=
  let s1 := s.setDoor { s.door with doors := s.door.doors.del k }
  let s2 := (s1.setAdm { s1.adm with waits := s1.adm.waits.filter (fun e => e.door != k) }).withdraw (.door k)
  (if q.suspect then s2.endSuspect .door k else s2)

/-- RETIRE of a door (R17). A door names a partner by its stored field, even where that door does not name it back (log
entry 48, DESIGN CHOICE). -/
def retireDoor (s : State) (r : Req) : State × Answer :=
  match keyAlone 1 0 47 r with
  | none => (s, refusedWith .badValue)
  | some k =>
    match s.door? k with
    | none => (s, refusedWith .notFound)
    | some q =>
      if q.cfg.partner.isSome || s.isEgress k ||
          s.link.stations.any (fun t => t.2.cfg.kind = .door && t.2.cfg.bound = k) then (s, refusedWith .inUse)
      else if !idleDoor q then (s, refusedWith .wrongState)
      else (s.dropDoor k q, okKey 1 k)

/-! ## CLASS -/

/-- A class being written, with whether a value was clamped (R18). -/
abbrev ClassDraft := ClassCfg × Bool

/-- A value stored as the nearer end of its range (R18, R173). -/
def clampTo (lo hi n : Nat) : Nat := max lo (min hi n)

/-- A number of `w` bytes clamped to its range, with whether it was changed. -/
def clampIn (w lo hi : Nat) (v : List Byte) : Option (Nat × Bool) :=
  (num w v).map (fun n => (clampTo lo hi n, clampTo lo hi n != n))

/-- One configuration field of a class (R18, R185). -/
def classField (x : ClassDraft) (i : Nat) (v : List Byte) : Option ClassDraft :=
  match i with
  | 2 => (clampIn 1 0 20 v).map (fun n => ({ x.1 with lead := n.1 }, x.2 || n.2))
  | 3 => (clampIn 2 10 300 v).map (fun n => ({ x.1 with strike := n.1 }, x.2 || n.2))
  | 4 => (clampIn 1 0 50 v).map (fun n => ({ x.1 with relock := n.1 }, x.2 || n.2))
  | 5 => (clampIn 2 5 600 v).map (fun n => ({ x.1 with heldOpen := n.1 }, x.2 || n.2))
  | 6 => (clampIn 1 5 15 v).map (fun n => ({ x.1 with limit := n.1 }, x.2 || n.2))
  | 7 => (clampIn 1 2 60 v).map (fun n => ({ x.1 with traverse := n.1 }, x.2 || n.2))
  | _ => none

/-- The answer of a class. -/
def answerClass (s : State) (k : Nat) : Answer := imageOf (s.classRec k).suspect (classImage k (s.classRec k))

/-- LOOKUP of a class (R18). -/
def lookupClass (s : State) (r : Req) : State × Answer :=
  match keyAlone 1 0 7 r with
  | none => (s, refusedWith .badValue)
  | some k => (s, s.answerClass k)

/-- The number after a cursor over 0..7. -/
def afterCursor (c : Option Nat) : Nat := match c with | none => 0 | some n => n + 1

/-- LIST of classes (R18, R172). -/
def listClass (s : State) (r : Req) : State × Answer :=
  match cursorAlone 1 0 7 r with
  | none => (s, refusedWith .badValue)
  | some c => if afterCursor c < 8 then (s, s.answerClass (afterCursor c)) else (s, refusedWith .empty)

/-- AMEND of a class (R18). -/
def amendClass (s : State) (r : Req) : State × Answer :=
  match keyIn 1 0 7 r with
  | none => (s, refusedWith .badValue)
  | some k =>
    let q := s.classRec k
    if q.suspect && !carries r.fields [2, 3, 4, 5, 6, 7] then (s, s.answerClass k)
    else
      match foldFields classField (q.cfg, false) r.fields with
      | none => (s, refusedWith .badValue)
      | some (c, clamped) =>
        let s1 := s.putClass k { cfg := c }
        (if q.suspect then s1.endSuspect .cls k else s1, { okKey 1 k with clamped := clamped })

end State
end Sys2Proof.Machine
end

