-- ==== Sys2Proof/Machine/OccTable.lean ====
section
/-! DEFINITION. Supervisor requests on the OCCUPANCY table, and SWEEP_CLEAR (05_occupancy_records.md, R99 to R103). -/

namespace Sys2Proof.Machine
namespace State

/-- The answer of an occupancy slot. -/
def answerOcc (s : State) (k : Nat) : Answer :=
  match s.occ? k with | none => refusedWith .notFound | some r => imageOf r.suspect (occImage k r)

/-- LOOKUP by person number (R99): the sound record, else a suspect one with status SUSPECT. -/
def lookupOccOf (s : State) (p : Nat) : Answer :=
  match s.recordOf p with
  | some (i, _) => s.answerOcc i
  | none => match s.suspectRecordOf p with | some (i, _) => s.answerOcc i | none => refusedWith .notFound

/-- LOOKUP of an occupancy record by slot or by person number, never both (R99). -/
def lookupOcc (s : State) (r : Req) : State × Answer :=
  match r.fields with
  | [] =>
    match keyIn 1 0 255 r with
    | none => (s, refusedWith .badValue)
    | some k => (s, s.answerOcc k)
  | [f] =>
    if r.key = [] ∧ f.1 = 2#8 then
      match numIn 2 1 65535 f.2 with
      | none => (s, refusedWith .badValue)
      | some p => (s, s.lookupOccOf p)
    else (s, refusedWith .badValue)
  | _ :: _ :: _ => (s, refusedWith .badValue)

/-- The cursor of a zone-filtered LIST: a zone-entered-at in four bytes, then a slot (R184). -/
def zoneCursor (r : Req) : Option (Option (Nat × Nat)) :=
  if r.key = [] then some none
  else if r.key.length = 5 then some (some (ofBE (r.key.take 4), ofBE (r.key.drop 4)))
  else none

/-- A record stands after a cursor in its zone's order (R83). One that has moved into the zone in the very second of the
cursor, in a lower slot, stands before it by R83 and is passed over (log entry 56, DESIGN CHOICE). -/
def afterZoneCursor (c : Option (Nat × Nat)) (q : Nat × OccRec) : Bool :=
  match c with
  | none => true
  | some (t, i) => t < q.2.zoneEntered || (t = q.2.zoneEntered && i < q.1)

/-- LIST of a zone's records in the zone's order (R99). -/
def listZoneRecs (s : State) (z : Nat) (c : Option (Nat × Nat)) : Answer :=
  match (s.zoneOrder z).find? (fun q => afterZoneCursor c q) with
  | none => refusedWith .empty
  | some (k, _) => s.answerOcc k

/-- LIST of occupancy records (R99, R172). A record whose stored zone names no configured zone appears without a filter
only. -/
def listOcc (s : State) (r : Req) : State × Answer :=
  match r.fields with
  | [] =>
    match cursorIn 1 0 255 r with
    | none => (s, refusedWith .badValue)
    | some c =>
      match s.occ.recs.after c with
      | none => (s, refusedWith .empty)
      | some (k, _) => (s, s.answerOcc k)
  | [f] =>
    match zoneCursor r, numIn 1 1 31 f.2 with
    | some c, some z =>
      if f.1 = 200#8 then
        if (s.zone? z).isNone then (s, refusedWith (if c.isNone then .notFound else .empty)) else (s, s.listZoneRecs z c)
      else (s, refusedWith .badValue)
    | _, _ => (s, refusedWith .badValue)
  | _ :: _ :: _ => (s, refusedWith .badValue)

/-- What an INSERT of an occupancy record carries (R101). -/
structure OccDraft where
  person : Option Nat := none
  zone   : Option Nat := none
  dwell  : Option Nat := none
  deriving DecidableEq, Repr

/-- One field of an occupancy INSERT (R101, R185); the dwell deadline must be later than now. The slot is carried as the
key: under field id 1 the model answers BAD_VALUE (log entry 42, DESIGN CHOICE). -/
def occField (now : Nat) (c : OccDraft) (i : Nat) (v : List Byte) : Option OccDraft :=
  match i with
  | 2 => (numIn 2 1 65535 v).map (fun n => { c with person := some n })
  | 3 => (numIn 1 1 31 v).map (fun n => { c with zone := some n })
  | 4 => (optIn 4 (now + 1) Config.secondsTop v).map (fun o => { c with dwell := o })
  | _ => none

/-- The record that an INSERT makes (R101). -/
def hostRecord (s : State) (p z : Nat) (dwell : Option Nat) : OccRec :=
  { person := p, zone := z, entered := s.now, zoneEntered := s.now, basis := .host, dwell := dwell,
    checkin := s.checkinFor z }

/-- Pair evaluation of every zone whose count has changed since `before` (R95). -/
def pairEvaluateSince (s before : State) : State :=
  s.occ.zones.keys.foldl (fun t z => t.pairEvaluate z (before.occupants z)) s

/-- An INSERT that has passed its tests: the record goes into a suspect slot or the lowest free one (R101). A rewrite ends
RECORD_SUSPECT. R101 does not say what becomes of CHECKIN_MISSED, DWELL_OVERRUN and PAIR_BROKEN open for the person that
the suspect record stored: the model leaves them open (log entry 83, DESIGN CHOICE). -/
def storeOcc (s : State) (slot : Nat) (rewrite : Bool) (r : OccRec) : State :=
  let s1 := s.putOcc slot r
  (if rewrite then s1.endSuspect .occupancy slot else s1).pairEvaluateSince s

/-- A key's slot, if one is given: none is a slot out of range (R101). -/
def slotIn (r : Req) : Option (Option Nat) := optIn 1 0 255 r.key

/-- Tests 6 to 9 of R101 on the slot; the slot to use and whether it is a rewrite. -/
def insertSlot (s : State) (slot : Option Nat) (p : Nat) : Except Status (Nat × Bool) :=
  let given := slot.bind s.occ?
  if (match given with | none => false | some q => !q.suspect) then .error .duplicate
  else if s.occ.recs.any (fun q => q.2.person = p && some q.1 != slot) then .error .duplicate
  else
    match slot, given with
    | some i, some q =>
      if !s.zoneHeld q.zone then .error .notHeld
      else .ok (i, true)
    | _, _ => match s.lowestSlot with | none => .error .full | some i => .ok (i, false)

/-- INSERT of an occupancy record (R101). The covering agents recompute (R118), of the zone that a rewritten record leaves
too (log entry 43). That the person exists is seen without a test of the record (log entry 50, DESIGN CHOICE). -/
def insertOcc (s : State) (r : Req) : State × Answer :=
  match slotIn r, foldFields (occField s.now) {} r.fields with
  | some slot, some ⟨some p, some z, dwell⟩ =>
    if (s.person? p).isNone then (s, refusedWith .notFound)
    else
      match s.zone? z with
      | none => (s, refusedWith .notFound)
      | some zr =>
        if zr.suspect then (s, refusedWith .suspect)
        else if zr.freeze != .held then (s, refusedWith .notHeld)
        else
          match s.insertSlot slot p with
          | .error e => (s, refusedWith e)
          | .ok (i, rewrite) =>
            let zs := z :: ((s.occ? i).map (fun q => q.zone)).toList
            (((s.storeOcc i rewrite (s.hostRecord p z dwell)).settle).recomputeFor zs, okKey 1 i)
  | _, _ => (s, refusedWith .badValue)

/-- A dwell deadline extended by AMEND (R100). -/
def extendDwell (s : State) (k : Nat) (q : OccRec) (t : Nat) : State :=
  (s.putOcc k { q with dwell := some t, overdue := false }).endAlarm .dwellOverrun (.person q.person)

/-- The tests of R100 on the deadline given for a sound record, and the extension. -/
def amendDwell (s : State) (k : Nat) (q : OccRec) (v : List Byte) : State × Answer :=
  match numIn 4 (s.now + 1) Config.secondsTop v with
  | none => (s, refusedWith .badValue)
  | some t =>
    match q.dwell with
    | none => (s, refusedWith .wrongState)
    | some d => if d < t then (s.extendDwell k q t, okKey 1 k) else (s, refusedWith .badValue)

/-- AMEND of an occupancy record (R100). A suspect record answers SUSPECT whatever the fields are, since no AMEND rewrites it
(R174, R101). The order of the other refusals is log entry 30. -/
def amendOcc (s : State) (r : Req) : State × Answer :=
  match keyIn 1 0 255 r with
  | none => (s, refusedWith .badValue)
  | some k =>
    if (match s.occ? k with | none => false | some q => q.suspect) then (s, s.answerOcc k)
    else
      match r.fields with
      | [f] =>
        if f.1 = 4#8 then
          match s.occ? k with
          | none => (s, refusedWith .notFound)
          | some q => s.amendDwell k q f.2
        else (s, refusedWith .badValue)
      | _ => (s, refusedWith .badValue)

/-- RETIRE of an occupancy record (R102): OK, the slot and the person number retired. The covering agent recomputes
(R98, R118). -/
def retireOcc (s : State) (r : Req) : State × Answer :=
  match keyAlone 1 0 255 r with
  | none => (s, refusedWith .badValue)
  | some k =>
    match s.occ? k with
    | none => (s, refusedWith .notFound)
    | some q =>
      if !s.zoneHeld q.zone then (s, refusedWith .notHeld)
      else
        ((((s.retireRecord k q).pairEvaluateSince s).settle).recomputeFor [q.zone],
          okWith [fldN 0 1 k, fldN 2 2 q.person])

/-! ## SWEEP_CLEAR (R103) -/

/-- The list of a SWEEP_CLEAR: at most 16 distinct person numbers above 0. -/
def sweepList (v : List Byte) : Option (List Nat) :=
  match items 2 32 v with
  | none => none
  | some l =>
    let ps := l.map ofBE
    if ps.length ≤ 16 ∧ ps.all (fun p => p != 0) = true ∧ ps.Nodup then some ps else none

/-- A listed person is recorded elsewhere (R103 test 6). -/
def recordedElsewhere (s : State) (z p : Nat) : Bool :=
  s.occ.recs.any (fun q => q.2.person = p && q.2.zone != z)

/-- The records that a sweep of `z` retires: suspect ones, and those of persons not listed. -/
def sweptOut (s : State) (z : Nat) (ps : List Nat) : Table OccRec :=
  s.occ.recs.filter (fun q => q.2.zone = z && (q.2.suspect || !ps.contains q.2.person))

/-- The listed persons who have no sound record in `z`, in list order. -/
def sweptIn (s : State) (z : Nat) (ps : List Nat) : List Nat :=
  ps.filter (fun p => !s.occ.recs.any (fun q => q.2.person = p && q.2.zone = z && !q.2.suspect))

/-- The record that a sweep makes for a person found (R103 step 2). -/
def sweepRecord (s : State) (z p : Nat) : OccRec :=
  { person := p, zone := z, entered := s.now, zoneEntered := s.now, basis := .sweep, checkin := s.checkinFor z }

/-- A record is made for a person found in the sweep. -/
def sweepOne (z : Nat) (s : State) (p : Nat) : State :=
  match s.lowestSlot with | none => s | some i => s.putOcc i (s.sweepRecord z p)

/-- The zone is verified, and UNVERIFIED_ZONE ends (R91). -/
def verify (s : State) (z : Nat) : State :=
  (s.changeZone z (fun r => { r with verified := true })).endAlarm .unverifiedZone (.zone z)

/-- The steps of a sweep that is taken (R103): the records, the verified flag, and the pair evaluation. -/
def sweepZone (s : State) (z : Nat) (ps : List Nat) : State :=
  let s1 := (s.sweptOut z ps).foldl (fun s q => s.retireRecord q.1 q.2) s
  let s2 := (s.sweptIn z ps).foldl (sweepOne z) s1
  (s2.verify z).pairEvaluate z (s.occupants z)

/-- Tests 5 to 7 of R103, and the sweep. The covering agent recomputes whatever the records did (R118). Test 5 tests no
person record (log entry 50, DESIGN CHOICE). Of several persons who fail test 5, or test 6, the response names the first in
the order of the list (log entry 80, DESIGN CHOICE). -/
def sweepTests (s : State) (z : Nat) (ps : List Nat) : State × Answer :=
  match ps.find? (fun p => (s.person? p).isNone) with
  | some p => (s, refusedFor .notFound p)
  | none =>
    match ps.find? (fun p => s.recordedElsewhere z p) with
    | some p => (s, refusedFor .wrongState p)
    | none =>
      if s.freeSlots + (s.sweptOut z ps).length < (s.sweptIn z ps).length then (s, refusedWith .full)
      else
        let s1 := (s.sweepZone z ps).settle
        let s2 := match s1.coveringAgent z with | none => s1 | some a => s1.recompute a
        (s2, okWith [fldN 241 2 (s.sweptOut z ps).length, fldN 242 1 (s.sweptIn z ps).length])

/-- SWEEP_CLEAR (R103). -/
def sweepClear (s : State) (r : Req) : State × Answer :=
  match keyIn 1 1 31 r, r.fields with
  | some z, [f] =>
    match sweepList f.2 with
    | none => (s, refusedWith .badValue)
    | some ps =>
      if r.table = 0#8 ∧ f.1 = 1#8 then
        match s.zone? z with
        | none => (s, refusedWith .notFound)
        | some zr =>
          if zr.suspect then (s, refusedWith .suspect)
          else if zr.freeze != .held then (s, refusedWith .notHeld)
          else s.sweepTests z ps
      else (s, refusedWith .badValue)
  | _, _ => (s, refusedWith .badValue)

end State
end Sys2Proof.Machine
end

