-- ==== Sys2Proof/Machine/PersonTable.lean ====
section
/-! DEFINITION. Record requests on the PERSON and GRANT tables (03_persons_and_grants.md, R44 to R54, R60). Each
definition answers the state after the request and the owner's answer. -/

namespace Sys2Proof.Machine
namespace State

/-! ## PERSON -/

/-- One configuration field of a person (R42, R185). R45 names no refusal for an INSERT that also carries id 1, the person
number: the model answers BAD_VALUE, even where it repeats the key (log entry 42, DESIGN CHOICE). -/
def personField (c : PersonCfg) (i : Nat) (v : List Byte) : Option PersonCfg :=
  match i with
  | 2 => (numIn 4 1 4294967295 v).map (fun n => { c with credential := n })
  | 3 => (numIn 1 0 7 v).map (fun n => { c with clearance := n })
  | 4 => (numIn 1 0 3 v).map (fun n => { c with assisted := n % 2 = 1, loneWork := n / 2 = 1 })
  | 5 => (enumIn [false, true] v).map (fun b => { c with suspended := b })
  | _ => none

/-- Another record than `k` holds the credential (R45 test 4). -/
def credentialTaken (s : State) (k cred : Nat) : Bool := (s.holders cred).any (· != k)

/-- The other records that hold a credential are read by R45 test 4, and so tested (R181); which records the comparison
reads is the model's choice (log entry 38, DESIGN CHOICE). A record that fails keeps its stored credential. -/
def readRivals (s : State) (k cred : Nat) : State := s.testPersons ((s.holders cred).filter (· != k))

/-- Stores a person record with a new check value, and ends the suspicion that a rewrite ends (R49). -/
def storePerson (s : State) (k : Nat) (c : PersonCfg) (wasSuspect : Bool) : State :=
  let s1 := s.putPerson k { cfg := c }
  if wasSuspect then s1.endSuspect .person k else s1

/-- The answer of a person record that was found. -/
def answerPerson (s : State) (k : Nat) : Answer :=
  match s.person? k with | none => refusedWith .notFound | some r => imageOf r.suspect (personImage s k r)

/-- LOOKUP by credential (R44): the record R43 would resolve. -/
def lookupCredential (s : State) (cred : Nat) : State × Answer :=
  match s.resolve cred with
  | (s', .unknown) => (s', refusedWith .notFound)
  | (s', .person p) => (s', s'.answerPerson p)
  | (s', .suspect) =>
    match (s'.holders cred).find? (fun p => s'.personSuspect p) with
    | none => (s', refusedWith .suspect)
    | some p => (s', s'.answerPerson p)

/-- LOOKUP of a person by number or by credential, never both (R44). -/
def lookupPerson (s : State) (r : Req) : State × Answer :=
  match r.fields with
  | [] =>
    match keyIn 2 1 65535 r with
    | none => (s, refusedWith .badValue)
    | some k => ((s.testPerson k), (s.testPerson k).answerPerson k)
  | [f] =>
    if r.key = [] ∧ f.1 = 2#8 then
      match numIn 4 1 4294967295 f.2 with
      | none => (s, refusedWith .badValue)
      | some cred => s.lookupCredential cred
    else (s, refusedWith .badValue)
  | _ :: _ :: _ => (s, refusedWith .badValue)

/-- LIST of persons (R44, R172). -/
def listPerson (s : State) (r : Req) : State × Answer :=
  match cursorAlone 2 1 65535 r with
  | none => (s, refusedWith .badValue)
  | some c =>
    match s.adm.persons.after c with
    | none => (s, refusedWith .empty)
    | some (k, _) => ((s.testPerson k), (s.testPerson k).answerPerson k)

/-- INSERT of a person (R45, R49). -/
def insertPerson (s : State) (r : Req) : State × Answer :=
  match keyIn 2 1 65535 r with
  | none => (s, refusedWith .badValue)
  | some k =>
    let s1 := s.testPerson k
    let old := s1.person? k
    let suspect := match old with | none => false | some q => q.suspect
    if old.isSome && !suspect then (s1, refusedWith .duplicate)
    else
      match foldFields personField { credential := 0 } r.fields with
      | none => (s1, refusedWith .badValue)
      | some c =>
        if !carries r.fields [2] then (s1, refusedWith .badValue)
        else if s1.credentialTaken k c.credential then (s1.readRivals k c.credential, refusedWith .duplicate)
        else if old.isNone && Config.maxPersons ≤ s1.adm.persons.length then (s1, refusedWith .full)
        else (s1.storePerson k c suspect, okKey 2 k)

/-- AMEND of a person (R46, R49). R46 gives its refusals no order: the model answers NOT_FOUND first, then SUSPECT, then
BAD_VALUE for a person number carried (log entry 40, DESIGN CHOICE). -/
def amendPerson (s : State) (r : Req) : State × Answer :=
  match keyIn 2 1 65535 r with
  | none => (s, refusedWith .badValue)
  | some k =>
    let s1 := s.testPerson k
    match s1.person? k with
    | none => (s1, refusedWith .notFound)
    | some q =>
      if q.suspect && !carries r.fields [2, 3, 4, 5] then (s1, s1.answerPerson k)
      else
        match foldFields personField q.cfg r.fields with
        | none => (s1, refusedWith .badValue)
        | some c =>
          if carries r.fields [2] && s1.credentialTaken k c.credential then
            (s1.readRivals k c.credential, refusedWith .duplicate)
          else (s1.storePerson k c q.suspect, okKey 2 k)

/-- The person is held in the part (R47): an occupancy record, a pending passage or a pair wait names the person. -/
def heldInPart (s : State) (p : Nat) : Bool :=
  s.occ.recs.any (fun q => q.2.person = p) ||
  s.door.doors.any (fun d =>
    (match d.2.cycle with | none => false | some c => c.passages.any (fun x => x.person = some p)) ||
    (match d.2.pairWait with | none => false | some w => w.person = p))

/-- The removal of a person with the person's grants and alarms (R48). -/
def dropPerson (s : State) (k : Nat) : State :=
  let s1 := (s.grantList k).foldl (fun s n => s.dropGrant n) s
  let s2 := s1.setAdm { s1.adm with persons := s1.adm.persons.del k }
  (s2.withdraw (.person k)).withdraw (.record .person k)

/-- RETIRE of a person (R47, R48). The removals do not read the records, and so test nothing (log entry 50, DESIGN
CHOICE). -/
def retirePerson (s : State) (r : Req) : State × Answer :=
  match keyAlone 2 1 65535 r with
  | none => (s, refusedWith .badValue)
  | some k =>
    if (s.person? k).isNone then (s, refusedWith .notFound)
    else if s.heldInPart k then (s, refusedWith .inZone)
    else (s.dropPerson k, okWith [fldN 0 2 k, fldN 241 2 (s.grantList k).length])

/-! ## GRANT -/

/-- A zone list: 1 to 8 distinct zone numbers in 1..31 (R50). -/
def zoneList (v : List Byte) : Option (List Nat) :=
  let l := v.map (·.toNat)
  if 1 ≤ l.length ∧ l.length ≤ 8 ∧ l.all (fun z => 1 ≤ z && z ≤ 31) = true ∧ l.Nodup then some l else none

/-- One configuration field of a grant (R50, R185). R51 names no refusal for an INSERT that also carries id 1, the grant
number: the model answers BAD_VALUE, even where it repeats the key (log entry 42, DESIGN CHOICE). -/
def grantField (c : GrantCfg) (i : Nat) (v : List Byte) : Option GrantCfg :=
  match i with
  | 2 => (numIn 2 1 65535 v).map (fun n => { c with person := n })
  | 3 => (zoneList v).map (fun l => { c with zones := l })
  | 4 => (numIn 2 0 10079 v).map (fun n => { c with wStart := n })
  | 5 => (numIn 2 0 10079 v).map (fun n => { c with wEnd := n })
  | 6 => (numIn 2 0 65535 v).map (fun n => { c with fromDay := n })
  | 7 => (optIn 2 0 65535 v).map (fun o => { c with untilDay := o })
  | 8 => (optIn 2 1 720 v).map (fun o => { c with ceiling := o })
  | 9 => (optIn 2 0 65535 v).map (fun o => { c with uses := o })
  | _ => none

/-- Stores a grant record with a new check value, and ends the suspicion that a rewrite ends (R60). -/
def storeGrant (s : State) (k : Nat) (c : GrantCfg) (wasSuspect : Bool) : State :=
  let s1 := s.putGrant k { cfg := c }
  if wasSuspect then s1.endSuspect .grant k else s1

/-- The answer of a grant record that was read. -/
def answerGrant (s : State) (k : Nat) : Answer :=
  match s.grant? k with | none => refusedWith .notFound | some r => imageOf r.suspect (grantImage k r)

/-- LOOKUP of a grant (R53). -/
def lookupGrant (s : State) (r : Req) : State × Answer :=
  match keyAlone 2 1 65535 r with
  | none => (s, refusedWith .badValue)
  | some k => ((s.testGrant k), (s.testGrant k).answerGrant k)

/-- The next grant of a list, read and answered. The record returned is tested, and none that the walk passes over (log
entry 50, DESIGN CHOICE). -/
def nextGrant (s : State) (t : Table GrantRec) (c : Option Nat) : State × Answer :=
  match t.after c with
  | none => (s, refusedWith .empty)
  | some (k, _) => ((s.testGrant k), (s.testGrant k).answerGrant k)

/-- LIST of grants, with or without a person filter (R53, R172). That a filter's person exists is seen without a test of
the record, and the stored person numbers that the filter compares are seen without a test of the grants it passes over:
the record returned alone is tested (R181; log entry 50, DESIGN CHOICE). -/
def listGrant (s : State) (r : Req) : State × Answer :=
  match cursorIn 2 1 65535 r, r.fields with
  | none, _ => (s, refusedWith .badValue)
  | some c, [] => s.nextGrant s.adm.grants c
  | some c, [f] =>
    if f.1 = 200#8 then
      match numIn 2 1 65535 f.2 with
      | none => (s, refusedWith .badValue)
      | some p =>
        if c.isNone && (s.person? p).isNone then (s, refusedWith .notFound)
        else s.nextGrant (s.adm.grants.filter (fun q => q.2.cfg.person = p)) c
    else (s, refusedWith .badValue)
  | some _, _ :: _ :: _ => (s, refusedWith .badValue)

/-- INSERT of a grant (R51, R60). -/
def insertGrant (s : State) (r : Req) : State × Answer :=
  match keyIn 2 1 65535 r with
  | none => (s, refusedWith .badValue)
  | some k =>
    let s1 := s.testGrant k
    let old := s1.grant? k
    let suspect := match old with | none => false | some q => q.suspect
    if old.isSome && !suspect then (s1, refusedWith .duplicate)
    else
      match foldFields grantField { person := 0, zones := [] } r.fields with
      | none => (s1, refusedWith .badValue)
      | some c =>
        if !carries r.fields [2, 3] then (s1, refusedWith .badValue)
        else
          let s2 := s1.testPerson c.person
          match s2.person? c.person with
          | none => (s2, refusedWith .notFound)
          | some p =>
            if p.suspect then (s2, refusedWith .suspect)
            else if old.isNone && Config.maxGrants ≤ s2.adm.grants.length then (s2, refusedWith .full)
            else (s2.storeGrant k c suspect, okKey 2 k)

/-- AMEND of a grant (R52, R60). R52 gives its refusals no order: the model answers NOT_FOUND first, then SUSPECT, then
BAD_VALUE for a grant or person number carried, then BAD_VALUE for a value, and last SUSPECT for a rewrite whose stored
person number names no record (log entry 40, DESIGN CHOICE). That this record exists is seen without a test of it (log entry
50, DESIGN CHOICE). -/
def amendGrant (s : State) (r : Req) : State × Answer :=
  match keyIn 2 1 65535 r with
  | none => (s, refusedWith .badValue)
  | some k =>
    let s1 := s.testGrant k
    match s1.grant? k with
    | none => (s1, refusedWith .notFound)
    | some q =>
      if q.suspect && !carries r.fields [3, 4, 5, 6, 7, 8, 9] then (s1, s1.answerGrant k)
      else if (ids r.fields).contains 2 then (s1, refusedWith .badValue)
      else
        match foldFields grantField q.cfg r.fields with
        | none => (s1, refusedWith .badValue)
        | some c =>
          if q.suspect && (s1.person? c.person).isNone then (s1, s1.answerGrant k)
          else (s1.storeGrant k c q.suspect, okKey 2 k)

/-- RETIRE of a grant (R54). The removal does not read the record, and so tests nothing (log entry 50, DESIGN CHOICE). -/
def retireGrant (s : State) (r : Req) : State × Answer :=
  match keyAlone 2 1 65535 r with
  | none => (s, refusedWith .badValue)
  | some k =>
    if (s.grant? k).isNone then (s, refusedWith .notFound) else (s.dropGrant k, okKey 2 k)

end State
end Sys2Proof.Machine
end

