-- ==== Sys2Proof/Machine/StationTable.lean ====
section
/-! DEFINITION. Record requests on the STATION table (08_station_link.md, R155 to R157, R166). -/

namespace Sys2Proof.Machine
namespace State

/-- What an INSERT or AMEND of a station carries (R155). -/
structure StationDraft where
  kind  : Option StationKind := none
  bound : Option Nat := none
  deriving DecidableEq, Repr

/-- One configuration field of a station (R155, R185). R156 names no refusal for an INSERT that also carries id 1, the
address: the model answers BAD_VALUE (log entry 42, DESIGN CHOICE). -/
def stationField (c : StationDraft) (i : Nat) (v : List Byte) : Option StationDraft :=
  match i with
  | 2 => (enumIn stationKinds v).map (fun k => { c with kind := some k })
  | 3 => (num 1 v).map (fun n => { c with bound := some n })
  | _ => none

/-- The bound object is in its range for the kind (R155). -/
def boundInRange (c : StationCfg) : Bool :=
  match c.kind with
  | .door => c.bound ≤ 47
  | .zone => 1 ≤ c.bound && c.bound ≤ 31
  | .agent => c.bound ≤ 7

/-- A draft with both fields, in range (R156 test 3). -/
def wholeDraft (d : StationDraft) : Option StationCfg :=
  match d.kind, d.bound with
  | some k, some b => if boundInRange ⟨k, b⟩ then some ⟨k, b⟩ else none
  | _, _ => none

/-- Tests 4 and 5 of R156: the bound door or zone is configured and not suspect. -/
def boundRefusal (s : State) (c : StationCfg) : Option Status :=
  match c.kind with
  | .door => match s.door? c.bound with | none => some .notFound | some d => if d.suspect then some .suspect else none
  | .zone => match s.zone? c.bound with | none => some .notFound | some z => if z.suspect then some .suspect else none
  | .agent => none

/-- Test 6 of R156: another station of the kind DOOR or AGENT is bound to the object. -/
def boundTaken (s : State) (k : Nat) (c : StationCfg) : Bool :=
  c.kind != .zone && s.link.stations.any (fun q => q.1 != k && q.2.cfg = c)

/-- The object is an agent zone in COUNTDOWN, ABORT_HELD, OCCUPIED_HOLD or DISCHARGE (R156). -/
def boundBusy (s : State) (c : StationCfg) : Bool := c.kind = .agent && inRelease (s.agent c.bound).state

/-- Tests 4 to 6 of R156, with the station itself left out of test 6. -/
def stationRefusal (s : State) (k : Nat) (c : StationCfg) : Option Status :=
  match s.boundRefusal c with
  | some e => some e
  | none => if s.boundTaken k c then some .inUse else none

/-- A station record as it is made, amended or rewritten: its live fields at their Reset values (R156, R166). -/
def freshStation (c : StationCfg) : StationRec := { cfg := c, desired := resetOutputs c.kind }

/-- The answer of a station that was found. -/
def answerStation (s : State) (k : Nat) : Answer :=
  match s.station? k with | none => refusedWith .notFound | some r => imageOf r.suspect (stationImage s k r)

/-- LOOKUP of a station (R155). -/
def lookupStation (s : State) (r : Req) : State × Answer :=
  match keyAlone 1 1 96 r with
  | none => (s, refusedWith .badValue)
  | some k => (s, s.answerStation k)

/-- LIST of stations (R155, R172). -/
def listStation (s : State) (r : Req) : State × Answer :=
  match cursorAlone 1 1 96 r with
  | none => (s, refusedWith .badValue)
  | some c =>
    match s.link.stations.after c with
    | none => (s, refusedWith .empty)
    | some (k, _) => (s, s.answerStation k)

/-- A station is amended or rewritten: the old serving ends, and the new begins (R156, R157, R166). -/
def rewriteStation (s : State) (k : Nat) (old : StationRec) (c : StationCfg) : State :=
  let s1 := if s.serves k old then s.endServing old.link old.cfg else s
  let s2 := s1.putStation k (freshStation c)
  (if old.suspect then s2.endSuspect .station k else s2).syncServing

/-- An AMEND or rewrite of a station that has its fields: tests 4 to 6 of R156, then the agent-state test, which R156 and R166
give no place among them (log entry 73, DESIGN CHOICE). -/
def amendTests (s : State) (k : Nat) (old : StationRec) (c : StationCfg) : State × Answer :=
  match s.stationRefusal k c with
  | some e => (s, refusedWith e)
  | none =>
    if s.boundBusy old.cfg || s.boundBusy c then (s, refusedWith .wrongState)
    else (s.rewriteStation k old c, okKey 1 k)

/-- INSERT of a station (R156, R166). -/
def insertStation (s : State) (r : Req) : State × Answer :=
  match keyIn 1 1 96 r with
  | none => (s, refusedWith .badValue)
  | some k =>
    let old := s.station? k
    if (match old with | none => false | some q => !q.suspect) then (s, refusedWith .duplicate)
    else
      match (foldFields stationField {} r.fields).bind wholeDraft with
      | none => (s, refusedWith .badValue)
      | some c =>
        match old with
        | some q => s.amendTests k q c
        | none =>
          match s.stationRefusal k c with
          | some e => (s, refusedWith e)
          | none => ((s.putStation k (freshStation c)).syncServing, okKey 1 k)

/-- AMEND of a station (R156, R166). One that carries no field is taken as any other (log entry 65, DESIGN CHOICE). -/
def amendStation (s : State) (r : Req) : State × Answer :=
  match keyIn 1 1 96 r with
  | none => (s, refusedWith .badValue)
  | some k =>
    match s.station? k with
    | none => (s, refusedWith .notFound)
    | some q =>
      if q.suspect && !carries r.fields [2, 3] then (s, s.answerStation k)
      else
        match (foldFields stationField ⟨some q.cfg.kind, some q.cfg.bound⟩ r.fields).bind wholeDraft with
        | none => (s, refusedWith .badValue)
        | some c => s.amendTests k q c

/-- A reply to an exchange in progress with a retired station is ignored (R156). -/
def voidExchange (s : State) (k : Nat) : State :=
  match s.link.exchange with
  | none => s
  | some x => if x.address = k then s.setLink { s.link with exchange := some { x with void := true } } else s

/-- The removal of a station (R156). -/
def dropStation (s : State) (k : Nat) (q : StationRec) : State :=
  let s1 := if s.serves k q then s.endServing q.link q.cfg else s
  let s2 := s1.setLink { s1.link with stations := s1.link.stations.del k,
                                      safetyLane := s1.link.safetyLane.filter (· != k),
                                      doorLane := s1.link.doorLane.filter (· != k) }
  let s3 := (s2.voidExchange k).withdraw (.station k)
  if q.suspect then s3.endSuspect .station k else s3

/-- RETIRE of a station (R156). -/
def retireStation (s : State) (r : Req) : State × Answer :=
  match keyAlone 1 1 96 r with
  | none => (s, refusedWith .badValue)
  | some k =>
    match s.station? k with
    | none => (s, refusedWith .notFound)
    | some q =>
      if s.boundBusy q.cfg then (s, refusedWith .wrongState) else (s.dropStation k q, okKey 1 k)

end State
end Sys2Proof.Machine
end

