-- ==== Sys2Proof/Machine/ZoneTable.lean ====
section
/-! DEFINITION. Record requests on the ZONE table (01_zones_and_the_site_map.md, R7 to R14). -/

namespace Sys2Proof.Machine
namespace State

/-- A zone being written, with whether a value was clamped (R2, R173). -/
abbrev ZoneDraft := ZoneCfg × Bool

/-- The hours windows: at most four, each two minutes of week (R2). -/
def windowList (v : List Byte) : Option (List (Nat × Nat)) :=
  match items 4 4 v with
  | none => none
  | some l => allSome (fun w =>
      match numIn 2 0 10079 (w.take 2), numIn 2 0 10079 (w.drop 2) with
      | some a, some b => some (a, b)
      | _, _ => none) l

/-- The check-in interval as stored: 1..4 becomes 5 and a value above 60 becomes 60 (R2). -/
def clampCheckin (n : Nat) : Nat := if n = 0 then 0 else if n < 5 then 5 else if 60 < n then 60 else n

/-- One configuration field of a zone (R2, R185). R185 lists the zone number, id 1, as a configuration field and R10 bars it
from an AMEND only: the model refuses it BAD_VALUE in an INSERT too, even where it repeats the key (log entry 42, DESIGN
CHOICE). -/
def zoneField (x : ZoneDraft) (i : Nat) (v : List Byte) : Option ZoneDraft :=
  match i with
  | 2 => (numIn 1 0 31 v).map (fun n => ({ x.1 with parent := n }, x.2))
  | 3 => (numIn 1 0 7 v).map (fun n => ({ x.1 with clearance := n }, x.2))
  | 4 => (numIn 1 0 255 v).map (fun n => ({ x.1 with capacity := n }, x.2))
  | 5 => (numIn 1 0 120 v).map (fun n => ({ x.1 with walk := n }, x.2))
  | 6 => (optIn 1 0 47 v).map (fun o => ({ x.1 with egressDoor := o }, x.2))
  | 7 => (windowList v).map (fun l => ({ x.1 with windows := l }, x.2))
  | 8 => (enumIn overrides v).map (fun o => ({ x.1 with override := o }, x.2))
  | 9 => (enumIn [true, false] v).map (fun b => ({ x.1 with pairRule := b }, x.2))
  | 10 => (numIn 1 5 60 v).map (fun n => ({ x.1 with pairWindow := n }, x.2))
  | 11 => (numIn 2 30 600 v).map (fun n => ({ x.1 with pairGrace := n }, x.2))
  | 12 => (num 1 v).map (fun n => ({ x.1 with checkin := clampCheckin n }, x.2 || clampCheckin n != n))
  | 13 => (numIn 1 0 120 v).map (fun n => ({ x.1 with afterGrace := n }, x.2))
  | _ => none

/-- R9 permits the egress door of zone `k`: absent, or a door record whose inner zone is `k`. -/
def egressPermitted (s : State) (k : Nat) (o : Option Nat) : Bool :=
  match o with
  | none => true
  | some d => match s.door? d with | none => false | some r => r.cfg.inner = k

/-- An agent in one of the states in which the site map beneath it may change (R8, R11). -/
def mapMayChange (s : State) (a : Nat) : Bool :=
  match (s.agent a).state with
  | .normal | .unconfigured | .spent => true
  | .alert | .countdown | .abortHeld | .occupiedHold | .discharge | .discharged | .fault => false

/-- The agents whose top zone lies in the subtree of `k`. -/
def agentsBelow (s : State) (k : Nat) : List Nat :=
  eight.filter (fun a => match (s.agent a).cfg.top with | none => false | some t => s.isUnder t k)

/-- The agents that R11 test 7 concerns. -/
def agentsConcerned (s : State) (k p : Nat) : List Nat :=
  (s.coveringAgent k).toList ++ (s.coveringAgent p).toList ++ s.agentsBelow k

/-- The tests of a move of zone `k` beneath parent `p` (R11); none when it may be made. In test 4 a stored partner counts
even where it does not name the door back (log entry 48, DESIGN CHOICE). -/
def moveRefusal (s : State) (k p : Nat) : Option Status :=
  if s.isUnder p k then some .badValue
  else if p != 0 && (s.zone? p).isNone then some .notFound
  else if (match s.zone? p with | none => false | some r => r.suspect) then some .suspect
  else if s.door.doors.any (fun q => q.2.cfg.inner = k && q.2.cfg.partner.isSome) then some .inUse
  else if (s.subtree k).any (fun z => match s.zone? z with | none => false | some r => r.freeze != .held) then
    some .notHeld
  else if (s.subtree k).any (fun z => s.occupants z != 0 || s.reservations z != 0) then some .wrongState
  else if (s.agentsConcerned k p).any (fun a => !s.mapMayChange a) then some .wrongState
  else if (s.agentsBelow k).any (fun a => match s.coveringAgent p with | none => false | some b => b != a) then
    some .badValue
  else none

/-- The tests of an AMEND or a rewrite of zone `k` to the fields `c` (R10, R14): R9 for an egress door carried, and
R11 for a parent carried that differs from the one used for the tree. R10 gives the two no order: the model answers the
BAD_VALUE of R9 first (log entry 51, DESIGN CHOICE). -/
def zoneRefusal (s : State) (k : Nat) (c : ZoneCfg) (fs : List Field) : Option Status :=
  if (ids fs).contains 6 && !s.egressPermitted k c.egressDoor then some .badValue
  else if (ids fs).contains 2 && c.parent != s.parentOf k then s.moveRefusal k c.parent
  else none

/-- The answer of a zone that was found. -/
def answerZone (s : State) (k : Nat) : Answer :=
  if k = 0 then okWith [fldN 1 1 0]
  else match s.zone? k with | none => refusedWith .notFound | some r => imageOf r.suspect (zoneImage s k r)

/-- LOOKUP of a zone (R7). -/
def lookupZone (s : State) (r : Req) : State × Answer :=
  match keyAlone 1 0 31 r with
  | none => (s, refusedWith .badValue)
  | some k => (s, s.answerZone k)

/-- LIST of zones, zone 0 first (R7, R172). -/
def listZone (s : State) (r : Req) : State × Answer :=
  match cursorAlone 1 0 31 r with
  | none => (s, refusedWith .badValue)
  | some none => (s, s.answerZone 0)
  | some (some c) =>
    match s.occ.zones.after (some c) with
    | none => (s, refusedWith .empty)
    | some (k, _) => (s, s.answerZone k)

/-- An AMEND or rewrite that has passed its tests is stored; the live fields are kept (R10, R14). -/
def storeZone (s : State) (k : Nat) (old : ZoneRec) (c : ZoneCfg) (fs : List Field) : State :=
  let s1 := s.putZone k { old with cfg := c, suspect := false, orphan := false, checkOk := true }
  let s2 := if old.suspect then s1.endSuspect .zone k else s1
  if old.suspect || (ids fs).contains 7 || (ids fs).contains 8 then s2.evaluateHours k else s2

/-- The answer OK with the zone's key, and the CLAMPED flag where a value was clamped. -/
def okZone (k : Nat) (clamped : Bool) : Answer := { okKey 1 k with clamped := clamped }

/-- A zone record as INSERT makes it (R3). -/
def freshZone (s : State) (c : ZoneCfg) : ZoneRec := { cfg := c, hours := computeHours s.ret.calendar c }

/-- INSERT into an unconfigured slot: tests 4 to 7 of R8, then R3. -/
def makeZone (s : State) (k : Nat) (c : ZoneCfg) (clamped : Bool) : State × Answer :=
  if c.parent != 0 && (s.zone? c.parent).isNone then (s, refusedWith .notFound)
  else if (match s.zone? c.parent with | none => false | some p => p.suspect) then (s, refusedWith .suspect)
  else if !s.egressPermitted k c.egressDoor then (s, refusedWith .badValue)
  else if (match s.coveringAgent c.parent with | none => false | some a => !s.mapMayChange a) then
    (s, refusedWith .wrongState)
  else ((s.putZone k (s.freshZone c)).raise .unverifiedZone (.zone k) (some k) none, okZone k clamped)

/-- INSERT of a zone (R8, R14). -/
def insertZone (s : State) (r : Req) : State × Answer :=
  match keyIn 1 1 31 r with
  | none => (s, refusedWith .badValue)
  | some k =>
    let old := s.zone? k
    if (match old with | none => false | some q => !q.suspect) then (s, refusedWith .duplicate)
    else
      match foldFields zoneField ({ parent := 0 }, false) r.fields with
      | none => (s, refusedWith .badValue)
      | some (c, clamped) =>
        if !carries r.fields [2] || c.parent = k then (s, refusedWith .badValue)
        else
          match old with
          | none => s.makeZone k c clamped
          | some q =>
            match s.zoneRefusal k c r.fields with
            | some e => (s, refusedWith e)
            | none => (s.storeZone k q c r.fields, okZone k clamped)

/-- The field ids of a zone that a whole AMEND carries (R14). -/
def zoneIds : List Nat := [2, 3, 4, 5, 6, 7, 8, 9, 10, 11, 12, 13]

/-- AMEND of a zone (R10, R11, R14). NOT_FOUND, SUSPECT and a field out of its range come before the tests of R9 and R11,
in that order (log entry 51, DESIGN CHOICE). -/
def amendZone (s : State) (r : Req) : State × Answer :=
  match keyIn 1 1 31 r with
  | none => (s, refusedWith .badValue)
  | some k =>
    match s.zone? k with
    | none => (s, refusedWith .notFound)
    | some q =>
      if q.suspect && !carries r.fields zoneIds then (s, s.answerZone k)
      else
        match foldFields zoneField (q.cfg, false) r.fields with
        | none => (s, refusedWith .badValue)
        | some (c, clamped) =>
          match s.zoneRefusal k c r.fields with
          | some e => (s, refusedWith e)
          | none => (s.storeZone k q c r.fields, okZone k clamped)

/-- The zone is still referred to (R12 test 3). -/
def zoneReferred (s : State) (k : Nat) : Bool :=
  s.door.doors.any (fun q => q.2.cfg.inner = k) ||
  s.occ.zones.keys.any (fun z => z != k && s.parentOf z = k) ||
  eight.any (fun a => (s.agent a).cfg.top = some k) ||
  s.link.stations.any (fun q => q.2.cfg.kind = .zone && q.2.cfg.bound = k)

/-- The removal of a zone (R12). -/
def dropZone (s : State) (k : Nat) (q : ZoneRec) : State :=
  let s1 := (s.setOcc { s.occ with zones := s.occ.zones.del k }).withdraw (.zone k)
  if q.suspect then s1.endSuspect .zone k else s1

/-- RETIRE of a zone (R12). -/
def retireZone (s : State) (r : Req) : State × Answer :=
  match keyAlone 1 1 31 r with
  | none => (s, refusedWith .badValue)
  | some k =>
    match s.zone? k with
    | none => (s, refusedWith .notFound)
    | some q =>
      if s.zoneReferred k then (s, refusedWith .inUse)
      else if s.occupants k != 0 || s.reservations k != 0 then (s, refusedWith .inZone)
      else if q.freeze != .held then (s, refusedWith .wrongState)
      else (s.dropZone k q, okKey 1 k)

end State
end Sys2Proof.Machine
end

