-- ==== Sys2Proof/Machine/Operations.lean ====
section
/-! DEFINITION. The operational requests (09_host_port.md, R175) and the choice of a record request's owner by its
table (R170, R171). -/

namespace Sys2Proof.Machine
namespace State

/-! ## Zones: FREEZE, THAW, HOURS_OVERRIDE -/

/-- The answer with a zone's freeze state (R76). -/
def freezeAnswer (f : Freeze) : Answer := okWith [fldN 21 1 (freezeCode f)]

/-- The freeze state that FREEZE gives a zone (R76). -/
def frozen (s : State) (z : Nat) (f : Freeze) : Freeze :=
  match f with
  | .requested => .requested
  | .held => .held
  | .thawed => if s.inFlight z = 0 then .held else .requested

/-- FREEZE (R76). -/
def freeze (s : State) (r : Req) : State × Answer :=
  match opKey 1 31 r with
  | none => (s, refusedWith .badValue)
  | some z =>
    match s.zone? z with
    | none => (s, refusedWith .notFound)
    | some q => (s.putZone z { q with freeze := s.frozen z q.freeze }, freezeAnswer (s.frozen z q.freeze))

/-- One wait-list entry is taken from the list and decided afresh, arriving now (R79). -/
def thawOne (s : State) (e : WaitEntry) : State :=
  let s1 := s.setAdm { s.adm with waits := s.adm.waits.erase e }
  match e.credential with
  | none => (s1.decideEntry e.door none .unknown e.mode s1.nowTenths).conclude
  | some c =>
    match s1.resolve c with
    | (s2, res) => (s2.decideEntry e.door (some c) res e.mode s2.nowTenths).conclude

/-- The next entry of a THAW, with the number decided so far: an entry that has left the list meanwhile, refused by a zone
closure that an earlier entry brought about (R80), is decided no more. -/
def thawNext (x : State × Nat) (e : WaitEntry) : State × Nat :=
  if x.1.adm.waits.contains e then (x.1.thawOne e, x.2 + 1) else x

/-- THAW (R79): OK with the freeze state and the number of entries decided. R3 says that no entry into a new zone is decided
before a SWEEP_CLEAR and a THAW, while R79 asks for no sweep and R63 tests no verified flag: the model thaws an unverified
zone as any other (log entry 78, DESIGN CHOICE). -/
def thaw (s : State) (r : Req) : State × Answer :=
  match opKey 1 31 r with
  | none => (s, refusedWith .badValue)
  | some z =>
    match s.zone? z with
    | none => (s, refusedWith .notFound)
    | some q =>
      let mine := if q.freeze = .thawed then [] else s.adm.waits.filter (fun e => s.waitsFor z e)
      let s1 := s.putZone z { q with freeze := .thawed }
      let done := mine.foldl State.thawNext (s1, 0)
      (done.1, okWith [fldN 21 1 (freezeCode .thawed), fldN 240 1 done.2])

/-- HOURS_OVERRIDE (R6): the override is stored and the zone evaluated. -/
def hoursOverride (s : State) (r : Req) : State × Answer :=
  if r.table = 0#8 then
    match keyIn 1 1 31 r, (oneField r).bind (fun v => enumIn overrides v) with
    | some z, some o =>
      match s.zone? z with
      | none => (s, refusedWith .notFound)
      | some q =>
        if q.suspect then (s, refusedWith .suspect)
        else
          let s1 := (s.putZone z { q with cfg := { q.cfg with override := o } }).evaluateHours z
          (s1, okWith [fldN 16 1 (hoursCode (computeHours s.ret.calendar { q.cfg with override := o }))])
    | _, _ => (s, refusedWith .badValue)
  else (s, refusedWith .badValue)

/-! ## Doors: REMOTE_RELEASE, LOCKOUT_ON, LOCKOUT_OFF -/

/-- The inner zone takes a REMOTE_RELEASE: its entry state is OPEN and its freeze state THAWED (R34). -/
def releasable (s : State) (z : Nat) : Bool :=
  match s.zone? z with | none => false | some r => r.entry = .opened && r.freeze = .thawed

/-- The passage of a REMOTE_RELEASE (R34). -/
def remotePassage (s : State) : Passage := { dir := .entry, arrival := s.nowTenths }

/-- The answer with a door's state. -/
def doorStateAnswer (s : State) (d : Nat) : Answer :=
  match s.door? d with | none => okWith [] | some r => okWith [fldN 17 1 (doorCode r.state)]

/-- REMOTE_RELEASE (R34). -/
def remoteRelease (s : State) (r : Req) : State × Answer :=
  match opKey 0 47 r with
  | none => (s, refusedWith .badValue)
  | some d =>
    match s.door? d with
    | none => (s, refusedWith .notFound)
    | some q =>
      if q.suspect then (s, refusedWith .suspect)
      else if q.state = .unknown || !s.releasable q.cfg.inner then (s, refusedWith .wrongState)
      else
        match s.releaseRequest d [s.remotePassage] with
        | (s1, .taken) => (s1.decided d (s.grantedNow none none), s1.doorStateAnswer d)
        | (_, .full) => (s, refusedWith .full)
        | (_, .dropped) => (s, refusedWith .wrongState)

/-- LOCKOUT_ON and LOCKOUT_OFF (R33). -/
def lockout (b : Bool) (s : State) (r : Req) : State × Answer :=
  match opKey 0 47 r with
  | none => (s, refusedWith .badValue)
  | some d =>
    match s.door? d with
    | none => (s, refusedWith .notFound)
    | some q => if q.suspect then (s, refusedWith .suspect) else (s.putDoor d { q with lockout := b }, okWith [])

/-! ## Agents: ISOLATE, DEISOLATE, VENT_CLEAR -/

/-- ISOLATE (R131). -/
def isolate (s : State) (r : Req) : State × Answer :=
  match opKey 0 7 r with
  | none => (s, refusedWith .badValue)
  | some a =>
    if (s.agent a).state = .unconfigured then (s, refusedWith .wrongState)
    else if (s.agent a).isolated then (s, okWith [])
    else (((s.changeAgent a (fun q => { q with isolated := true })).raiseAgent a .isolated).settle, okWith [])

/-- DEISOLATE (R131). -/
def deisolate (s : State) (r : Req) : State × Answer :=
  match opKey 0 7 r with
  | none => (s, refusedWith .badValue)
  | some a =>
    if (s.agent a).state = .unconfigured then (s, refusedWith .wrongState)
    else if !(s.agent a).isolated then (s, okWith [])
    else
      ((((s.changeAgent a (fun q => { q with isolated := false })).endAlarm .isolated (.agent a)).settle).reevaluate a,
        okWith [])

/-- The soak time of a discharged agent has run (R129). -/
def soaked (s : State) (r : AgentRec) : Bool :=
  match r.dischargeTime with | none => false | some t => t + r.cfg.soak * 60 ≤ s.now

/-- The effects of a VENT_CLEAR that is taken (R129). -/
def ventAgent (s : State) (a : Nat) : State :=
  let s1 := s.endAlarm .dischargeUnconfirmed (.agent a)
  if s1.agentBit a bitReady then
    ((s1.changeAgent a (fun q => { q with dischargeTime := none })).enterState a .normal).reevaluate a
  else s1.enterState a .spent

/-- VENT_CLEAR (R129). -/
def ventClear (s : State) (r : Req) : State × Answer :=
  match opKey 0 7 r with
  | none => (s, refusedWith .badValue)
  | some a =>
    let q := s.agent a
    if q.suspect then (s, refusedWith .suspect)
    else if q.state != .discharged || !s.soaked q then (s, refusedWith .wrongState)
    else (s.ventAgent a, okWith [fldN 32 1 (agentCode ((s.ventAgent a).agent a).state)])

/-! ## SET_CLOCK, STATUS, COMMISSION, ACK_RESTART -/

/-- The calendar that a SET_CLOCK carries (R183). -/
def clockIn (fs : List Field) : Option Calendar :=
  if fs.length = 3 then
    match (valueOf fs 1).bind (numIn 2 0 65535), (valueOf fs 2).bind (numIn 2 0 10079),
          (valueOf fs 3).bind (numIn 1 0 59) with
    | some d, some m, some x => some ⟨d, m, x⟩
    | _, _, _ => none
  else none

/-- SET_CLOCK (R183). -/
def setClock (s : State) (r : Req) : State × Answer :=
  if r.table = 0#8 ∧ r.key = [] then
    match clockIn r.fields with
    | none => (s, refusedWith .badValue)
    | some c =>
      (((s.setRet { s.ret with calendar := some c }).endAlarm .clockUnset (.zone 0)).evaluateAllHours,
        okWith [fldN 1 2 c.day, fldN 2 2 c.minute, fldN 3 1 c.second])
  else (s, refusedWith .badValue)

/-- The bytes of the calendar in STATUS: length 0 while it is unset (R184). -/
def calendarBytes (c : Option Calendar) : List Byte :=
  match c with | none => [] | some k => toBE 2 k.day ++ toBE 2 k.minute ++ toBE 1 k.second

/-- The number of ordinary alarm records in a state. -/
def alarmsIn (s : State) (x : AlarmState) : Nat :=
  (s.alm.recs.filter (fun p => AlarmUnit.isOrdinary p.1 && p.2.state = x)).length

/-- The number of open overflow records. -/
def overflows (s : State) : Nat := (s.alm.recs.filter (fun p => !AlarmUnit.isOrdinary p.1)).length

/-- The seventeen items of STATUS (R176, R184). -/
def statusFields (s : State) : List Field :=
  [fldB 1 s.ret.active, fldB 2 s.ret.calendar.isSome, fld 3 (seconds s.now), fld 4 (calendarBytes s.ret.calendar),
   fldN 5 2 s.adm.persons.length, fldN 6 2 s.adm.grants.length, fldN 7 2 s.occ.recs.length, fldN 8 1 s.occ.zones.length,
   fldN 9 1 s.door.doors.length, fldN 10 1 s.link.stations.length, fldN 11 2 s.allReservations,
   fld 12 (toBE 1 (s.alarmsIn .raised) ++ toBE 1 (s.alarmsIn .notified) ++ toBE 1 (s.alarmsIn .acknowledged) ++
     toBE 1 s.overflows),
   fld 13 (eight.map (fun a => toBE 1 (agentCode (s.agent a).state))).flatten, fldN 14 2 s.suspectCount,
   fldN 15 1 s.adm.waits.length, fldB 16 s.alm.noticeLine, fldB 17 s.alm.forwardLine]

/-- STATUS (R176). -/
def statusRequest (s : State) (r : Req) : State × Answer :=
  if bare r then (s, okWith s.statusFields) else (s, refusedWith .badValue)

/-- COMMISSION (R177): OK with the resulting commissioned state. A change of it rewrites the marker's check value (R178). -/
def commission (s : State) (r : Req) : State × Answer :=
  if bare r then
    (s.setRet { s.ret with active := true, markerCheck := s.ret.markerCheck || !s.ret.active }, okWith [fldB 1 true])
  else (s, refusedWith .badValue)

/-- ACK_RESTART (R177). -/
def ackRestart (s : State) (r : Req) : State × Answer :=
  if bare r then (s.setHost { s.host with resetSeen := false }, okWith []) else (s, refusedWith .badValue)

/-! ## Record requests by table (R170, R171) -/

/-- LOOKUP, by the owner of the table (R171). -/
def lookupIn (t : Tbl) (s : State) (r : Req) : State × Answer :=
  match t with
  | .person => s.lookupPerson r
  | .grant => s.lookupGrant r
  | .occupancy => s.lookupOcc r
  | .zone => s.lookupZone r
  | .door => s.lookupDoor r
  | .cls => s.lookupClass r
  | .agent => s.lookupAgent r
  | .logic => s.lookupLogic r
  | .route => s.lookupRoute r
  | .alarm => s.lookupAlarm r
  | .station => s.lookupStation r

/-- LIST, by the owner of the table (R172). -/
def listIn (t : Tbl) (s : State) (r : Req) : State × Answer :=
  match t with
  | .person => s.listPerson r
  | .grant => s.listGrant r
  | .occupancy => s.listOcc r
  | .zone => s.listZone r
  | .door => s.listDoor r
  | .cls => s.listClass r
  | .agent => s.listAgent r
  | .logic => s.listLogic r
  | .route => s.listRoute r
  | .alarm => s.listAlarm r
  | .station => s.listStation r

/-- INSERT, by the owner of the table; the fixed tables refuse DUPLICATE and ALARM refuses WRONG_STATE (R171), whatever the
key and the fields are (log entry 66, DESIGN CHOICE). -/
def insertIn (t : Tbl) (s : State) (r : Req) : State × Answer :=
  match t with
  | .person => s.insertPerson r
  | .grant => s.insertGrant r
  | .occupancy => s.insertOcc r
  | .zone => s.insertZone r
  | .door => s.insertDoor r
  | .station => s.insertStation r
  | .cls => (s, refusedWith .duplicate)
  | .agent => (s, refusedWith .duplicate)
  | .logic => (s, refusedWith .duplicate)
  | .route => (s, refusedWith .duplicate)
  | .alarm => (s, refusedWith .wrongState)

/-- AMEND, by the owner of the table; ALARM refuses WRONG_STATE (R171), whatever the key and the fields are (log entry 66,
DESIGN CHOICE). -/
def amendIn (t : Tbl) (s : State) (r : Req) : State × Answer :=
  match t with
  | .person => s.amendPerson r
  | .grant => s.amendGrant r
  | .occupancy => s.amendOcc r
  | .zone => s.amendZone r
  | .door => s.amendDoor r
  | .cls => s.amendClass r
  | .agent => s.amendAgent r
  | .logic => s.amendLogic r
  | .route => s.amendRoute r
  | .station => s.amendStation r
  | .alarm => (s, refusedWith .wrongState)

/-- RETIRE, by the owner of the table; the fixed tables and ALARM refuse WRONG_STATE (R171), whatever the key and the fields
are (log entry 66, DESIGN CHOICE). -/
def retireIn (t : Tbl) (s : State) (r : Req) : State × Answer :=
  match t with
  | .person => s.retirePerson r
  | .grant => s.retireGrant r
  | .occupancy => s.retireOcc r
  | .zone => s.retireZone r
  | .door => s.retireDoor r
  | .station => s.retireStation r
  | .cls => (s, refusedWith .wrongState)
  | .agent => (s, refusedWith .wrongState)
  | .logic => (s, refusedWith .wrongState)
  | .route => (s, refusedWith .wrongState)
  | .alarm => (s, refusedWith .wrongState)

end State
end Sys2Proof.Machine
end

