-- ==== Sys2Proof/Machine/Starts.lean ====
section
/-! DEFINITION. Starts and time (10_retention_restart_and_time.md): the cold start, the warm restart, and the advance
of running seconds with the calendar. -/

namespace Sys2Proof.Machine
namespace State

/-! ## Starts (R178 to R180) -/

/-- The cold start (R179). The commands that wait outside the part, and the counter of free values, are no state of
the part and stay. -/
def coldStart (s : State) : State := (State.reset.setPending s.pending).setFree s.free

/-- The Door Controller at a warm restart (R40). -/
def restartDoors (s : State) : State :=
  s.setDoor { s.door with doors := s.door.doors.map (fun p => (p.1, restarted p.2)) }

/-- A zone's freeze state after a warm restart (R81). -/
def restartedZone (r : ZoneRec) : ZoneRec :=
  match r.freeze with
  | .requested => { r with freeze := .held }
  | .thawed => r
  | .held => r

/-- The Admission Unit at a warm restart (R81). -/
def restartAdmission (s : State) : State :=
  (s.setAdm { s.adm with waits := [] }).setOcc
    { s.occ with zones := s.occ.zones.map (fun p => (p.1, restartedZone p.2)) }

/-- The Occupancy Unit at a warm restart (R105): counts and reservations follow from the records, so that hours
states and the deadlines remain. -/
def restartOccupancy (s : State) : State := s.evaluateAllHours.takeAllDeadlines

/-- The Host Port as a start leaves it (R177). -/
def restartHost (s : State) : State :=
  s.setHost { s.host with port := .idle, buffer := none, overrun := false, resetSeen := true }

/-- CLOCK_UNSET at a warm restart (R180 step 4). -/
def restartClock (s : State) : State :=
  let s1 := s.setRet { s.ret with base := 0, sweep := (0, 0) }
  match s1.ret.calendar with
  | none => s1.raiseClockUnset
  | some _ => s1

/-- The warm restart (R180). Step 3 gives the blocks no order: the model takes the Door Controller, the Admission Unit,
the Station Link, the Alarm Unit, the Occupancy Unit and the Release Unit in this order (log entry 1, DESIGN CHOICE). -/
def warmRestart (s : State) : State :=
  (s.fullCheck.restartDoors.restartAdmission.restartLink.restartAlarmUnit.restartOccupancy.restartRelease.restartClock
    ).restartHost.finish

/-- The retention marker is valid: its pattern and its check value are both correct (R178). -/
def markerValid (s : State) : Bool := s.ret.marker && s.ret.markerCheck

/-- A start takes its kind from the retention marker (R178). -/
def start (s : State) : State := if s.markerValid then s.warmRestart else s.coldStart

/-- What the retention domain holds of an agent zone (R178). -/
def retainedAgent (r : AgentRec) : AgentRec :=
  { cfg := r.cfg, suspect := r.suspect, checkOk := r.checkOk, state := r.state, isolated := r.isolated,
    dischargeTime := r.dischargeTime, spentMark := r.spentMark, echoed := r.echoed }

/-- A loss of the main supply while the retention supply holds: the state outside the retention domain is lost (R178;
log entry 44). -/
def loseLive (s : State) : State :=
  let s1 := (s.restartDoors.setAdm { s.adm with waits := [] }).restartLink
  (s1.setRel { s1.rel with agents := mapVec retainedAgent s1.rel.agents }).setRet { s1.ret with base := 0 }

/-- A loss of the retention supply leaves the marker invalid (R178). -/
def loseRetention (s : State) : State := s.setRet { s.ret with marker := false, markerCheck := false }

/-- A start after a supply event, with the damage done to the retention memory (R178, R181; log entry 5). The seconds of the
loss are CALENDAR_ADVANCE commands before it (R182; log entry 67, DESIGN CHOICE). -/
def supplyStart (s : State) (retained : Bool) (ds : List Damage) : State :=
  if retained then (s.loseLive.applyDamages ds).start else s.loseRetention.start

/-! ## Time (R182) -/

/-- The calendar one second later, and whether its minute of week has advanced (R182). -/
def nextSecond (c : Calendar) : Calendar × Bool :=
  if c.second < 59 then ({ c with second := c.second + 1 }, false)
  else
    let m := if c.minute = 10079 then 0 else c.minute + 1
    ({ day := if m % 1440 = 0 then min 65535 (c.day + 1) else c.day, minute := m, second := 0 }, true)

/-- The retention unit one second later. The time base goes on to its next whole second in every case. At its top running
seconds holds, and the calendar with it; below it the change of running seconds rewrites the marker's check value (R178,
R182; log entries 3 and 35). -/
def secondLater (u : RetentionUnit) : RetentionUnit :=
  let v := { u with base := (u.base / 100 + 1) * 100 }
  if u.now < Config.secondsTop then
    { v with now := u.now + 1, markerCheck := true, calendar := u.calendar.map (fun c => (nextSecond c).1) }
  else v

/-- The advance of one second is an advance of the minute of week (R182). -/
def minuteAdvances (u : RetentionUnit) : Bool :=
  u.now < Config.secondsTop && match u.calendar with | none => false | some c => (nextSecond c).2

/-- Running seconds rises and the calendar advances; a minute advance evaluates every zone (R5, R182), during a loss of the
main supply too (log entry 67, DESIGN CHOICE). -/
def advanceCalendar (s : State) : State :=
  let s1 := s.setRet (secondLater s.ret)
  if minuteAdvances s.ret then s1.evaluateAllHours else s1

/-- The time base 10 ms later. It waits at the end of a second for CALENDAR_ADVANCE (log entry 3). -/
def baseLater (n : Nat) : Nat := if n % 100 = 99 then n else n + 1

/-- 10 ms pass with no command (log entry 3): the transmitter reads the stations, and the lanes are joined (R163). -/
def idle (s : State) : State := (s.setRet { s.ret with base := baseLater s.ret.base }).readTables.refreshLanes

end State
end Sys2Proof.Machine
end

