-- ==== Sys2Proof/Machine/HostPort.lean ====
section
/-! DEFINITION. The Host Port (09_host_port.md): the port's states, the checks on a frame, the response with its
flags, and the meaning of every command that a write or a read transaction carries. -/

namespace Sys2Proof.Machine
namespace State

/-! ## Transactions (R168, R169) -/

/-- The READY line: high in IDLE and ANSWERED, low in BUSY and STARTING (R168). -/
def readyLine (s : State) : Bool :=
  match s.host.port with
  | .idle | .answered => true
  | .busy | .starting => false


/-- A write transaction that is discarded sets the overrun flag (R168). -/
def discardWrite (s : State) : State := s.setHost { s.host with overrun := true }

/-- A write transaction that is taken: in ANSWERED the held response is dropped unread and the overrun flag set; the
port is BUSY (R168). A write in BUSY or STARTING is not taken. -/
def takeWrite (s : State) : Option State :=
  match s.host.port with
  | .idle => some (s.setHost { s.host with port := .busy, buffer := none })
  | .answered => some (s.setHost { s.host with port := .busy, buffer := none, overrun := true })
  | .busy => none
  | .starting => none

/-- The response made now to the request with this tag (R169). -/
def responseTo (s : State) (tag : Byte) (a : Answer) : Response :=
  { tag := tag, status := a.status, overrun := s.host.overrun, notice := s.alm.noticeLine,
    resetSeen := s.host.resetSeen, clamped := a.clamped, fields := a.fields }

/-- The owner's answer is made: the response is placed in the buffer, and the overrun flag is cleared (R168, R169). -/
def respond (s : State) (tag : Byte) (a : Answer) : State :=
  s.setHost { s.host with port := .answered, buffer := some (s.responseTo tag a), overrun := false }

/-- The response EMPTY to a read with no response held (R168, R169). -/
def emptyResponse (s : State) : Response :=
  { tag := 0#8, status := .empty, overrun := s.host.overrun, notice := s.alm.noticeLine,
    resetSeen := s.host.resetSeen, clamped := false, fields := [] }

/-- A read transaction (R168). -/
def readTransaction (s : State) : State :=
  match s.host.port, s.host.buffer with
  | .answered, some p => s.setHost { s.host with port := .idle, buffer := none, line := writeResponse p }
  | _, _ => s.setHost { s.host with line := writeResponse s.emptyResponse }

/-! ## Requests (R170) -/

/-- A field id occurs twice (R170 check 3). -/
def repeatsField (r : Req) : Bool := !decide (ids r.fields).Nodup

/-- An owner's function on a request that is only read. -/
abbrev Owner := State → Req → State × Answer

/-- A request that reads: the tables are read, its answer is made and nothing further follows. -/
def serveRead (s : State) (r : Req) (f : Owner) : State :=
  match s.takeWrite with
  | none => s.discardWrite
  | some s1 =>
    if repeatsField r then s1.respond r.tag (refusedWith .badValue)
    else (f s1.readTables r).1.respond r.tag (f s1.readTables r).2

/-- What follows a request that was taken: entry states by coverage (R109), and the end of its event. -/
def followed (x : State × Answer) : State := if x.2.status = .ok then x.1.syncEntries.finish else x.1

/-- A request that may change records: the tables are read, and what its owner does follows. -/
def serveWrite (s : State) (r : Req) (f : Owner) : State :=
  match s.takeWrite with
  | none => s.discardWrite
  | some s1 =>
    if repeatsField r then s1.respond r.tag (refusedWith .badValue)
    else (followed (f s1.readTables r)).respond r.tag (f s1.readTables r).2

/-- A record request goes to the owner of its table; with no table or an unknown one it is answered UNKNOWN_REQUEST
before anything else is looked at (R170). -/
def byTable (s : State) (r : Req) (serve : State → Req → Owner → State) (f : Tbl → Owner) : State :=
  match tableOf r.table with
  | some t => serve s r (f t)
  | none =>
    match s.takeWrite with
    | none => s.discardWrite
    | some s1 => s1.respond r.tag (refusedWith .unknownRequest)

/-- The tag of a frame that is answered UNKNOWN_REQUEST; a frame without one has a free tag (log entry 7). -/
def frameTag (s : State) (frame : List Byte) : Byte :=
  match frame with
  | _ :: t :: _ => t
  | [_] => Config.freeTag s.free
  | [] => Config.freeTag s.free

/-- The counter of free values moves on when a frame has no tag. -/
def countTag (s : State) (frame : List Byte) : State :=
  match frame with
  | _ :: _ :: _ => s
  | [_] => s.setFree (s.free + 1)
  | [] => s.setFree (s.free + 1)

/-- A frame that fails check 1 or 2 of R170. -/
def refuseFrame (s : State) (frame : List Byte) : State :=
  match s.takeWrite with
  | none => s.discardWrite
  | some s1 => (s1.countTag frame).respond (s.frameTag frame) (refusedWith .unknownRequest)

/-- RESTART begins a warm restart at once and makes no response (R177). -/
def restartRequest (s : State) (r : Req) : State :=
  match s.takeWrite with
  | none => s.discardWrite
  | some s1 => if bare r then s1.start else s1.respond r.tag (refusedWith .badValue)

end State

/-! ## The meanings of the commands a transaction carries -/

/-- What every command answers: a next state. -/
abbrev Outcome := Host.Outcome State Fault Refusal

/-- LOOKUP (R171). -/
def execLookup (r : Req) (s : State) : Outcome := .next (s.byTable r State.serveRead State.lookupIn)
/-- LIST (R172). -/
def execList (r : Req) (s : State) : Outcome := .next (s.byTable r State.serveRead State.listIn)
/-- INSERT (R171). -/
def execInsert (r : Req) (s : State) : Outcome := .next (s.byTable r State.serveWrite State.insertIn)
/-- AMEND (R171). -/
def execAmend (r : Req) (s : State) : Outcome := .next (s.byTable r State.serveWrite State.amendIn)
/-- RETIRE (R171). -/
def execRetire (r : Req) (s : State) : Outcome := .next (s.byTable r State.serveWrite State.retireIn)
/-- FREEZE (R76). -/
def execFreeze (r : Req) (s : State) : Outcome := .next (s.serveWrite r State.freeze)
/-- THAW (R79). -/
def execThaw (r : Req) (s : State) : Outcome := .next (s.serveWrite r State.thaw)
/-- SWEEP_CLEAR (R103). -/
def execSweepClear (r : Req) (s : State) : Outcome := .next (s.serveWrite r State.sweepClear)
/-- HOURS_OVERRIDE (R6). -/
def execHoursOverride (r : Req) (s : State) : Outcome := .next (s.serveWrite r State.hoursOverride)
/-- REMOTE_RELEASE (R34). -/
def execRemoteRelease (r : Req) (s : State) : Outcome := .next (s.serveWrite r State.remoteRelease)
/-- LOCKOUT_ON (R33). -/
def execLockoutOn (r : Req) (s : State) : Outcome := .next (s.serveWrite r (State.lockout true))
/-- LOCKOUT_OFF (R33). -/
def execLockoutOff (r : Req) (s : State) : Outcome := .next (s.serveWrite r (State.lockout false))
/-- ISOLATE (R131). -/
def execIsolate (r : Req) (s : State) : Outcome := .next (s.serveWrite r State.isolate)
/-- DEISOLATE (R131). -/
def execDeisolate (r : Req) (s : State) : Outcome := .next (s.serveWrite r State.deisolate)
/-- VENT_CLEAR (R129). -/
def execVentClear (r : Req) (s : State) : Outcome := .next (s.serveWrite r State.ventClear)
/-- NEXT_NOTICE (R147). -/
def execNextNotice (r : Req) (s : State) : Outcome := .next (s.serveRead r State.nextNotice)
/-- ACKNOWLEDGE (R143). -/
def execAcknowledge (r : Req) (s : State) : Outcome := .next (s.serveWrite r State.acknowledge)
/-- RESTORE (R142). -/
def execRestore (r : Req) (s : State) : Outcome := .next (s.serveWrite r State.restore)
/-- SET_MASK (R145). -/
def execSetMask (r : Req) (s : State) : Outcome := .next (s.serveRead r State.setMask)
/-- SET_CLOCK (R183). -/
def execSetClock (r : Req) (s : State) : Outcome := .next (s.serveWrite r State.setClock)
/-- STATUS (R176). -/
def execStatus (r : Req) (s : State) : Outcome := .next (s.serveRead r State.statusRequest)
/-- COMMISSION (R177). -/
def execCommission (r : Req) (s : State) : Outcome := .next (s.serveRead r State.commission)
/-- ACK_RESTART (R177). -/
def execAckRestart (r : Req) (s : State) : Outcome := .next (s.serveRead r State.ackRestart)
/-- RESTART (R177). -/
def execRestart (r : Req) (s : State) : Outcome := .next (s.restartRequest r)
/-- UNKNOWN_REQUEST: a frame that fails check 1 or 2 (R170). -/
def execUnknownRequest (frame : List Byte) (s : State) : Outcome := .next (s.refuseFrame frame)
/-- HOST_WRITE_OVERRUN: a write that ends while the port is BUSY or STARTING (R168; log entry 11). -/
def execHostWriteOverrun (s : State) : Outcome := .next s.discardWrite
/-- HOST_READ (R168). -/
def execHostRead (s : State) : Outcome := .next s.readTransaction

end Sys2Proof.Machine
end

