-- ==== Sys2Proof/Machine/Timers.lean ====
section
/-! DEFINITION. The meanings of the commands that no transaction carries: the station link, the timers and deadlines,
time, the check sweep and the starts. A timer that is not running, or not yet at its end, has no effect of its own
(log entry 2). Each command of a block that computes with the records reads the tables first, and finds what fails
there (R181; log entry 5). -/

namespace Sys2Proof.Machine

/-! ## The station link (08) -/

/-- POLL (R159, R163): the transmitter takes from the lanes as they stand once the tables are read. -/
def execPoll (s : State) : Outcome := .next s.readTables.refreshLanes.pollNext.finish
/-- GOOD_REPORT (R162). -/
def execGoodReport (bytes : List Byte) (s : State) : Outcome := .next (s.readTables.reply bytes)
/-- REPLY_WINDOW_EXPIRY (R160, R164). -/
def execReplyWindowExpiry (s : State) : Outcome := .next s.readTables.windowEnds

/-! ## Door timers (02) -/

/-- LEAD_EXPIRY (R22). -/
def execLeadExpiry (d : Nat) (s : State) : Outcome := .next (s.readTables.leadEnds d).finish
/-- STRIKE_TIMER_EXPIRY (R22). -/
def execStrikeTimerExpiry (d : Nat) (s : State) : Outcome := .next (s.readTables.strikeEnds d).finish
/-- HELD_OPEN_EXPIRY (R32). -/
def execHeldOpenExpiry (d : Nat) (s : State) : Outcome := .next (s.readTables.heldOpenEnds d).finish
/-- RELOCK_HOLD_EXPIRY (R25). -/
def execRelockHoldExpiry (d : Nat) (s : State) : Outcome := .next (s.readTables.relockEnds d).finish
/-- INTERLOCK_TIMEOUT (R29). -/
def execInterlockTimeout (d : Nat) (s : State) : Outcome := .next (s.readTables.interlockTimesOut d).finish
/-- EXIT_DUE (R29). -/
def execExitDue (d : Nat) (s : State) : Outcome := .next (s.readTables.exitFallsDue d).finish
/-- INDICATION_RETURN (R35). -/
def execIndicationReturn (d : Nat) (s : State) : Outcome := .next (s.readTables.indicationEnds d).finish
/-- PAIR_WINDOW_EXPIRY (R71). -/
def execPairWindowExpiry (d : Nat) (s : State) : Outcome := .next (s.readTables.pairWindowEnds d).finish
/-- WAIT_EXPIRED (R78). -/
def execWaitExpired (s : State) : Outcome := .next s.readTables.waitExpires.finish

/-! ## Deadlines (05, 06) -/

/-- DWELL_DEADLINE (R92). -/
def execDwellDeadline (i : Nat) (s : State) : Outcome := .next (s.readTables.takeDwell i).finish
/-- CHECKIN_DEADLINE (R93). -/
def execCheckinDeadline (i : Nat) (s : State) : Outcome := .next (s.readTables.takeCheckin i).finish
/-- PAIR_GRACE_DEADLINE (R95). -/
def execPairGraceDeadline (i : Nat) (s : State) : Outcome := .next (s.readTables.takePairGrace i).finish
/-- COUNTDOWN_DEADLINE (R125). -/
def execCountdownDeadline (a : Nat) (s : State) : Outcome := .next (s.readTables.takeCountdown a).finish
/-- CONFIRMATION_DEADLINE (R127). -/
def execConfirmationDeadline (a : Nat) (s : State) : Outcome := .next (s.readTables.takeConfirmation a).finish

/-! ## Time, the check sweep and the starts (10) -/

/-- CALENDAR_ADVANCE (R182). -/
def execCalendarAdvance (s : State) : Outcome := .next s.readTables.advanceCalendar.finish
/-- RECORD_CHECK_SWEEP (R181). -/
def execRecordCheckSweep (ds : List Damage) (s : State) : Outcome := .next (s.applyDamages ds).sweepStep
/-- RESET_LINE (R178). -/
def execResetLine (ds : List Damage) (s : State) : Outcome := .next (s.applyDamages ds).start
/-- MAIN_SUPPLY_DIP (R178). -/
def execMainSupplyDip (retained : Bool) (ds : List Damage) (s : State) : Outcome := .next (s.supplyStart retained ds)
/-- MAIN_SUPPLY_RESTORED (R178). -/
def execMainSupplyRestored (retained : Bool) (ds : List Damage) (s : State) : Outcome :=
  .next (s.supplyStart retained ds)

end Sys2Proof.Machine
end

