-- ==== Sys2Proof/Machine/Dispatch.lean ====
section
/-! DEFINITION. The dispatch of a command to its meaning: one arm per constructor. -/

namespace Sys2Proof.Machine

/-- The effect of a command on everything but the queue. -/
def exec (i : Instr) (s : State) : Host.Outcome State Fault Refusal :=
  match i with
  | .lookup r => Sys2Proof.Machine.execLookup r s
  | .list r => Sys2Proof.Machine.execList r s
  | .insert r => Sys2Proof.Machine.execInsert r s
  | .amend r => Sys2Proof.Machine.execAmend r s
  | .retire r => Sys2Proof.Machine.execRetire r s
  | .freeze r => Sys2Proof.Machine.execFreeze r s
  | .thaw r => Sys2Proof.Machine.execThaw r s
  | .sweepClear r => Sys2Proof.Machine.execSweepClear r s
  | .hoursOverride r => Sys2Proof.Machine.execHoursOverride r s
  | .remoteRelease r => Sys2Proof.Machine.execRemoteRelease r s
  | .lockoutOn r => Sys2Proof.Machine.execLockoutOn r s
  | .lockoutOff r => Sys2Proof.Machine.execLockoutOff r s
  | .isolate r => Sys2Proof.Machine.execIsolate r s
  | .deisolate r => Sys2Proof.Machine.execDeisolate r s
  | .ventClear r => Sys2Proof.Machine.execVentClear r s
  | .nextNotice r => Sys2Proof.Machine.execNextNotice r s
  | .acknowledge r => Sys2Proof.Machine.execAcknowledge r s
  | .restore r => Sys2Proof.Machine.execRestore r s
  | .setMask r => Sys2Proof.Machine.execSetMask r s
  | .setClock r => Sys2Proof.Machine.execSetClock r s
  | .status r => Sys2Proof.Machine.execStatus r s
  | .commission r => Sys2Proof.Machine.execCommission r s
  | .ackRestart r => Sys2Proof.Machine.execAckRestart r s
  | .restart r => Sys2Proof.Machine.execRestart r s
  | .unknownRequest frame => Sys2Proof.Machine.execUnknownRequest frame s
  | .hostWriteOverrun => Sys2Proof.Machine.execHostWriteOverrun s
  | .hostRead => Sys2Proof.Machine.execHostRead s
  | .poll => Sys2Proof.Machine.execPoll s
  | .goodReport reply => Sys2Proof.Machine.execGoodReport reply s
  | .replyWindowExpiry => Sys2Proof.Machine.execReplyWindowExpiry s
  | .leadExpiry door => Sys2Proof.Machine.execLeadExpiry door s
  | .strikeTimerExpiry door => Sys2Proof.Machine.execStrikeTimerExpiry door s
  | .heldOpenExpiry door => Sys2Proof.Machine.execHeldOpenExpiry door s
  | .relockHoldExpiry door => Sys2Proof.Machine.execRelockHoldExpiry door s
  | .interlockTimeout door => Sys2Proof.Machine.execInterlockTimeout door s
  | .exitDue door => Sys2Proof.Machine.execExitDue door s
  | .indicationReturn door => Sys2Proof.Machine.execIndicationReturn door s
  | .pairWindowExpiry door => Sys2Proof.Machine.execPairWindowExpiry door s
  | .waitExpired => Sys2Proof.Machine.execWaitExpired s
  | .dwellDeadline slot => Sys2Proof.Machine.execDwellDeadline slot s
  | .checkinDeadline slot => Sys2Proof.Machine.execCheckinDeadline slot s
  | .pairGraceDeadline slot => Sys2Proof.Machine.execPairGraceDeadline slot s
  | .countdownDeadline agent => Sys2Proof.Machine.execCountdownDeadline agent s
  | .confirmationDeadline agent => Sys2Proof.Machine.execConfirmationDeadline agent s
  | .calendarAdvance => Sys2Proof.Machine.execCalendarAdvance s
  | .recordCheckSweep damage => Sys2Proof.Machine.execRecordCheckSweep damage s
  | .resetLine damage => Sys2Proof.Machine.execResetLine damage s
  | .mainSupplyDip retained damage => Sys2Proof.Machine.execMainSupplyDip retained damage s
  | .mainSupplyRestored retained damage => Sys2Proof.Machine.execMainSupplyRestored retained damage s

end Sys2Proof.Machine
end

