-- ==== Sys2Proof/Safety.lean ====
section
/-! DEFINITION. What counts as a sound state of the part, in the terms that statements use. Each predicate is decidable
or quantifies over records only, and says which rule it stands for. -/

namespace Sys2Proof.Machine.State

/-- Every table is in its one canonical form: the keys rise strictly, so that a slot holds at most one record (R1, R15,
R42, R50, R82, R135, R155). -/
structure TablesRising (s : State) : Prop where
  doors    : s.door.doors.wf = true
  persons  : s.adm.persons.wf = true
  grants   : s.adm.grants.wf = true
  zones    : s.occ.zones.wf = true
  recs     : s.occ.recs.wf = true
  alarms   : s.alm.recs.wf = true
  stations : s.link.stations.wf = true

/-- A calendar in its ranges (R182). -/
def calendarLegal (c : Option Calendar) : Prop :=
  match c with
  | none => True
  | some k => k.day ≤ 65535 ∧ k.minute ≤ 10079 ∧ k.second ≤ 59

/-- Running seconds at or below its top, the calendar in its ranges (R182). -/
structure ClockLegal (s : State) : Prop where
  seconds  : s.ret.now ≤ Config.secondsTop
  calendar : calendarLegal s.ret.calendar

/-- The canonical form of the tables, with a legal clock. -/
structure Canonical (s : State) : Prop where
  rising : s.TablesRising
  clock  : s.ClockLegal

/-- No person is named by two sound occupancy records (R83). -/
def OneRecordEach (s : State) : Prop :=
  ∀ i j x y, (i, x) ∈ s.occ.recs → (j, y) ∈ s.occ.recs → x.sound = true → y.sound = true → x.person = y.person → i = j

/-- No kind and subject have two open ordinary alarm records (R138). -/
def OneAlarmEach (s : State) : Prop :=
  ∀ i j x y, (i, x) ∈ s.alm.recs → (j, y) ∈ s.alm.recs → AlarmUnit.isOrdinary i = true → AlarmUnit.isOrdinary j = true →
    x.kind = y.kind → x.subject = y.subject → i = j

/-- A DURESS record has class 0, whatever the route table holds (R136, R137). -/
def DuressFirst (s : State) : Prop := ∀ n r, (n, r) ∈ s.alm.recs → r.kind = some .duress → r.cls = 0

/-- A door has a release cycle in every state but SECURED and UNKNOWN (R19). -/
def cycleFits (r : DoorRec) : Bool :=
  match r.state with
  | .secured | .unknown => r.cycle.isNone
  | .interlockWait | .releasing | .released | .opened | .held | .relocking | .forced => r.cycle.isSome

/-- The states in which a door may hold its pair's open right (R19). -/
def mayHold : DoorState → Bool
  | .releasing | .released | .opened | .held | .relocking => true
  | .secured | .interlockWait | .forced | .unknown => false

/-- Every door's cycle fits its state, and a door that holds a right is in a state that may (R19). -/
def CyclesFit (s : State) : Prop :=
  ∀ d r, (d, r) ∈ s.door.doors → cycleFits r = true ∧ (r.right = true → mayHold r.state = true)

/-- The door is in RELEASING or RELEASED (R27). -/
def releases (r : DoorRec) : Bool := r.state = .releasing || r.state = .released

/-- The law of the open right (R27): of the two doors of a vestibule pair at most one is in RELEASING or RELEASED, that
door holds the right, and never do both hold it. -/
def PairsLawful (s : State) : Prop :=
  ∀ d p r q, s.partnerOf d = some p → s.door? d = some r → s.door? p = some q →
    (releases r = true → r.right = true ∧ releases q = false) ∧ ¬ (r.right = true ∧ q.right = true)

/-- A zone that is HELD, and a number that names no zone, has no pair wait and no pending ENTRY passage into it (R75). -/
def HeldHasNone (s : State) : Prop := ∀ z, s.zoneHeld z = true → s.inFlight z = 0

/-- The person that a pending ENTRY passage will record (R47). -/
def entrant (x : Passage) : Option Nat := if x.dir = .entry then x.person else none

/-- Every sound occupancy record names a person record that exists, and so does every pending ENTRY passage and every
pair wait, from which records come (R47, R83). -/
structure PersonsExist (s : State) : Prop where
  records  : ∀ i r, (i, r) ∈ s.occ.recs → r.sound = true → (s.person? r.person).isSome = true
  passages : ∀ d r c x p, (d, r) ∈ s.door.doors → r.cycle = some c → x ∈ c.passages → entrant x = some p →
    (s.person? p).isSome = true
  waits    : ∀ d r w, (d, r) ∈ s.door.doors → r.pairWait = some w → (s.person? w.person).isSome = true

/-- The times of an agent fit its state: a countdown has a deadline not later than its bound (R117), a hold keeps its
times, and the discharge flag is set in DISCHARGE only (R119). -/
def timesFit (r : AgentRec) : Prop :=
  (r.state = .countdown → ∃ t0 dl b, r.t0 = some t0 ∧ r.deadline = some dl ∧ r.bound = some b ∧ dl ≤ b) ∧
  (r.state = .occupiedHold → ∃ t0 dl, r.t0 = some t0 ∧ r.deadline = some dl) ∧
  (r.flag = true → r.state = .discharge)

/-- Every agent's times fit its state. -/
def TimesFit (s : State) : Prop := ∀ a, timesFit (s.agent a)

/-- Every stored item of every table, and the retention marker, agrees with its check value (R178, R181). A person or grant
record already suspect is tested no more. -/
def checksAgree (s : State) : Bool :=
  s.intact && s.adm.persons.all (fun p => p.2.checkOk || p.2.suspect) &&
    s.adm.grants.all (fun p => p.2.checkOk || p.2.suspect) && s.ret.markerCheck

/-- Every agent is UNCONFIGURED: no release is watched or in progress (R107, R119). -/
def NoAgents (s : State) : Prop := ∀ a, (s.agent a).state = .unconfigured

/-- The invariant of the part: tables and clock in canonical form, one sound record a person, one open alarm a kind
and subject, DURESS of class 0. -/
structure Sound (s : State) : Prop where
  canonical : s.Canonical
  oneRecord : s.OneRecordEach
  oneAlarm  : s.OneAlarmEach
  duress    : s.DuressFirst

/-- The port can take a write transaction (R168). -/
def portTakes (s : State) : Bool := s.host.port = .idle || s.host.port = .answered

/-- The part as a write transaction that is taken leaves it (R168): BUSY, the buffer empty, and the overrun flag set
when a response was dropped unread. -/
def writeTaken (s : State) : State :=
  s.setHost { s.host with port := .busy, buffer := none, overrun := s.host.overrun || s.host.port = .answered }

/-- The part as the owner of a request finds it: the write transaction is taken and the tables are read (R168, R181). -/
def asked (s : State) : State := s.writeTaken.readTables

/-- What follows a request that its owner has taken with OK: the entry states by coverage (R109), the end of its event,
and the response. -/
def answeredOk (t : State) (tag : Byte) (fs : List Field) : State := t.syncEntries.finish.respond tag (okWith fs)

/-- The same with another answer of status OK. -/
def answeredWith (t : State) (tag : Byte) (a : Answer) : State := t.syncEntries.finish.respond tag a

/-- A request answered with a refusal, which changes nothing else (R173). -/
def answeredNo (t : State) (tag : Byte) (c : Status) : State := t.respond tag (refusedWith c)

end Sys2Proof.Machine.State

namespace Sys2Proof.Machine

/-- The fields of a report are in the ranges of R186, and its status is of the station's kind. -/
def reportFits (k : StationKind) (r : Report) : Prop :=
  r.number < 8 ∧ r.echo < 8 ∧ r.events.length ≤ 4 ∧
  (∀ e ∈ r.events, e.type < 256 ∧ e.credential < 4294967296 ∧ e.qualifier < 256) ∧
  match k, r.status with
  | .door, .door _ _ => True
  | .zone, .zone => True
  | .agent, .agent v1 v2 _ _ _ _ _ _ => v1 ≤ 1023 ∧ v2 ≤ 1023
  | _, _ => False

/-- The command carries no damage of the environment. -/
def undamaging : Instr → Bool
  | .recordCheckSweep ds | .resetLine ds | .mainSupplyDip _ ds | .mainSupplyRestored _ ds => ds.isEmpty
  | _ => true

/-- An operational request that carries neither table, key nor field (R170). -/
def bareReq (tag : Byte) : Req := { tag := tag }

/-- An operational request that names its object by a one-byte key (R170, R184). -/
def keyReq (tag : Byte) (k : Nat) : Req := { tag := tag, key := toBE 1 k }

/-- A record request on a table, with a key of `w` bytes and fields (R171, R184). -/
def tableReq (tag : Byte) (t : Tbl) (w k : Nat) (fs : List Field) : Req :=
  { tag := tag, table := BitVec.ofNat 8 (tblCode t), key := toBE w k, fields := fs }

end Sys2Proof.Machine
end

