-- ==== Sys2Proof/WellFormed.lean ====
section
/-! DEFINITION. When a command is well formed: what the lines and the tables of the part could carry. A request is
bounded by its frame (R184), a record request names one of the eleven tables and any other frame is an UNKNOWN_REQUEST
(R170), a timer names a door, slot or agent that the tables can hold (00_scope.md, Dimensions of the part), and damage
leaves every field within its width. The meanings of `Sys2Proof/Machine` are total and ask for none of this. -/

namespace Sys2Proof

open Machine

/-- A request that a frame can carry (R184): at most 5 key bytes, 255 fields and 64 bytes a value. -/
def Req.wellFormed (r : Req) : Bool :=
  r.key.length ≤ 5 && r.fields.length ≤ 255 && r.fields.all (fun f => f.2.length ≤ 64)

/-- A record request names one of the eleven tables (R170, R171). -/
def Req.wellFormedRecord (r : Req) : Bool := r.wellFormed && (tableOf r.table).isSome

/-- An optional number below a bound. -/
def below (n : Nat) (o : Option Nat) : Bool := match o with | none => true | some k => k < n

/-- The fields of a person fit their widths (R42). -/
def PersonCfg.wellFormed (c : PersonCfg) : Bool := c.credential < 4294967296 && c.clearance < 8

/-- The fields of a grant fit their widths (R50). -/
def GrantCfg.wellFormed (c : GrantCfg) : Bool :=
  c.person < 65536 && c.zones.length ≤ 8 && c.zones.all (· < 32) && c.wStart < 16384 && c.wEnd < 16384 &&
    c.fromDay < 65536 && below 65536 c.untilDay && below 1024 c.ceiling && below 65536 c.uses

/-- The fields of a zone fit their widths (R2). -/
def ZoneCfg.wellFormed (c : ZoneCfg) : Bool :=
  c.parent < 32 && c.clearance < 8 && c.capacity < 256 && c.walk < 128 && below 64 c.egressDoor &&
    c.windows.length ≤ 4 && c.windows.all (fun w => w.1 < 16384 && w.2 < 16384) && c.pairWindow < 64 &&
    c.pairGrace < 1024 && c.checkin < 64 && c.afterGrace < 128

/-- The fields of a door fit their widths (R15). -/
def DoorCfg.wellFormed (c : DoorCfg) : Bool := c.inner < 32 && c.cls < 8 && below 64 c.partner && c.station < 128

/-- The fields of a class fit their widths (R18). -/
def ClassCfg.wellFormed (c : ClassCfg) : Bool :=
  c.lead < 32 && c.strike < 512 && c.relock < 64 && c.heldOpen < 1024 && c.limit < 16 && c.traverse < 64

/-- The fields of an occupancy record fit their widths (R82). -/
def OccRec.wellFormed (r : OccRec) : Bool :=
  r.person < 65536 && r.zone < 32 && r.entered ≤ Config.secondsTop && r.zoneEntered ≤ Config.secondsTop &&
    below 65536 r.grant

/-- The thresholds of a channel fit their widths (R106). -/
def Channel.wellFormed (c : Channel) : Bool := c.floor < 1024 && c.alert < 1024 && c.fire < 1024 && c.hyst < 64

/-- The configuration of an agent fits its widths (R106). -/
def AgentCfg.wellFormed (c : AgentCfg) : Bool :=
  below 32 c.top && below 128 c.station && c.db < 128 && c.margin < 64 && c.dmax < 1024 && c.confirm < 64 &&
    c.soak < 256 && c.ch1.wellFormed && c.ch2.wellFormed

/-- The terms of a logic table fit their widths (R113). -/
def LogicCfg.wellFormed (c : LogicCfg) : Bool :=
  c.terms.length ≤ Config.maxTerms && c.terms.all (fun t => t.target < 32 && t.a < 32 && t.b < 32) &&
    c.alertSel < 32 && c.releaseSel < 32

/-- Damage names a key that its table can hold, and leaves fields that fit their widths (R181; log entry 5). -/
def Damage.wellFormed : Damage → Bool
  | .person k c => 1 ≤ k && k < 65536 && c.wellFormed
  | .grant k c => 1 ≤ k && k < 65536 && c.wellFormed
  | .zone k c => 1 ≤ k && k < 32 && c.wellFormed
  | .door k c => k < 48 && c.wellFormed
  | .cls k c => k < 8 && c.wellFormed
  | .occupancy k r => k < 256 && r.wellFormed
  | .agent k c => k < 8 && c.wellFormed
  | .logic k c => k < 8 && c.wellFormed
  | .route k c => k < 32 && c.cls < 4
  | .routeLimit n => n < 64
  | .alarm k => k < 64
  | .station k c => 1 ≤ k && k ≤ 96 && c.bound < 64
  | .calendar => true
  | .classMask => true
  | .holdSet c => c < 4
  | .marker => true
  | .markerCheck => true

/-- A command that something outside the part could send. -/
def Instr.wellFormed : Instr → Bool
  | .lookup r | .list r | .insert r | .amend r | .retire r => r.wellFormedRecord
  | .freeze r | .thaw r | .sweepClear r | .hoursOverride r | .remoteRelease r | .lockoutOn r | .lockoutOff r
  | .isolate r | .deisolate r | .ventClear r | .nextNotice r | .acknowledge r | .restore r | .setMask r | .setClock r
  | .status r | .commission r | .ackRestart r | .restart r => r.wellFormed
  | .unknownRequest frame => commandOfFrame frame = .unknownRequest frame
  | .hostWriteOverrun | .hostRead | .poll | .goodReport _ | .replyWindowExpiry | .waitExpired | .calendarAdvance => true
  | .leadExpiry d | .strikeTimerExpiry d | .heldOpenExpiry d | .relockHoldExpiry d | .interlockTimeout d | .exitDue d
  | .indicationReturn d | .pairWindowExpiry d => d < 48
  | .dwellDeadline i | .checkinDeadline i | .pairGraceDeadline i => i < 256
  | .countdownDeadline a | .confirmationDeadline a => a < 8
  | .recordCheckSweep ds | .resetLine ds | .mainSupplyDip _ ds | .mainSupplyRestored _ ds => ds.all Damage.wellFormed

end Sys2Proof
end

