-- ==== Sys2Proof/Certificates/Slice0/Obligations.lean ====
section
/-! DEFINITION. The statements for the provers. Each says which rule of spec/ it follows. A statement that says where a
command completes gives the whole next state: the records that the command itself changes, and then `finish`, the end
of the command, whose own effect `FinishFollowsOwners` gives. A request is answered by `answeredOk` or `answeredNo`
(Safety.lean), which say what the response carries. Where a command reads the tables first (R181), the statement speaks
of `s.asked` or `s.readTables`, the part as it is then read: `FailedChecksFound` says that this is the part itself, the
transaction apart, while every stored item agrees with its check value, and what is found otherwise. -/

section
open Sys2Proof Sys2Proof.Machine

/-! ## The queue, the frames and the whole part -/

/-- A step takes the command at the front of the queue and runs it on the state with the queue's rest
(95_what_each_step_holds.md). That commands wait in a queue is the model's (log entry 1). -/
def Obligations.StepTakesFront : Prop :=
  ∀ (i : Instr) (rest : List Instr) (s : State), step (s.setPending (i :: rest)) = exec i (s.setPending rest)

/-- On an empty queue 10 ms pass: the time base rises inside its second, the tables are read, and a station stands in
the safety lane and in the door lane by the conditions of R163, those that stay in their order before those that join;
nothing else changes. The idle tick is the model's choice (log entry 3), and so are the reading at it (log entry 5) and
the ascending order of the stations that join together (log entry 8). -/
def Obligations.IdleTick : Prop :=
  ∀ s : State, s.pending = [] →
    let u := (s.setRet { s.ret with base := if s.ret.base % 100 = 99 then s.ret.base else s.ret.base + 1 }).readTables
    let joined := fun (holds : Nat → Bool) (lane : List Nat) =>
      lane.filter holds ++ u.link.stations.keys.filter (fun k => holds k && !lane.contains k)
    step s = .next (u.setLink { u.link with
      safetyLane := joined (fun a => u.safetyHolds a) u.link.safetyLane
      doorLane := joined (fun a => u.doorHolds a) u.link.doorLane })

/-- The bytes of a well-formed request command are read back as that command, and no byte of a write transaction is
lost: the command that a frame is read as has that very frame, be it a request or an unknown one (R170, R184). -/
def Obligations.FrameRoundTrip : Prop :=
  (∀ i : Instr, i.wellFormed = true → (codeOf i).isSome = true → commandOfFrame (frameOfCommand i) = i) ∧
  (∀ bs : List Byte, frameOfCommand (commandOfFrame bs) = bs)

/-- The bytes of a report are read back as that report by its station's address and kind, and two messages that differ
in one byte have different check values (R160, R162, R186). -/
def Obligations.ReportRoundTrip : Prop :=
  (∀ (k : StationKind) (address : Nat) (r : Report), address < 256 → reportFits k r →
    readReport k address (writeReport address r) = some r) ∧
  (∀ (before after : List Byte) (x y : Byte), x ≠ y → crc (before ++ x :: after) ≠ crc (before ++ y :: after))

/-- What a cold start leaves (R179): empty tables, reset classes (R18), reset agents (R106, R107), reset logic (R115),
the route table of R136, one CLOCK_UNSET record, running seconds 0, the calendar unset, STANDBY, an idle Host Port with
an empty buffer and the reset-seen flag set. It meets every invariant that the steps are said to keep: canonical
tables, a legal clock, one sound record a person (R83), one open alarm a kind and subject (R138), DURESS of class 0
(R136), and the laws of R19, R27, R75, R83, R117, R119 and of the check values (R178). -/
def Obligations.ColdStartState : Prop :=
  (State.reset.door.doors = [] ∧ State.reset.adm.persons = [] ∧ State.reset.adm.grants = [] ∧
  State.reset.adm.waits = [] ∧ State.reset.occ.zones = [] ∧ State.reset.occ.recs = [] ∧
  State.reset.link.stations = [] ∧ State.reset.link.exchange = none ∧
  (∀ c < 8, State.reset.classRec c =
    { cfg := { lead := 5, strike := 50, relock := 10, heldOpen := 30, limit := 10, traverse := 8 } }) ∧
  (∀ a < 8, State.reset.agent a =
    { cfg := { top := none, station := none, db := 30, margin := 15, dmax := 180, confirm := 30, soak := 60,
               ch1 := { floor := 16, alert := 400, fire := 700, hyst := 20 },
               ch2 := { floor := 16, alert := 400, fire := 700, hyst := 20 } }
      state := .unconfigured, cw := 0x00020000#32 }) ∧
  (∀ a < 8, State.reset.logicRec a = { cfg := { terms := resetTerms, alertSel := 20, releaseSel := 25 } }) ∧
  State.reset.alm.routes = resetRoutes ∧
  (∃ r, State.reset.alm.recs = [(0, r)] ∧ r.kind = some .clockUnset ∧ r.subject = some (.zone 0) ∧ r.state = .raised) ∧
  State.reset.alm.limit = 23 ∧ State.reset.alm.mask = 0#4 ∧ State.reset.alm.holds = [] ∧
  State.reset.ret.now = 0 ∧ State.reset.ret.calendar = none ∧ State.reset.ret.active = false ∧
  State.reset.host.port = .idle ∧ State.reset.host.buffer = none ∧ State.reset.host.resetSeen = true ∧
  State.reset.host.overrun = false) ∧
  (State.reset.Sound ∧ State.reset.CyclesFit ∧ State.reset.PairsLawful ∧ State.reset.HeldHasNone ∧
  State.reset.PersonsExist ∧ State.reset.TimesFit ∧ State.reset.checksAgree = true)

/-! ## What every step keeps -/

/-- Every step keeps the part sound: canonical tables (R1, R15, R42, R50, R82, R135, R155), clock and calendar in their
ranges (R182), no two sound occupancy records of one person (R83), no two open ordinary alarm records of one kind and
subject (R138), and every DURESS record of class 0 (R136, R137). -/
def Obligations.StepKeepsSound : Prop := ∀ s t : State, s.Sound → step s = .next t → t.Sound

/-- Every step keeps the law of R19: a door has a cycle in every state but SECURED and UNKNOWN, and holds its pair's
right in RELEASING, RELEASED, OPEN, HELD and RELOCKING only. Every step without damage to the tables keeps the law of
R27: of the two doors of a vestibule pair at most one is in RELEASING or RELEASED, and that door holds the pair's open
right; never do both hold it. -/
def Obligations.StepKeepsDoorLaws : Prop :=
  (∀ s t : State, s.TablesRising → s.CyclesFit → step s = .next t → t.CyclesFit) ∧
  (∀ s t : State, s.TablesRising → s.CyclesFit → s.PairsLawful → (∀ i ∈ s.pending.head?, undamaging i = true) →
    step s = .next t → t.PairsLawful)

/-- Every step without damage to the tables keeps the law of R75: a zone that is HELD has no pair wait and no pending
ENTRY passage into it. -/
def Obligations.StepKeepsHeldEmpty : Prop :=
  ∀ s t : State, s.TablesRising → s.HeldHasNone → (∀ i ∈ s.pending.head?, undamaging i = true) →
    step s = .next t → t.HeldHasNone

/-- Every step keeps the law of R83 that a sound occupancy record names a person record that exists, with the pending
ENTRY passages and pair waits that R47 protects for it. -/
def Obligations.StepKeepsPersons : Prop :=
  ∀ s t : State, s.TablesRising → s.PersonsExist → step s = .next t → t.PersonsExist

/-- Every step keeps an agent's times to its state: a countdown has a deadline not later than its bound, and within one
opening countdown the deadline never moves later (R117); a hold keeps its times; the discharge flag is set in DISCHARGE
only (R119). The premises on the tables and on DURESS records, which have class 0 (R136), are kept by every step too
(`StepKeepsSound`). -/
def Obligations.StepKeepsTimes : Prop :=
  ∀ s t : State, s.TablesRising → s.DuressFirst → s.TimesFit → step s = .next t → t.TimesFit ∧
    ∀ a, (s.agent a).state = .countdown → (t.agent a).state = .countdown →
      (s.agent a).kind = .opening → (t.agent a).kind = .opening →
      ∃ dl dl', (s.agent a).deadline = some dl ∧ (t.agent a).deadline = some dl' ∧ dl' ≤ dl

/-- The check values (R178, R181): a step without damage leaves every stored item of every table, and the retention
marker, in agreement with its check value when all were so before. A reading of the tables leaves none that disagrees
but for the person and grant records, which are found at their own reads, and the marker; the full check of a warm
restart leaves none in any table (R180). When the tables are read is the model's (log entry 5). -/
def Obligations.StepKeepsChecks : Prop :=
  (∀ s t : State, s.checksAgree = true → (∀ i ∈ s.pending.head?, undamaging i = true) → step s = .next t →
    t.checksAgree = true) ∧
  (∀ s : State, s.TablesRising → s.readTables.intact = true) ∧
  (∀ s : State, s.TablesRising → s.ret.markerCheck = true → s.warmRestart.checksAgree = true) ∧
  (∀ s : State, s.checksAgree = true ↔ s.intact = true ∧
    (∀ p ∈ s.adm.persons, p.2.checkOk = true ∨ p.2.suspect = true) ∧
    (∀ p ∈ s.adm.grants, p.2.checkOk = true ∨ p.2.suspect = true) ∧ s.ret.markerCheck = true)

/-- A zone's verified flag becomes TRUE only through SWEEP_CLEAR of that zone (R91). -/
def Obligations.VerifiedOnlyBySweep : Prop :=
  ∀ (i : Instr) (s t : State) (z : Nat) (r r' : ZoneRec), exec i s = .next t → s.zone? z = some r →
    r.verified = false → t.zone? z = some r' → r'.verified = true →
    ∃ q : Req, i = .sweepClear q ∧ keyIn 1 1 31 q = some z

/-! ## The end of a command, and the reading of the tables -/

/-- The end of every command, and of each event inside one: a zone that is REQUESTED with nothing in flight becomes
HELD (R75); the Release Unit takes the changed inputs (`InputsEvaluate`, `HoldAndGate`; with no agent configured it
has none); then each station's desired outputs are those of its owner, its token advancing by 1 modulo 8 where they
differ (R165): the strike for the cycle's time in RELEASED (R19) with the indication (R35), the zone's resolved
sounder (EVACUATE while its covering agent is in COUNTDOWN, ABORT_HELD, OCCUPIED_HOLD or DISCHARGE, and else the
highest sounder of the RAISED and NOTIFIED records with that zone, DURESS apart, or OFF, R149), the discharge flag
with the pattern of R109, or the Reset values at a station that serves nothing (R157); and the safety and door lanes
stand by the conditions of R163. The Release Unit takes its inputs in rounds, each agent's inputs first and then each
agent's hold and gate, until a round changes no agent (R112, R114, R125, R126). The model's are: the order of all
these (log entry 1), the rounds, their bound and the inputs before the hold and gate (log entry 21), the ascending
order of agents and of stations that join a lane together (log entry 8), the one advance of a token at the end of an
event (log entry 13), the covering agent of a zone under two (log entry 46), and that an agent station with no poll on
record is due at once (log entry 64). -/
def Obligations.FinishFollowsOwners : Prop :=
  (∀ s : State,
    let held := s.setOcc { s.occ with zones := s.occ.zones.map (fun p =>
      (p.1, { p.2 with freeze := if p.2.freeze = .requested ∧ s.inFlight p.1 = 0 then .held else p.2.freeze })) }
    let u := held.settle
    let v := u.setLink { u.link with stations := u.link.stations.map (fun p => (p.1,
      if u.ownerOutputs p.1 p.2 = p.2.desired then p.2
      else { p.2 with desired := u.ownerOutputs p.1 p.2, token := (p.2.token + 1) % 8 })) }
    let joined := fun (holds : Nat → Bool) (lane : List Nat) =>
      lane.filter holds ++ v.link.stations.keys.filter (fun k => holds k && !lane.contains k)
    s.finish = v.setLink { v.link with
      safetyLane := joined (fun a => v.safetyHolds a) v.link.safetyLane
      doorLane := joined (fun a => v.doorHolds a) v.link.doorLane } ∧
    (s.NoAgents → u = held) ∧ s.conclude = s.finish) ∧
  (∀ s : State, s.settle = State.settleLoop 32 0x0003BC00#32 s) ∧
  (∀ (s : State) (mask : BitVec 32) (n : Nat),
    let agents : List Nat := [0, 1, 2, 3, 4, 5, 6, 7]
    let t := agents.foldl (fun v a => v.readGate a) (agents.foldl (fun v a => State.rereadAgent mask v a) s)
    State.settleLoop 0 mask s = s ∧
    State.settleLoop (n + 1) mask s = if t.rel.agents = s.rel.agents then t else State.settleLoop n 0x0003BC00#32 t) ∧
  (∀ (s : State) (a : Nat) (st : StationRec),
    (s.serves a st = false → s.ownerOutputs a st = resetOutputs st.cfg.kind) ∧
    (s.serves a st = true →
      (st.cfg.kind = .zone → s.ownerOutputs a st = .zone (s.sounderOf st.cfg.bound)) ∧
      (st.cfg.kind = .agent → s.ownerOutputs a st =
        .agent (s.agent st.cfg.bound).flag (match (s.agent st.cfg.bound).state with
          | .countdown | .abortHeld | .occupiedHold | .discharge => .evacuate
          | .discharged => .agentPresent
          | _ => .off)) ∧
      (st.cfg.kind = .door → ∀ d c, s.door? st.cfg.bound = some d → d.cycle = some c → s.ownerOutputs a st =
        .door (if d.state = .released then c.vals.strike else 0) d.indication))) ∧
  (∀ (s : State) (z : Nat),
    let released := ∃ a, s.coveringAgent z = some a ∧ ((s.agent a).state = .countdown ∨ (s.agent a).state = .abortHeld ∨
      (s.agent a).state = .occupiedHold ∨ (s.agent a).state = .discharge)
    let asks := fun (r : AlarmRec) => r.zone = some z ∧ (r.state = .raised ∨ r.state = .notified) ∧ r.kind ≠ some .duress
    let rank := fun (x : Sounder) =>
      match x with | .off => 0 | .steady => 1 | .slow => 2 | .fast => 3 | .evacuate => 4
    (released → s.sounderOf z = .evacuate) ∧
    (¬ released →
      (s.sounderOf z = .off ∨ ∃ n r, (n, r) ∈ s.alm.recs ∧ asks r ∧ r.sounder = s.sounderOf z) ∧
      (∀ n r, (n, r) ∈ s.alm.recs → asks r → rank r.sounder ≤ rank (s.sounderOf z)))) ∧
  (∀ (s : State) (a : Nat) (st : StationRec), s.station? a = some st →
    (s.safetyHolds a = true ↔ st.suspect = false ∧ s.inExchange a = false ∧ st.cfg.kind = .agent ∧
      ((State.inRelease (s.agent st.cfg.bound).state = true ∧ ∀ t, st.lastPoll = some t → t + 25 ≤ s.ret.base) ∨
        flagIn st.desired ≠ sentFlag st)) ∧
    (s.doorHolds a = true ↔ st.suspect = false ∧ s.inExchange a = false ∧ st.link ≠ .silent ∧
      st.echo ≠ some st.token))

/-- The tables are read (R181). While every item but the person and grant records agrees with its check value nothing
changes. Otherwise each such record that fails is suspect with its content as stored, the route entries and the route
limit among them, a failed calendar is unset, a failed class mask empty and a failed alarm record discarded, counted
in class 0 (R153), and the owners are then told: a zone becomes a child of zone 0 where its stored parent does not
lead there (R14), and an occupancy record raises RECORD_SUSPECT and leaves its zone unverified, or every zone where it
is unplaced (R104). A person or grant record is not found so, but at its own read: one that fails is suspect and
RECORD_SUSPECT is raised for it (R43, R57). That one reading finds every failure outside those two tables, and the
order of the effects, are the model's (log entry 5), and so is the place of a failed zone, decided by the parents in
use as it fails and then kept (log entry 37), and that a serving ends or begins where a door or agent found suspect
stores another station address (log entry 84). -/
def Obligations.FailedChecksFound : Prop :=
  ∀ s : State,
    (s.intact = true → s.readTables = s) ∧
    (s.intact = false → s.readTables = ((((s.markFailed).tellFailed s).syncEntries.conclude).recomputeFor
      ((s.occ.recs.filter (fun p => !p.2.checkOk)).map (fun p => p.2.zone))).finish) ∧
    (∀ d, s.markFailed.door? d = (s.door? d).map (fun r =>
      { r with suspect := r.suspect || !r.checkOk, checkOk := true })) ∧
    (∀ i, s.markFailed.occ? i = (s.occ? i).map (fun r =>
      { r with suspect := r.suspect || !r.checkOk, checkOk := true })) ∧
    (∀ a, s.markFailed.station? a = (s.station? a).map (fun r =>
      { r with suspect := r.suspect || !r.checkOk, checkOk := true })) ∧
    (∀ a, s.markFailed.agent a = { s.agent a with
      suspect := (s.agent a).suspect || !(s.agent a).checkOk, checkOk := true }) ∧
    (∀ c, s.markFailed.classRec c = { s.classRec c with
      suspect := (s.classRec c).suspect || !(s.classRec c).checkOk, checkOk := true }) ∧
    (∀ a, s.markFailed.logicRec a = { s.logicRec a with
      suspect := (s.logicRec a).suspect || !(s.logicRec a).checkOk, checkOk := true }) ∧
    (s.occ.zones.wf = true → ∀ z, (s.markFailed.zone? z).map (fun r => (r.cfg, r.suspect, r.checkOk)) =
      (s.zone? z).map (fun r => (r.cfg, r.suspect || !r.checkOk, true))) ∧
    s.markFailed.ret.calendar = (if s.ret.calendarOk then s.ret.calendar else none) ∧
    s.markFailed.alm.mask = (if s.alm.maskOk then s.alm.mask else 0#4) ∧
    (∀ k, s.markFailed.alm.routeRec k = { s.alm.routeRec k with
      suspect := (s.alm.routeRec k).suspect || !(s.alm.routeRec k).checkOk, checkOk := true }) ∧
    s.markFailed.alm.limitSuspect = (s.alm.limitSuspect || !s.alm.limitOk) ∧ s.markFailed.alm.limitOk = true ∧
    (s.alm.recs.wf = true → ∀ n r, n < 60 → s.alm.recs.find n = some r →
      s.markFailed.alm.recs.find n = if r.checkOk then some r else none) ∧
    (∀ n r, n < 60 → s.alm.recs.find n = some r → s.alm.fail s.now n = (s.alm.remove n).count s.now 0 true) ∧
    (∀ k r, s.person? k = some r → s.testPerson k = if r.checkOk = true ∨ r.suspect = true then s
      else (s.putPerson k { r with suspect := true }).raise .recordSuspect (.record .person k) none none) ∧
    (∀ k r, s.grant? k = some r → s.testGrant k = if r.checkOk = true ∨ r.suspect = true then s
      else (s.putGrant k { r with suspect := true }).raise .recordSuspect (.record .grant k) none none) ∧
    (∀ k r, s.zone? k = some r → r.checkOk = false → (s.markZone k).zone? k = some { r with
      suspect := true, checkOk := true, orphan := !State.reachesRoot s.occ.zones k 33 r.cfg.parent }) ∧
    (∀ i r, s.tellOcc (i, r) = (let v := s.raise .recordSuspect (.record .occupancy i) none none
      if (s.zone? r.zone).isSome then v.markUnverified r.zone
      else v.occ.zones.keys.foldl (fun t z => t.markUnverified z) v))

/-! ## The Host Port -/

/-- A read transaction returns the held response and empties the buffer; with none held the part answers EMPTY and
keeps its state; a write that ends while the port is BUSY or STARTING is discarded and sets the overrun flag, be it a
request, an unknown frame or a bare overrun (R168). A frame that fails check 1 or 2 of R170 is answered UNKNOWN_REQUEST
with its tag, and changes nothing else; a request in which a field id occurs twice is answered BAD_VALUE and changes
nothing else, whatever the request (R170 check 3). That State records the bytes returned is the model's choice (log
entry 6), that HOST_WRITE_OVERRUN sets the flag in every state of the port is log entry 11, and the tag of a frame too
short to hold one is a free value (log entry 7). -/
def Obligations.HostTransactions : Prop :=
  ((∀ (s : State) (p : Response), s.host.port = .answered → s.host.buffer = some p →
    exec .hostRead s = .next (s.setHost { s.host with port := .idle, buffer := none, line := writeResponse p })) ∧
  (∀ s : State, s.host.port ≠ .answered →
    let p : Response := { tag := 0#8, status := .empty, overrun := s.host.overrun, notice := s.alm.noticeLine,
                          resetSeen := s.host.resetSeen, clamped := false, fields := [] }
    exec .hostRead s = .next (s.setHost { s.host with line := writeResponse p })) ∧
  (∀ s : State, exec .hostWriteOverrun s = .next (s.setHost { s.host with overrun := true })) ∧
  (∀ (i : Instr) (s : State), (codeOf i).isSome = true ∨ (∃ f, i = .unknownRequest f) → s.portTakes = false →
    exec i s = .next (s.setHost { s.host with overrun := true }))) ∧
  ((∀ (s : State) (a tag : Byte) (rest : List Byte), s.portTakes = true →
    exec (.unknownRequest (a :: tag :: rest)) s = .next (s.writeTaken.answeredNo tag .unknownRequest)) ∧
  (∀ (s : State) (f : List Byte), f.length < 2 → s.portTakes = true →
    exec (.unknownRequest f) s =
      .next ((s.writeTaken.setFree (s.free + 1)).answeredNo (Config.freeTag s.free) .unknownRequest)) ∧
  (∀ (i : Instr) (code : Nat) (r : Req) (s : State), codeOf i = some (code, r) →
    (isRecordCode code = true → (tableOf r.table).isSome = true) → ¬ (ids r.fields).Nodup → s.portTakes = true →
    exec i s = .next (s.writeTaken.answeredNo r.tag .badValue)))

/-- Reads. LOOKUP, LIST and STATUS are answered with a next state whatever they carry, and change no door, occupancy
record, zone, agent, station, clock or queue from those of the part as it is read; on every table but PERSON and GRANT,
and for STATUS, they change no alarm, person or grant either. On those two a read may find a failed record (R181). What
a reading finds elsewhere is found before the answer, which is the model's (log entry 5). LOOKUP of a configured zone
answers its image, with status SUSPECT when the record is suspect (R7, R174); LIST answers zone 0 with no cursor, the
next configured zone above a cursor, and EMPTY after the last (R7, R172). The field id of the key in an image is the
model's (log entry 27), and so is the pair-rule byte (log entry 9). -/
def Obligations.ReadRequests : Prop :=
  (∀ (i : Instr) (r : Req) (s : State), i = .lookup r ∨ i = .list r ∨ i = .status r →
    ∃ t u, exec i s = .next t ∧ (u = s ∨ u = s.asked) ∧
      t.door = u.door ∧ t.occ = u.occ ∧ t.rel = u.rel ∧ t.link = u.link ∧ t.ret = u.ret ∧
      t.free = u.free ∧ t.pending = u.pending ∧ t.adm.waits = u.adm.waits ∧
      (i = .status r ∨ (tableOf r.table ≠ some .person ∧ tableOf r.table ≠ some .grant) →
        t.alm = u.alm ∧ t.adm = u.adm)) ∧
  (∀ (s : State) (tag : Byte) (z : Nat) (r : ZoneRec), s.portTakes = true → 1 ≤ z → z ≤ 31 → s.asked.zone? z = some r →
    exec (.lookup (tableReq tag .zone 1 z [])) s = .next (s.asked.respond tag
      { status := if r.suspect then .suspect else .ok, fields := zoneImage s.asked z r })) ∧
  (∀ (s : State) (tag : Byte), s.portTakes = true →
    exec (.list { tag := tag, table := 4#8 }) s = .next (s.asked.respond tag (okWith [fldN 1 1 0]))) ∧
  (∀ (s : State) (tag : Byte) (c z : Nat) (r : ZoneRec), s.portTakes = true → s.asked.occ.zones.wf = true → c < z →
    z ≤ 31 → s.asked.zone? z = some r → (∀ y, c < y → y < z → s.asked.zone? y = none) →
    exec (.list (tableReq tag .zone 1 c [])) s = .next (s.asked.respond tag
      { status := if r.suspect then .suspect else .ok, fields := zoneImage s.asked z r })) ∧
  (∀ (s : State) (tag : Byte) (c : Nat), s.portTakes = true → s.asked.occ.zones.wf = true → c ≤ 31 →
    (∀ y, c < y → s.asked.zone? y = none) →
    exec (.list (tableReq tag .zone 1 c [])) s = .next (s.asked.respond tag (refusedWith .empty)))

/-! ## Records -/

/-- INSERT of a person with a free number and a credential that no record holds makes the record with that credential
and the default fields, and answers OK with the number (R42, R45). RETIRE of a grant removes the record, marks every
pending passage and pair wait that names the number, ends RECORD_SUSPECT for it, and answers OK with the number (R54).
That INSERT tests no record of another credential is log entry 38, and that RETIRE does not test the record it removes
is log entry 50. The tables are read first (log entry 5). -/
def Obligations.PersonAndGrantRecords : Prop :=
  (∀ (s : State) (tag : Byte) (k c : Nat), s.portTakes = true → 1 ≤ k → k ≤ 65535 → 1 ≤ c → c ≤ 4294967295 →
    let u := s.asked
    u.person? k = none → (∀ p ∈ u.adm.persons, p.2.cfg.credential ≠ c) → u.adm.persons.length < Config.maxPersons →
    exec (.insert (tableReq tag .person 2 k [fld 2 (toBE 4 c)])) s =
      .next ((u.putPerson k { cfg := { credential := c } }).answeredOk tag [fldN 0 2 k])) ∧
  (∀ (s : State) (tag : Byte) (n : Nat) (g : GrantRec), s.portTakes = true → 1 ≤ n → n ≤ 65535 →
    let u := s.asked
    u.grant? n = some g →
    exec (.retire (tableReq tag .grant 2 n [])) s =
      .next ((((u.setAdm { u.adm with grants := u.adm.grants.del n }).setDoor
        { u.door with doors := u.door.doors.map (fun q => (q.1, State.markDoor n q.2)) }).endAlarm .recordSuspect
          (.record .grant n)).answeredOk tag [fldN 0 2 n]) ∧
    ∀ d : DoorRec, State.markDoor n d = { d with
      cycle := d.cycle.map (fun c => { c with passages := c.passages.map (fun x =>
        if x.dir = .entry ∧ x.grant = some n then { x with retiredGrant := true } else x) })
      pairWait := d.pairWait.map (fun w => if w.grant = some n then { w with retiredGrant := true } else w) })

/-- The fixed tables. AMEND of a class stores a strike time outside 10..300 as the nearer end and says so by the
CLAMPED flag (R18, R173). AMEND of a route entry other than 0 stores its class (R136), and of the route limit, under
key 32, the limit (R137), and while it is suspect answers SUSPECT unless the AMEND carries it (R153, R174). AMEND of a
logic selector is WRONG_STATE during a release, and else stored; one evaluation follows, whose outputs act (R113), at
an agent that is configured and sound. At a suspect agent, whose logic stops (R132), and at one rewritten while
suspect, whose logic waits for its next report (R132), none is made, which is the model's reading (log entries 14 and
15). In each the other values of the record stay. The tables are read first (log entry 5). -/
def Obligations.FixedTablesAmend : Prop :=
  ∀ (s : State) (tag : Byte), s.portTakes = true →
    let u := s.asked
    (∀ k n, k ≤ 7 → n ≤ 65535 → (u.classRec k).suspect = false →
      exec (.amend (tableReq tag .cls 1 k [fld 3 (toBE 2 n)])) s =
        .next ((u.putClass k { cfg := { (u.classRec k).cfg with strike := max 10 (min 300 n) } }).answeredWith
          tag { status := .ok, fields := [fldN 0 1 k], clamped := n < 10 || 300 < n })) ∧
    (∀ k n, 1 ≤ k → k ≤ 31 → n ≤ 3 → (u.alm.routeRec k).suspect = false →
      exec (.amend (tableReq tag .route 1 k [fldN 2 1 n])) s =
        .next ((u.setAlm { u.alm with
          routes := u.alm.routes.setIfInBounds k { cfg := { (u.alm.routeRec k).cfg with cls := n } } }).answeredOk tag
            [fldN 0 1 k])) ∧
    (∀ n, 1 ≤ n → n ≤ 32 → u.alm.limitSuspect = false →
      exec (.amend (tableReq tag .route 1 32 [fldN 5 1 n])) s =
        .next ((u.setAlm { u.alm with limit := n, limitSuspect := false, limitOk := true }).answeredOk tag
          [fldN 0 1 32])) ∧
    (u.alm.limitSuspect = true →
      (∀ fs, fs = [] ∨ (∃ n, fs = [fldN 2 1 n]) → exec (.amend (tableReq tag .route 1 32 fs)) s =
        .next (u.respond tag { status := .suspect, fields := [fldN 1 1 32, fldN 5 1 u.alm.limit] })) ∧
      (∀ n, 1 ≤ n → n ≤ 32 → exec (.amend (tableReq tag .route 1 32 [fldN 5 1 n])) s =
        .next (((u.setAlm { u.alm with limit := n, limitSuspect := false, limitOk := true }).endAlarm .recordSuspect
          (.record .route 32)).answeredOk tag [fldN 0 1 32]))) ∧
    (∀ a n, a ≤ 7 → n ≤ 31 → (u.logicRec a).suspect = false →
      let v := u.putLogic a { cfg := { (u.logicRec a).cfg with releaseSel := n } }
      exec (.amend (tableReq tag .logic 1 a [fldN 4 1 n])) s = .next
        (match (u.agent a).state with
         | .countdown | .abortHeld | .occupiedHold | .discharge | .discharged => u.answeredNo tag .wrongState
         | .unconfigured => v.answeredOk tag [fldN 0 1 a]
         | .normal | .alert | .spent | .fault =>
           if (u.agent a).suspect = true ∨ (u.agent a).halted = true then v.answeredOk tag [fldN 0 1 a]
           else ((v.evaluate a).actOutputs a (u.agent a).alertOut (u.agent a).releaseOut).answeredOk tag
             [fldN 0 1 a]))

/-- Requests on an occupancy record. INSERT into a HELD sound zone, of a person that no record names, makes a HOST
record in the lowest free slot, with the check-in deadline of R93 and the pair evaluation of R95 (R83, R101). AMEND of
the dwell deadline (R100): a free slot is NOT_FOUND, a suspect record SUSPECT with its image whatever the request
carries (R174), a deadline not later than now BAD_VALUE, a record without one WRONG_STATE, one not later than the
stored BAD_VALUE; else it is stored, OVERDUE is cleared and DWELL_OVERRUN ends. RETIRE in a HELD zone, or in one that
is not configured, frees the slot, ends the person's three occupancy alarms (and RECORD_SUSPECT of a suspect record),
is followed by pair evaluation, and answers OK with the person number (R98, R102); a free slot is NOT_FOUND and a zone
that is not HELD NOT_HELD. An INSERT and a RETIRE are reported to the agents that cover the zone (R118). The order of
the tests of an AMEND is the model's (log entry 30), the field id of the person in an answer (log entry 27), which
zones an INSERT and a RETIRE report (log entry 43), and that no person record is tested to find that it exists (log
entry 50). The tables are read first (log entry 5). -/
def Obligations.OccupancyRequests : Prop :=
  ∀ (s : State) (tag : Byte), s.portTakes = true →
    let u := s.asked
    (∀ p z i zr, 1 ≤ p → p ≤ 65535 → 1 ≤ z → z ≤ 31 → (u.person? p).isSome = true → u.zone? z = some zr →
      zr.suspect = false → zr.freeze = .held → (∀ q ∈ u.occ.recs, q.2.person ≠ p) → i < 256 → u.occ? i = none →
      (∀ j < i, (u.occ? j).isSome = true) →
      exec (.insert { tag := tag, table := 3#8, fields := [fldN 2 2 p, fldN 3 1 z] }) s =
        .next (((((u.putOcc i {
            person := p, zone := z, entered := u.now, zoneEntered := u.now, basis := .host
            checkin := if zr.hours = .after ∧ zr.cfg.checkin ≠ 0 then some (u.now + zr.cfg.checkin * 60) else none
            }).pairEvaluateSince u).settle).recomputeFor [z]).answeredOk tag [fldN 0 1 i])) ∧
    (∀ k t, k ≤ 255 → t ≤ Config.secondsTop →
      exec (.amend (tableReq tag .occupancy 1 k [fld 4 (toBE 4 t)])) s = .next
        (match u.occ? k with
         | none => u.answeredNo tag .notFound
         | some r =>
           if r.suspect then u.respond tag { status := .suspect, fields := occImage k r }
           else if t ≤ u.now then u.answeredNo tag .badValue
           else match r.dwell with
             | none => u.answeredNo tag .wrongState
             | some d =>
               if t ≤ d then u.answeredNo tag .badValue
               else ((u.putOcc k { r with dwell := some t, overdue := false }).endAlarm .dwellOverrun
                 (.person r.person)).answeredOk tag [fldN 0 1 k])) ∧
    (∀ k r, k ≤ 255 → u.occ? k = some r → r.suspect = true → exec (.amend (tableReq tag .occupancy 1 k [])) s =
      .next (u.respond tag { status := .suspect, fields := occImage k r })) ∧
    (∀ k, k ≤ 255 →
      exec (.retire (tableReq tag .occupancy 1 k [])) s = .next
        (match u.occ? k with
         | none => u.answeredNo tag .notFound
         | some r =>
           if u.zoneHeld r.zone = false then u.answeredNo tag .notHeld
           else ((((u.retireRecord k r).pairEvaluateSince u).settle).recomputeFor [r.zone]).answeredOk tag
             [fldN 0 1 k, fldN 2 2 r.person]) ∧
      (∀ r, u.retireRecord k r = (let v := (((u.delOcc k).endAlarm .checkinMissed (.person r.person)).endAlarm .dwellOverrun
          (.person r.person)).endAlarm .pairBroken (.person r.person)
        if r.suspect then v.endAlarm .recordSuspect (.record .occupancy k) else v)))

/-- ZONE records. INSERT of a free number beneath a parent (R3, R8): BAD_VALUE for the zone itself, NOT_FOUND for an
unconfigured parent, SUSPECT for a suspect one, WRONG_STATE when the parent's covering agent is in a release or in
ALERT or FAULT; else the zone is made with the default fields, HELD and unverified, its hours state by R4, and
UNVERIFIED_ZONE is raised. AMEND of the capacity of a sound zone stores it and keeps all else (R10), and of a suspect
zone, which does not carry every field, answers SUSPECT with the stored fields (R14, R174). RETIRE (R12): NOT_FOUND,
IN_USE while a door, child, agent or zone station names the zone, IN_ZONE while it holds records or reservations,
WRONG_STATE unless it is HELD; else the record goes and the alarms with that subject are withdrawn. The tables are read
first (log entry 5). -/
def Obligations.ZoneRecords : Prop :=
  ∀ (s : State) (tag : Byte) (k : Nat), s.portTakes = true → 1 ≤ k → k ≤ 31 →
    let u := s.asked
    (∀ p, u.zone? k = none → u.zone? 0 = none → p ≤ 31 →
      exec (.insert (tableReq tag .zone 1 k [fldN 2 1 p])) s = .next
        (if p = k then u.answeredNo tag .badValue
         else if p ≠ 0 ∧ u.zone? p = none then u.answeredNo tag .notFound
         else if (u.zone? p).map (fun q => q.suspect) = some true then u.answeredNo tag .suspect
         else if ∃ a ∈ u.coveringAgent p, (u.agent a).state ≠ .normal ∧ (u.agent a).state ≠ .unconfigured ∧
             (u.agent a).state ≠ .spent then u.answeredNo tag .wrongState
         else ((u.putZone k { cfg := { parent := p }, hours := computeHours u.ret.calendar { parent := p }, freeze := .held,
                              entry := .opened, verified := false }).raise .unverifiedZone (.zone k) (some k)
           none).answeredOk tag [fldN 0 1 k])) ∧
    (∀ r n, u.zone? k = some r → n ≤ 255 →
      exec (.amend (tableReq tag .zone 1 k [fldN 4 1 n])) s = .next
        (if r.suspect then u.respond tag { status := .suspect, fields := zoneImage u k r }
         else (u.putZone k { r with cfg := { r.cfg with capacity := n }, suspect := false, orphan := false,
                                    checkOk := true }).answeredOk tag [fldN 0 1 k])) ∧
    (exec (.retire (tableReq tag .zone 1 k [])) s = .next
      (match u.zone? k with
       | none => u.answeredNo tag .notFound
       | some r =>
         if u.zoneReferred k then u.answeredNo tag .inUse
         else if u.occupants k ≠ 0 ∨ u.reservations k ≠ 0 then u.answeredNo tag .inZone
         else if r.freeze ≠ .held then u.answeredNo tag .wrongState
         else (let v := (u.setOcc { u.occ with zones := u.occ.zones.del k }).withdraw (.zone k)
               if r.suspect then v.endAlarm .recordSuspect (.record .zone k) else v).answeredOk tag [fldN 0 1 k])) ∧
    (u.zoneReferred k = true ↔ (∃ q ∈ u.door.doors, q.2.cfg.inner = k) ∨
      (∃ z ∈ u.occ.zones.keys, z ≠ k ∧ u.parentOf z = k) ∨ (∃ a, a < 8 ∧ (u.agent a).cfg.top = some k) ∨
      ∃ q ∈ u.link.stations, q.2.cfg = ⟨.zone, k⟩)

/-- DOOR records. INSERT of a free number without a partner (R16): NOT_FOUND, SUSPECT and NOT_HELD by the inner zone;
else the door is made, UNKNOWN. AMEND of the class of a sound door is WRONG_STATE outside SECURED (R17); AMEND of the
partner field of an unpaired door to another unpaired door at rest, whose zones make a vestibule, pairs the two with
the right free (R16, R17), unless the door itself is in RELEASING or RELEASED, which by R19 hold it (the model's
reading, log entry 25). RETIRE (R17): NOT_FOUND, IN_USE for a partner, an egress door or a bound station, WRONG_STATE
unless the door is at rest; else the record goes with its wait-list entries, and its alarms are withdrawn. Serving
follows (R157). That a stored partner counts for IN_USE even where it does not name the door back is log entry 48. The
tables are read first (log entry 5). -/
def Obligations.DoorRecords : Prop :=
  ∀ (s : State) (tag : Byte) (d : Nat), s.portTakes = true → d ≤ 47 →
    let u := s.asked
    (∀ z a, u.door? d = none → 1 ≤ z → z ≤ 31 → 1 ≤ a → a ≤ 96 →
      exec (.insert (tableReq tag .door 1 d [fldN 2 1 z, fldN 5 1 a])) s = .next
        (match u.zone? z with
         | none => u.answeredNo tag .notFound
         | some q =>
           if q.suspect then u.answeredNo tag .suspect
           else if q.freeze ≠ .held then u.answeredNo tag .notHeld
           else ((u.putDoor d { cfg := { inner := z, station := a }, state := .unknown }).syncServing).answeredOk tag
             [fldN 0 1 d])) ∧
    (∀ r n, u.door? d = some r → r.suspect = false → n ≤ 7 → n ≠ r.cfg.cls →
      exec (.amend (tableReq tag .door 1 d [fldN 3 1 n])) s = .next
        (if r.state ≠ .secured then u.answeredNo tag .wrongState
         else ((u.putDoor d { r with cfg := { r.cfg with cls := n }, suspect := false, checkOk := true
           }).syncServing).answeredOk tag [fldN 0 1 d])) ∧
    (∀ r p q, u.door? d = some r → r.suspect = false → r.cfg.partner = none → u.door? p = some q → p ≤ 47 → p ≠ d →
      q.cfg.partner = none → u.vestibule r.cfg.inner q.cfg.inner = true → State.idleDoor q = true →
      exec (.amend (tableReq tag .door 1 d [fldN 4 1 p])) s = .next
        ((((u.putDoor d { r with cfg := { r.cfg with partner := some p }, suspect := false, checkOk := true }).changeDoor p
          (fun x => { x with cfg := { x.cfg with partner := some d }, right := false })).changeDoor d
          (fun x => { x with right := State.releases r })).syncServing.answeredOk tag [fldN 0 1 d])) ∧
    (exec (.retire (tableReq tag .door 1 d [])) s = .next
      (match u.door? d with
       | none => u.answeredNo tag .notFound
       | some r =>
         if r.cfg.partner ≠ none ∨ (∃ p ∈ u.occ.zones, p.2.cfg.egressDoor = some d) ∨
             (∃ q ∈ u.link.stations, q.2.cfg = ⟨.door, d⟩) then u.answeredNo tag .inUse
         else if ¬ (r.state = .secured ∨ r.state = .unknown) ∨ r.cycle ≠ none ∨ r.pairWait ≠ none then
           u.answeredNo tag .wrongState
         else (let v := ((u.setDoor { u.door with doors := u.door.doors.del d }).setAdm
                 { u.adm with waits := u.adm.waits.filter (fun e => e.door != d) }).withdraw (.door d)
               if r.suspect then v.endAlarm .recordSuspect (.record .door d) else v).answeredOk tag [fldN 0 1 d]))

/-- STATION records. INSERT of a free address (R156): for a zone or a door NOT_FOUND and SUSPECT by its record, for a
door or an agent IN_USE while another station is bound to it; else the record is made AWAITING with the Reset outputs,
and serving begins (R157). AMEND of a sound zone station to an agent is IN_USE and then WRONG_STATE by the same tests
(the order is log entry 73), and else taken. AMEND and RETIRE are WRONG_STATE while the bound agent is in COUNTDOWN,
ABORT_HELD, OCCUPIED_HOLD or DISCHARGE; a RETIRE is else taken: the owner takes the end of serving as a silence unless
the station is SILENT already, the record leaves its lanes, a reply of an exchange in progress is ignored, and the
alarms with that subject are withdrawn (R156, R157). A station that comes to serve is AWAITING with missed count 0
(R157). One that no longer serves tells the owner of the object that it served, whatever its record now stores, and a
suspect one is SILENT (R157, R166). The tables are read first (log entry 5). -/
def Obligations.StationRecords : Prop :=
  ∀ (s : State) (tag : Byte) (a : Nat), s.portTakes = true → 1 ≤ a → a ≤ 96 →
    let u := s.asked
    (∀ z, u.station? a = none → 1 ≤ z → z ≤ 31 →
      exec (.insert (tableReq tag .station 1 a [fldN 2 1 1, fldN 3 1 z])) s = .next
        (match u.zone? z with
         | none => u.answeredNo tag .notFound
         | some q =>
           if q.suspect then u.answeredNo tag .suspect
           else ((u.putStation a { cfg := ⟨.zone, z⟩, link := .awaiting, desired := .zone .off }).syncServing).answeredOk
             tag [fldN 0 1 a])) ∧
    (∀ d, u.station? a = none → d ≤ 47 →
      exec (.insert (tableReq tag .station 1 a [fldN 2 1 0, fldN 3 1 d])) s = .next
        (match u.door? d with
         | none => u.answeredNo tag .notFound
         | some q =>
           if q.suspect then u.answeredNo tag .suspect
           else if ∃ p ∈ u.link.stations, p.2.cfg = ⟨.door, d⟩ then u.answeredNo tag .inUse
           else ((u.putStation a { cfg := ⟨.door, d⟩, link := .awaiting, desired := .door 0 .none
             }).syncServing).answeredOk tag [fldN 0 1 a])) ∧
    (∀ n, u.station? a = none → n ≤ 7 →
      exec (.insert (tableReq tag .station 1 a [fldN 2 1 2, fldN 3 1 n])) s = .next
        (if ∃ p ∈ u.link.stations, p.2.cfg = ⟨.agent, n⟩ then u.answeredNo tag .inUse
         else ((u.putStation a { cfg := ⟨.agent, n⟩, link := .awaiting, desired := .agent false .off
           }).syncServing).answeredOk tag [fldN 0 1 a])) ∧
    (∀ r n, u.station? a = some r → r.suspect = false → r.cfg.kind = .zone → n ≤ 7 →
      exec (.amend (tableReq tag .station 1 a [fldN 2 1 2, fldN 3 1 n])) s = .next
        (if ∃ p ∈ u.link.stations, p.1 ≠ a ∧ p.2.cfg = ⟨.agent, n⟩ then u.answeredNo tag .inUse
         else if State.inRelease (u.agent n).state then u.answeredNo tag .wrongState
         else ((u.putStation a { cfg := ⟨.agent, n⟩, link := .awaiting, desired := .agent false .off
           }).syncServing).answeredOk tag [fldN 0 1 a])) ∧
    (∀ r, u.station? a = some r → r.suspect = false →
      r.cfg.kind = .agent ∧ State.inRelease (u.agent r.cfg.bound).state = true →
      exec (.retire (tableReq tag .station 1 a [])) s = .next (u.answeredNo tag .wrongState) ∧
      (∀ z q, u.zone? z = some q → q.suspect = false → 1 ≤ z → z ≤ 31 →
        exec (.amend (tableReq tag .station 1 a [fldN 2 1 1, fldN 3 1 z])) s =
          .next (u.answeredNo tag .wrongState))) ∧
    (∀ r z q, u.station? a = some r → r.suspect = false → r.cfg.kind = .zone → u.zone? z = some q → q.suspect = false →
      1 ≤ z → z ≤ 31 →
      exec (.amend (tableReq tag .station 1 a [fldN 3 1 z])) s =
        .next (((u.putStation a { cfg := ⟨.zone, z⟩, link := .awaiting, desired := .zone .off }).syncServing).answeredOk
          tag [fldN 0 1 a])) ∧
    (∀ r, u.station? a = some r → ¬ (r.cfg.kind = .agent ∧ State.inRelease (u.agent r.cfg.bound).state = true) →
      let v := if u.serves a r = true ∧ r.link ≠ .silent then u.tellSilence r.cfg else u
      let w := v.setLink { v.link with
        stations := v.link.stations.del a, safetyLane := v.link.safetyLane.filter (· != a),
        doorLane := v.link.doorLane.filter (· != a) }
      let x := match w.link.exchange with
        | some e => if e.address = a then w.setLink { w.link with exchange := some { e with void := true } } else w
        | none => w
      let y := x.withdraw (.station a)
      exec (.retire (tableReq tag .station 1 a [])) s =
        .next ((if r.suspect then y.endAlarm .recordSuspect (.record .station a) else y).answeredOk tag [fldN 0 1 a])) ∧
    (∀ r, r.serving = none → u.serves a r = true → u.tellServing (a, r) =
      u.changeStation a (fun st => { st with link := .awaiting, missed := 0, serving := some st.cfg })) ∧
    (∀ r c, r.serving = some c → u.serves a r = false → u.tellServing (a, r) =
      (if r.link = .silent then u else u.tellSilence c).changeStation a (fun st =>
        { st with serving := none, link := if st.suspect then .silent else st.link }))

/-- AGENT records. AMEND of the base delay of a sound agent is WRONG_STATE from COUNTDOWN to DISCHARGED (R108 test 2),
and else stored, the live fields and the state staying. AMEND of top zone and station of a sound UNCONFIGURED agent
(R108): NOT_FOUND, SUSPECT, BAD_VALUE where the coverages would overlap (R13), the stored top zone of a suspect agent
counting as any other (log entry 57), and the evaluation being made before serving begins (log entry 63); else the
agent enters NORMAL, its derived inputs are read, one evaluation is made whose outputs act from FALSE, and it is
re-evaluated (R114, R121, R122). AMEND of a suspect agent that does not carry every field answers SUSPECT with the
stored fields (R132, R174). The tables are read first (log entry 5). -/
def Obligations.AgentRecords : Prop :=
  ∀ (s : State) (tag : Byte) (a : Nat), s.portTakes = true → a ≤ 7 →
    let u := s.asked
    let r := u.agent a
    (∀ n, 10 ≤ n → n ≤ 120 →
      let stored := u.putAgent a { r with cfg := { r.cfg with db := n }, checkOk := true }
      (r.suspect = true → exec (.amend (tableReq tag .agent 1 a [fldN 4 1 n])) s =
        .next (u.respond tag { status := .suspect, fields := agentImage a r })) ∧
      (r.suspect = false → (r.state = .countdown ∨ r.state = .abortHeld ∨ r.state = .occupiedHold ∨ r.state = .discharge ∨
          r.state = .discharged) →
        exec (.amend (tableReq tag .agent 1 a [fldN 4 1 n])) s = .next (u.answeredNo tag .wrongState)) ∧
      (r.suspect = false → (r.state = .normal ∨ r.state = .alert ∨ r.state = .spent ∨ r.state = .fault) →
        r.cfg.top.isSome = true → exec (.amend (tableReq tag .agent 1 a [fldN 4 1 n])) s =
          .next (stored.syncServing.answeredOk tag [fldN 0 1 a])) ∧
      (r.suspect = false → r.state = .unconfigured → r.cfg.top = none →
        exec (.amend (tableReq tag .agent 1 a [fldN 4 1 n])) s =
          .next (stored.syncServing.answeredOk tag [fldN 0 1 a]))) ∧
    (∀ t st, r.suspect = false → r.state = .unconfigured → 1 ≤ t → t ≤ 31 → 1 ≤ st → st ≤ 96 →
      let cfg := { r.cfg with top := some t, station := some st }
      let v := u.putAgent a { cfg := cfg, state := .normal }
      let w := v.putAgent a { cfg := cfg, state := .normal,
                              cw := (0x00020000#32 &&& ~~~derivedMask) ||| (v.derivedWord a &&& derivedMask) }
      exec (.amend (tableReq tag .agent 1 a [fldN 2 1 t, fldN 3 1 st])) s = .next
        (match u.zone? t with
         | none => u.answeredNo tag .notFound
         | some z =>
           if z.suspect then u.answeredNo tag .suspect
           else if ∃ b ∈ State.eight, b ≠ a ∧ ∃ y ∈ (u.agent b).cfg.top,
               u.isUnder t y = true ∨ u.isUnder y t = true then u.answeredNo tag .badValue
           else (((w.evaluate a).actOutputs a false false).reevaluate a).syncServing.answeredOk tag [fldN 0 1 a]))

/-! ## Zones -/

/-- Requests on a zone. FREEZE (R76): a number outside 1..31 is BAD_VALUE and an unconfigured zone NOT_FOUND; a THAWED
zone becomes REQUESTED with admissions in flight and HELD without, another keeps its state, and the answer carries the
state. No other condition is asked. THAW (R79): the zone becomes THAWED, and the wait-list entries of doors into it, in
list order, leave the list and are each decided afresh, but for one that has left the list meanwhile; the answer
carries the freeze state and the number decided. A zone that is THAWED already has none, and one that was never swept
is thawed as any other (log entry 78). HOURS_OVERRIDE (R6): NOT_FOUND for an unconfigured zone and SUSPECT for a
suspect one; else the override is stored, the zone evaluated, and the answer carries the hours state that results. The
field ids of these answers are the model's (log entry 27). The tables are read first (log entry 5). -/
def Obligations.FreezeThawAndHours : Prop :=
  ∀ (s : State) (tag : Byte) (k : Nat), s.portTakes = true →
    let u := s.asked
    (k ≤ 255 → exec (.freeze (keyReq tag k)) s = .next
      (if k = 0 ∨ 31 < k then u.answeredNo tag .badValue
       else match u.zone? k with
         | none => u.answeredNo tag .notFound
         | some r =>
           let f : Freeze := if r.freeze = .thawed then (if u.inFlight k = 0 then .held else .requested) else r.freeze
           (u.putZone k { r with freeze := f }).answeredOk tag [fldN 21 1 (freezeCode f)])) ∧
    (∀ r, 1 ≤ k → k ≤ 31 → u.zone? k = some r →
      let mine := if r.freeze = .thawed then [] else u.adm.waits.filter (fun e =>
        (u.door? e.door).map (fun d => d.cfg.inner) = some k)
      let x := mine.foldl (fun x e => if e ∈ x.1.adm.waits then (x.1.thawOne e, x.2 + 1) else x)
        (u.putZone k { r with freeze := .thawed }, 0)
      exec (.thaw (keyReq tag k)) s = .next (x.1.answeredOk tag [fldN 21 1 (freezeCode .thawed), fldN 240 1 x.2])) ∧
    (∀ o, 1 ≤ k → k ≤ 31 →
      exec (.hoursOverride { tag := tag, key := toBE 1 k, fields := [fldN 1 1 (overrideCode o)] }) s = .next
        (match u.zone? k with
         | none => u.answeredNo tag .notFound
         | some r =>
           if r.suspect then u.answeredNo tag .suspect
           else ((u.putZone k { r with cfg := { r.cfg with override := o } }).evaluateHours k).answeredOk tag
             [fldN 16 1 (hoursCode (computeHours u.ret.calendar { r.cfg with override := o }))])) ∧
    (∀ (v : State) (e : WaitEntry) (c : Nat), e.credential = some c →
      let w := (v.setAdm { v.adm with waits := v.adm.waits.erase e }).resolve c
      v.thawOne e = (w.1.decideEntry e.door (some c) w.2 e.mode w.1.nowTenths).conclude)

/-- SWEEP_CLEAR (R103). The tests 1 to 7 refuse in their order, tests 5 and 6 with the number of the person, the first
in list order by log entry 80: BAD_VALUE for the zone or the list, which is of at most 16 numbers, none 0 and none
twice; NOT_FOUND for the zone; SUSPECT; NOT_HELD; NOT_FOUND for a person without a record; WRONG_STATE for a person
with a record elsewhere; FULL. Else the sweep is taken, and the covering agent's deadline recomputed (R118): every
record of the zone that is suspect, or whose person is not listed, is retired (R98); each listed person without a sound
record in the zone gets one, in list order and the lowest free slot, with basis SWEEP, entered now and the check-in
deadline of R93; the zone is verified, UNVERIFIED_ZONE ends (R91), and the pair evaluation of R95 follows. So the zone
is left verified with a sound record of a listed person in every record of it. The width of field 241 is the model's
(log entry 27), and so are it that no person record is tested to find that it exists (log entry 50) and the deadline's
absence in a suspect zone (log entry 55). The tables are read first (log entry 5). -/
def Obligations.SweepClearTakes : Prop :=
  (∀ (s : State) (tag : Byte) (z : Nat) (v : List Byte), s.portTakes = true → z ≤ 255 →
    let u := s.asked
    let named := fun (c : Status) (p : Nat) => u.respond tag { status := c, fields := [fldN 255 2 p] }
    exec (.sweepClear { tag := tag, key := toBE 1 z, fields := [fld 1 v] }) s = .next
      (match State.sweepList v with
       | none => u.answeredNo tag .badValue
       | some ps =>
         if z = 0 ∨ 31 < z then u.answeredNo tag .badValue
         else match u.zone? z with
           | none => u.answeredNo tag .notFound
           | some r =>
             let out := u.occ.recs.filter (fun q => q.2.zone = z && (q.2.suspect || !ps.contains q.2.person))
             let found := ps.filter (fun p =>
               !u.occ.recs.any (fun q => q.2.person = p && q.2.zone = z && !q.2.suspect))
             if r.suspect then u.answeredNo tag .suspect
             else if r.freeze ≠ .held then u.answeredNo tag .notHeld
             else match ps.find? (fun p => (u.person? p).isNone) with
               | some p => named .notFound p
               | none => match ps.find? (fun p => u.occ.recs.any (fun q => q.2.person = p && q.2.zone != z)) with
                 | some p => named .wrongState p
                 | none =>
                   if (256 - u.occ.recs.length) + out.length < found.length then u.answeredNo tag .full
                   else (let w := (u.sweepZone z ps).settle
                         match w.coveringAgent z with | none => w | some a => w.recompute a).answeredOk tag
                     [fldN 241 2 out.length, fldN 242 1 found.length])) ∧
  (∀ (v : List Byte) (ps : List Nat), State.sweepList v = some ps ↔
    ps.length ≤ 16 ∧ (∀ p ∈ ps, 1 ≤ p ∧ p ≤ 65535) ∧ ps.Nodup ∧ v = (ps.map (fun p => toBE 2 p)).flatten) ∧
  (∀ (s : State) (z : Nat) (ps : List Nat),
    let out := s.occ.recs.filter (fun q => q.2.zone = z && (q.2.suspect || !ps.contains q.2.person))
    let found := ps.filter (fun p => !s.occ.recs.any (fun q => q.2.person = p && q.2.zone = z && !q.2.suspect))
    let cleared := out.foldl (fun v q =>
      let w := (((v.delOcc q.1).endAlarm .checkinMissed (.person q.2.person)).endAlarm .dwellOverrun
        (.person q.2.person)).endAlarm .pairBroken (.person q.2.person)
      if q.2.suspect then w.endAlarm .recordSuspect (.record .occupancy q.1) else w) s
    let made := found.foldl (fun v p => match v.lowestSlot with
      | none => v
      | some i => v.putOcc i { person := p, zone := z, entered := v.now, zoneEntered := v.now, basis := .sweep,
                               checkin := v.checkinFor z }) cleared
    s.sweepZone z ps = ((made.changeZone z (fun r => { r with verified := true })).endAlarm .unverifiedZone
      (.zone z)).pairEvaluate z (s.occupants z)) ∧
  (∀ (s : State) (i : Nat), s.lowestSlot = some i ↔ i < 256 ∧ s.occ? i = none ∧ ∀ j < i, (s.occ? j).isSome = true) ∧
  (∀ (s : State) (z : Nat) (ps : List Nat),
    (∀ r, (s.sweepZone z ps).zone? z = some r → r.verified = true) ∧
    ∀ i x, (i, x) ∈ (s.sweepZone z ps).occ.recs → x.zone = z → x.suspect = false ∧ x.person ∈ ps)

/-- When a zone turns from AFTER to DAY, every record in it loses its check-in and pair-grace deadlines and keeps all
else; the records of other zones, every alarm, count, reservation and verified flag stay, and a dwell deadline there is
held without being taken (R97). -/
def Obligations.DayTurn : Prop :=
  ∀ (s : State) (z : Nat) (r : ZoneRec), s.zone? z = some r → r.suspect = false → r.hours = .after →
    computeHours s.ret.calendar r.cfg = .day →
    (s.evaluateHours z).zone? z = some { r with hours := .day } ∧
    (∀ y, y ≠ z → (s.evaluateHours z).zone? y = s.zone? y) ∧
    (∀ i, (s.evaluateHours z).occ? i = (s.occ? i).map (fun x =>
      if x.zone = z then { x with checkin := none, pairGrace := none } else x)) ∧
    (s.evaluateHours z).alm = s.alm ∧ (s.evaluateHours z).door = s.door ∧
    (∀ y, (s.evaluateHours z).occupants y = s.occupants y ∧ (s.evaluateHours z).reservations y = s.reservations y) ∧
    (∀ i x, (s.evaluateHours z).occ? i = some x → x.zone = z →
      (s.evaluateHours z).takeDwell i = s.evaluateHours z)

/-- The window arithmetic (R55): with s < e the minutes from s to before e lie inside, with s > e those from s or
before e, with s = e all; a window from 480 to 1080 holds 600 minutes; two windows that meet, wrapping or not, leave no
gap and no overlap; and both grant windows and zone hours windows are read so. -/
def Obligations.WindowArithmetic : Prop :=
  (∀ s e m : Nat, s < e → (inWindow s e m = true ↔ s ≤ m ∧ m < e)) ∧
  (∀ s e m : Nat, e < s → (inWindow s e m = true ↔ s ≤ m ∨ m < e)) ∧
  (∀ s m : Nat, inWindow s s m = true) ∧
  ((List.range 10080).filter (fun m => inWindow 480 1080 m)).length = 600 ∧
  (∀ s e f m : Nat, (s < e ∧ e < f) ∨ (e < f ∧ f < s) ∨ (f < s ∧ s < e) ∨ (s ≠ e ∧ f = s) →
    (inWindow s f m = true ↔ inWindow s e m = true ∨ inWindow e f m = true) ∧
    ¬ (inWindow s e m = true ∧ inWindow e f m = true)) ∧
  (∀ (k : Calendar) (c : ZoneCfg), c.override = .schedule →
    (computeHours (some k) c = .day ↔ ∃ w ∈ c.windows, inWindow w.1 w.2 k.minute = true)) ∧
  (∀ (s : State) (g : GrantRec) (p z : Nat) (k : Calendar), s.ret.calendar = some k →
    s.grantMatches g p z = true → inWindow g.cfg.wStart g.cfg.wEnd k.minute = true)

/-! ## Doors -/

/-- REMOTE_RELEASE at a sound unpaired SECURED door whose inner zone is OPEN and THAWED begins a cycle with one
unattributed ENTRY passage and reports GRANTED; the answer carries the state that results (R20, R22, R34). LOCKOUT_ON
and LOCKOUT_OFF (R33): NOT_FOUND for an unconfigured door and SUSPECT for a suspect one; else the lockout is set or
cleared in every door state, and nothing else of the door changes. The field ids of these answers are the model's (log
entry 27). The tables are read first (log entry 5). -/
def Obligations.DoorRequests : Prop :=
  ∀ (s : State) (tag : Byte) (d : Nat), s.portTakes = true → d ≤ 47 →
    let u := s.asked
    (∀ r z, u.door? d = some r → r.suspect = false → r.state = .secured → u.partnerOf d = none →
      u.zone? r.cfg.inner = some z → z.entry = .opened → z.freeze = .thawed →
      let c : Cycle := { passages := [{ dir := .entry, arrival := u.nowTenths }], vals := u.classVals r,
                         began := u.nowTenths }
      let r' : DoorRec :=
        if c.vals.lead = 0 then { r with state := .released, cycle := some c }
        else { r with state := .releasing, cycle := some { c with leadEnd := some (u.base + c.vals.lead * 10) } }
      exec (.remoteRelease (keyReq tag d)) s =
        .next (((u.putDoor d r').decided d { outcome := .granted, time := some u.now }).answeredOk tag
          [fldN 17 1 (doorCode r'.state)])) ∧
    (∀ on : Bool, exec (if on then .lockoutOn (keyReq tag d) else .lockoutOff (keyReq tag d)) s = .next
      (match u.door? d with
       | none => u.answeredNo tag .notFound
       | some r =>
         if r.suspect then u.answeredNo tag .suspect
         else (u.putDoor d { r with lockout := on }).answeredOk tag []))

/-- The timers of a door. At the end of its lead a door in RELEASING enters RELEASED, and its strike is to be driven
for the cycle's strike time; the strike timer, which the first echo of a token issued while the strike is ON starts and
no later one, ends RELEASED, and the relock hold ends RELOCKING, in SECURED with no cycle and without the right, the
arbiter then looking at the pair (R22, R25). The held-open allowance of a door in OPEN or HELD ends: the door is HELD,
the allowance counts again, and DOOR_HELD is raised unless the held inhibit is set (R32). Every decision sets an
indication (R35) that returns to NONE 3 s later. The time base that these count on, in units of 0.01 s, is the model's
(log entry 3). The interlock wait limit and exit due (R29). An ENTRY passage that still waits at the limit leaves the
list and is refused INTERLOCK_TIMEOUT; a door in INTERLOCK_WAIT with nothing left returns to SECURED; that a waiting
cycle of a FORCED door times out too, the door staying FORCED, and that exit due ends the lead of a door in RELEASING
without INTERLOCK_BREACH, are the model's (log entry 18). At exit due in INTERLOCK_WAIT the door takes the right by
override, its partner gives up what it was releasing, the door enters RELEASED and INTERLOCK_BREACH is raised; that a
door that has lost its partner drives its strike too is log entry 18. The tables are read first (log entry 5). -/
def Obligations.DoorTimers : Prop :=
  (∀ (s : State) (d : Nat),
    let u := s.readTables
    (∀ r c, u.door? d = some r → r.cycle = some c → r.state = .releasing → u.reached c.leadEnd = true →
      let r' := { r with state := .released, cycle := some { c with leadEnd := none } }
      exec (.leadExpiry d) s = .next ((u.putDoor d r').finish) ∧ desiredStrike r' = c.vals.strike) ∧
    (∀ r c, s.door? d = some r → r.cycle = some c → r.state = .released → (s.strikeEcho d).door? d =
      some { r with cycle := some { c with strikeEnd :=
        match c.strikeEnd with | none => some (s.base + c.vals.strike * 10) | some e => some e } }) ∧
    (∀ r c, u.door? d = some r → r.cycle = some c →
      let v := ((u.changeDoor d (fun q => { q with state := .secured, cycle := none, right := false })).endBreach
        d).arbitrate d
      (r.state = .released → u.reached c.strikeEnd = true → exec (.strikeTimerExpiry d) s = .next v.finish) ∧
      (r.state = .relocking → u.reached c.relockEnd = true → exec (.relockHoldExpiry d) s = .next v.finish) ∧
      v.door? d = some { r with state := .secured, cycle := none, right := false }) ∧
    (∀ r c e, u.door? d = some r → r.cycle = some c → (r.state = .opened ∨ r.state = .held) → c.heldEnd = some e →
      e ≤ u.base →
      let v := u.putDoor d { r with
        state := .held, cycle := some { c with heldEnd := some (e + c.vals.heldOpen * 100) } }
      exec (.heldOpenExpiry d) s =
        .next (if r.heldInhibit then v else v.raise .doorHeld (.door d) (some r.cfg.inner) none).finish) ∧
    (∀ r, u.door? d = some r → u.reached r.indEnd = true →
      exec (.indicationReturn d) s = .next (u.putDoor d { r with indication := .none, indEnd := none }).finish) ∧
    (∀ r x, s.door? d = some r → (s.decided d x).door? d = some { r with
      decision := x, indEnd := some (s.base + 300)
      indication := match x.outcome with
        | .granted | .releasedExit => .grant
        | .refused => .deny
        | .none => .none })) ∧
  (∀ (s : State) (d : Nat) (r : DoorRec) (c : Cycle),
    let u := s.readTables
    u.door? d = some r → r.cycle = some c →
    (∀ before after x, (r.state = .interlockWait ∨ (r.state = .forced ∧ c.waiting = true)) →
      c.passages = before ++ x :: after → x.dir = .entry → x.arrival * 10 + c.vals.limit * 100 ≤ u.nowCs →
      (∀ y ∈ before, y.dir = .exit ∨ u.nowCs < y.arrival * 10 + c.vals.limit * 100) →
      let c' := { c with passages := before ++ after }
      let v := (u.putDoor d { r with cycle := some c' }).decided d
        { outcome := .refused, code := some .interlockTimeout, person := x.person, grant := x.grant, time := some u.now }
      exec (.interlockTimeout d) s =
        .next (if r.state = .interlockWait ∧ before ++ after = [] ∧ c.unlisted = false then v.toSecured d else v).finish) ∧
    (∀ e, c.exitDue = some e → e ≤ u.nowCs →
      (r.state = .releasing → exec (.exitDue d) s =
        .next (u.putDoor d { r with state := .released, cycle := some { c with leadEnd := none } }).finish) ∧
      (r.state = .interlockWait →
        let freed := fun (q : DoorRec) => { q with
          state := DoorState.released, cycle := q.cycle.map (fun c => { c with leadEnd := none }) }
        (u.partnerOf d = none → exec (.exitDue d) s = .next (u.changeDoor d freed).finish) ∧
        (∀ p, u.partnerOf d = some p →
          let v := (u.changeDoor p State.overridden).changeDoor d (fun q => freed { q with right := true })
          exec (.exitDue d) s = .next (v.raise .interlockBreach (.door (min d p))
            ((v.door? (min d p)).map (fun q => q.cfg.inner)) none).finish))) ∧
    (∀ q x, (q.state = .opened ∨ q.state = .held ∨ q.state = .relocking →
        State.overridden q = { q with right := false }) ∧
      (q.state = .released → State.overridden q = { q with state := .secured, cycle := none, right := false }) ∧
      (q.state = .releasing → q.cycle = some x →
        let left := x.passages.filter (fun y => y.dir = .exit)
        State.overridden q = if left = [] ∧ x.unlisted = false then
            { q with state := .secured, cycle := none, right := false }
          else { q with state := .interlockWait, right := false,
                        cycle := some { x with passages := left, leadEnd := none } })))

/-- Contact openings and closings. An opening in RELEASING or RELEASED is OPEN with the held-open allowance counting
(R23); in SECURED or UNKNOWN it makes the door FORCED with a cycle of its own, DOOR_FORCED raised and the inner zone
unverified (R31); in RELOCKING with the right, or at an unpaired door, it is OPEN in the same cycle (R25); in OPEN,
HELD and FORCED it changes nothing. In INTERLOCK_WAIT it makes the door FORCED with its waiting cycle, and raises
INTERLOCK_BREACH beside a partner that is not closed for the pair (R23, R31). A reopening in RELOCKING without the
right takes the right back from a partner in RELEASING, which waits again, and takes a free one; else the partner
keeps it (R28). INTERLOCK_BREACH is raised where both contacts are open (R30). A closing in OPEN or HELD ends
DOOR_HELD in HELD, hands over a completion, and enters RELOCKING, or SECURED without the right when the relock hold is
0 (R24, R25); a completion takes the list and the mark from the cycle. A closing in FORCED ends DOOR_FORCED and
DOOR_HELD; the cycle of the opening is handed over and the door SECURED; a waiting cycle waits again, or takes the
right where exit due is reached, or ends when it is empty (R31). In a state with the contact closed a closing changes
nothing. A report is taken by R26. The model's readings are: DOORS_CLOSED is taken before the completion, DURESS_OPEN
before the other inputs that the completion changes, and a latch at a door recorded open adds no opening (log entry
17), an UNKNOWN partner's contact counts as not open (log entry 68), each opening and closing ends as an event does
(log entry 13), and a suspect door that is forced acts on its stored inner zone (log entry 86). -/
def Obligations.DoorContacts : Prop :=
  ∀ (s : State) (d : Nat) (r : DoorRec), s.door? d = some r →
    (∀ c, r.cycle = some c → (r.state = .releasing ∨ r.state = .released) → s.opening d =
      (s.putDoor d { r with state := .opened, cycle := some { c with
        leadEnd := none, strikeEnd := none, heldEnd := some (s.base + c.vals.heldOpen * 100) } }).breachIfBothOpen d) ∧
    (r.state = .secured ∨ r.state = .unknown → s.opening d =
      (((s.putDoor d { r with state := .forced, right := false,
                              cycle := some { vals := s.classVals r, began := s.nowTenths } }).raise .doorForced (.door d)
        (some r.cfg.inner) none).markUnverified r.cfg.inner).breachIfBothOpen d) ∧
    (∀ c, r.cycle = some c → r.state = .relocking → (r.right = true ∨ s.partnerOf d = none) → s.opening d =
      (s.putDoor d { r with state := .opened, cycle := some { c with
        relockEnd := none, heldEnd := some (s.base + c.vals.heldOpen * 100) } }).breachIfBothOpen d) ∧
    (r.state = .opened ∨ r.state = .held ∨ r.state = .forced → s.opening d = s) ∧
    (∀ c, r.cycle = some c → r.state = .interlockWait →
      let t := ((s.putDoor d { r with state := .forced, right := false, cycle := some { c with waiting := true } }).raise
        .doorForced (.door d) (some r.cfg.inner) none).markUnverified r.cfg.inner
      (s.partnerOf d = none → s.opening d = t) ∧
      (∀ p q, s.partnerOf d = some p → s.door? p = some q → s.opening d =
        if q.state = .secured ∨ q.state = .interlockWait ∨ q.state = .relocking then t
        else t.raise .interlockBreach (.door (min d p)) ((s.door? (min d p)).map (fun y => y.cfg.inner)) none)) ∧
    (∀ c p q, r.cycle = some c → r.state = .relocking → r.right = false → s.partnerOf d = some p → s.door? p = some q →
      let opened := fun (right : Bool) => { r with state := .opened, right := right, cycle := some { c with
        relockEnd := none, heldEnd := some (s.base + c.vals.heldOpen * 100) } }
      s.opening d = (if q.right = true ∧ q.state = .releasing then
          (s.putDoor p { q with state := .interlockWait, right := false,
                                cycle := q.cycle.map (fun e => { e with leadEnd := none }) }).putDoor d (opened true)
        else s.putDoor d (opened (!q.right))).breachIfBothOpen d) ∧
    (s.partnerOf d = none → s.breachIfBothOpen d = s) ∧
    (∀ p q, s.partnerOf d = some p → s.door? p = some q → s.breachIfBothOpen d =
      if contactOpen r.state = true ∧ contactOpen q.state = true then
        s.raise .interlockBreach (.door (min d p)) ((s.door? (min d p)).map (fun y => y.cfg.inner)) none
      else s) ∧
    (∀ c, r.cycle = some c → r.state = .forced →
      let v := (s.endAlarm .doorForced (.door d)).endAlarm .doorHeld (.door d)
      (c.waiting = false → s.closing d =
        (((v.putDoor d { r with state := .secured, right := false }).endBreach d).arbitrate d, true)) ∧
      (c.waiting = true → c.passages = [] → c.unlisted = false → s.closing d = (v.toSecured d, false)) ∧
      (c.waiting = true → (c.passages ≠ [] ∨ c.unlisted = true) →
        let w := v.putDoor d { r with state := .interlockWait, cycle := some { c with waiting := false } }
        (s.fallsDue c.exitDue = true → s.closing d = (w.overrideRight d, false)) ∧
        (s.fallsDue c.exitDue = false → s.closing d = (w.arbitrate d, false)))) ∧
    (∀ t, s.closing d = (t, false) → s.closeAndComplete d = t) ∧
    (∀ t, s.closing d = (t, true) → s.closeAndComplete d =
      (let u := t.settleBits 0x00000800#32
       let v := (u.handOver d).freezeReached
       ((v.settleBits 0x00002000#32).settle.recomputeFor (u.handedZones d)).settle)) ∧
    (∀ c, r.cycle = some c → (r.state = .opened ∨ r.state = .held) →
      let v := if r.state = .held then s.endAlarm .doorHeld (.door d) else s
      let i := if r.state = .held then false else r.heldInhibit
      s.closing d =
        (((if c.vals.relock = 0 then
            (v.putDoor d { r with state := .secured, right := false, heldInhibit := i,
                                  cycle := some { c with heldEnd := none } }).endBreach d
          else v.putDoor d { r with state := .relocking, heldInhibit := i, cycle := some { c with
            heldEnd := none, relockEnd := some (s.base + c.vals.relock * 10) } }).arbitrate d), true)) ∧
    (r.state ≠ .opened → r.state ≠ .held → r.state ≠ .forced → s.closing d = (s, false)) ∧
    (∀ c, r.cycle = some c → (s.takeCycle d).door? d = some (if r.state = .secured then { r with cycle := none }
      else { r with cycle := some { c with passages := [], unlisted := false, exitDue := none } })) ∧
    (∀ isOpen latch, s.doorStatus d isOpen latch =
      let wasOpen : Bool := r.state = .opened || r.state = .held || r.state = .forced
      if isOpen then (if wasOpen then s else (s.opening d).conclude)
      else if wasOpen then (s.closeAndComplete d).conclude
      else if latch then (((s.opening d).conclude).closeAndComplete d).conclude else s)

/-- The arbiter gives the open right (R27). A door that waits takes it when its partner is closed for its pair and the
right is free, or is held by the partner in RELOCKING, which goes on without it; the door enters RELEASING with its
lead running, or RELEASED where the lead is 0 (R22). When both wait, it goes to the door that waits for an exit, else
to the earlier wait, else to the lower number. It goes to no other door, and then nothing changes. A door without a
partner needs no right: one in INTERLOCK_WAIT begins its lead, and in any other state nothing changes (R21). -/
def Obligations.ArbiterGives : Prop :=
  (∀ (s : State) (d p : Nat) (r q : DoorRec), s.partnerOf d = some p → s.door? d = some r → s.door? p = some q →
    let closed := fun (x : DoorRec) => x.state = .secured ∨ x.state = .interlockWait ∨ x.state = .relocking
    let takes := fun (x y : DoorRec) => x.state = .interlockWait ∧ x.cycle ≠ none ∧ closed y ∧
      (y.right = false ∨ y.state = .relocking)
    let given := fun (i j : Nat) => (s.changeDoor j (fun y => { y with right := false })).changeDoor i
      (fun x => beginLead s.base { x with right := true })
    let first := fun (i j : Nat) (c e : Cycle) =>
      (waitsForExit c = true ∧ waitsForExit e = false) ∨
      (waitsForExit c = waitsForExit e ∧ (c.began < e.began ∨ (c.began = e.began ∧ i < j)))
    (takes r q → ¬ takes q r → s.arbitrate d = given d p) ∧
    (takes q r → ¬ takes r q → s.arbitrate d = given p d) ∧
    (¬ takes r q → ¬ takes q r → s.arbitrate d = s) ∧
    (∀ c e, takes r q → takes q r → r.cycle = some c → q.cycle = some e →
      (first d p c e → s.arbitrate d = given d p) ∧ (¬ first d p c e → s.arbitrate d = given p d))) ∧
  (∀ (s : State) (d : Nat) (r : DoorRec), s.partnerOf d = none → s.door? d = some r →
    s.arbitrate d = if r.state = .interlockWait then s.changeDoor d (beginLead s.base) else s) ∧
  (∀ (base : Nat) (x : DoorRec) (c : Cycle), x.cycle = some c → beginLead base x =
    if c.vals.lead = 0 then { x with state := .released, cycle := some { c with leadEnd := none } }
    else { x with state := .releasing, cycle := some { c with leadEnd := some (base + c.vals.lead * 10) } })

/-! ## Admission and occupancy -/

/-- The checks 1 to 12 of an entry in their order, each with its outcome (R63 to R66), for a credential that resolves
to a person with a record, at a door whose inner zone is configured; what an unknown and a suspect credential meet at
checks 6 and 7; and the room of check 12. A record that both a sound and a suspect occupancy record name is log entry
39. No check reads the verified flag (R63; log entry 78), and the reservations of the slot test are those at every door
(log entry 4). -/
def Obligations.EntryChecks : Prop :=
  ∀ (s : State) (r : DoorRec) (z : ZoneRec) (n : Nat), s.zone? r.cfg.inner = some z →
    let door := fun (rest : State × Verdict) =>
      if s.ret.active = false then (s, .refused .notCommissioned none)
      else if r.state = .unknown ∨ r.suspect = true then (s, .refused .doorUnavailable none)
      else if r.lockout = true then (s, .refused .lockedOut none)
      else if z.entry ≠ .opened ∨ z.suspect = true then (s, .refused .zoneClosed none)
      else if z.freeze ≠ .thawed then (s, .diverted)
      else rest
    (s.entryChecks r .unknown n = door (s, .refused .unknownCredential none)) ∧
    (s.entryChecks r .suspect n = door (s, .refused .recordSuspect none)) ∧
    (∀ p q, s.person? p = some q → s.entryChecks r (.person p) n = door
      (if q.cfg.suspended = true then (s, .refused .suspended none)
       else if s.presentZone p ≠ s.parentOf r.cfg.inner then (s, .refused .locationMismatch none)
       else if q.cfg.clearance < z.cfg.clearance then (s, .refused .clearance none)
       else match z.hours with
         | .day => (s, if s.hasRoom r.cfg.inner n = true then .passed p none none else .refused .zoneFull none)
         | .after => match s.grantSearch p r.cfg.inner with
           | (t, none) => (t, .refused .noGrant none)
           | (t, some (g, c)) => (t, if t.hasRoom r.cfg.inner n = true then .passed p (some g) c.ceiling
                                     else .refused .zoneFull (some g)))) ∧
    (s.hasRoom r.cfg.inner n = true ↔ s.occupants r.cfg.inner + s.reservations r.cfg.inner + n ≤ z.cfg.capacity ∧
      s.allReservations + n ≤ 256 - s.occ.recs.length)

/-- What follows the checks at a door (R67 to R70, R77). A refusal is the last decision, with the code, person and
grant, and LOCATION_MISMATCH is raised at check 9 (R65). A diverted request joins the wait list, WAIT_FULL where it
has no place. A request that passes begins a pair wait where the pair rule applies; else it is GRANTED and hands over
its passage; at a door that holds another's pair wait both passages are handed over in one request. A repeat by the
same person changes nothing (R68, R69): the person has an ENTRY passage pending at the door, or is its pair wait's
first presenter. The pair rule applies in an AFTER zone with the rule, with no record and no reservation, to a person
without LONE_WORK, at a door without a pair wait (R69). When a release request is taken and when it finds the list
full is said by `ExitsReleased`. That one credential at one door stands in the list once is the rule's own (R77); that
a request which stands there already is ignored also while the list is full is the model's (log entry 81). -/
def Obligations.EntryDecisions : Prop :=
  ∀ (s : State) (d : Nat) (r : DoorRec) (cred : Option Nat) (m : Mode) (arrival : Nat), s.door? d = some r →
    (∀ p, State.isRepeat r p = true → s.decideEntry d cred (.person p) m arrival = s) ∧
    (∀ p, State.isRepeat r p = true ↔
      (∃ c x, r.cycle = some c ∧ x ∈ c.passages ∧ x.dir = .entry ∧ x.person = some p) ∨
      ∃ w, r.pairWait = some w ∧ w.person = p) ∧
    (∀ p z, s.zone? r.cfg.inner = some z → s.pairWindowOf r.cfg.inner = z.cfg.pairWindow ∧
      (s.pairRuleApplies r p = true ↔ z.cfg.pairRule = true ∧ z.hours = .after ∧
        (∀ q, s.person? p = some q → q.cfg.loneWork = false) ∧ s.occupants r.cfg.inner = 0 ∧
        s.reservations r.cfg.inner = 0 ∧ r.pairWait = none)) ∧
    (∀ res, (∀ p, res.person? = some p → State.isRepeat r p = false) →
      let n := if r.pairWait.isSome then 2 else 1
      (∀ t c g, s.entryChecks r res n = (t, .refused c g) → s.decideEntry d cred res m arrival =
        (match c, res.person? with
         | .locationMismatch, some p => t.raise .locationMismatch (.person p) (some r.cfg.inner) (some p)
         | _, _ => t).decided d
          { outcome := .refused, code := some c, person := res.person?, grant := g, time := some t.now }) ∧
      (∀ t, s.entryChecks r res n = (t, .diverted) → s.decideEntry d cred res m arrival =
        if ∃ e ∈ t.adm.waits, e.credential = cred ∧ e.door = d then t
        else if t.adm.waits.length < Config.waitPlaces then t.setAdm { t.adm with waits :=
          t.adm.waits ++ [{ credential := cred, door := d, mode := m, arrival := arrival }] }
        else t.decided d { outcome := .refused, code := some .waitFull, person := res.person?, time := some t.now }) ∧
      (∀ t p g c, s.entryChecks r res n = (t, .passed p g c) →
        let x : Passage := { dir := .entry, person := some p, grant := g, ceiling := c, mode := m, arrival := arrival }
        let granted : Decision := { outcome := .granted, person := some p, grant := g, time := some t.now }
        (r.pairWait = none → t.pairRuleApplies r p = true → s.decideEntry d cred res m arrival =
          t.changeDoor d (fun y => { y with pairWait := some { person := p, grant := g, ceiling := c, mode := m,
                                                               start := arrival, window := t.pairWindowOf r.cfg.inner } })) ∧
        (r.pairWait = none → t.pairRuleApplies r p = false →
          let y := (t.decided d granted).releaseRequest d [x]
          (y.2 = .taken → s.decideEntry d cred res m arrival = y.1) ∧
          (y.2 = .full → s.decideEntry d cred res m arrival = y.1.decided d
            { outcome := .refused, code := some .zoneFull, person := some p, grant := g, time := some y.1.now })) ∧
        (∀ w, r.pairWait = some w →
          let y := t.releaseRequest d [{ dir := .entry, person := some w.person, grant := w.grant, ceiling := w.ceiling,
                                         mode := w.mode, arrival := w.start, retiredGrant := w.retiredGrant }, x]
          (y.2 = .taken → s.decideEntry d cred res m arrival =
            (y.1.changeDoor d (fun z => { z with pairWait := none })).decided d { granted with time := some y.1.now }) ∧
          (y.2 = .full → s.decideEntry d cred res m arrival = y.1.decided d
            { outcome := .refused, code := some .zoneFull, person := some p, grant := g, time := some y.1.now }))))

/-- Exits (R72, R73): every exit request is shown RELEASED_EXIT, and hands over its passage unless the door's cycle
lists it already: the person's EXIT passage, or for an unattributed exit another such passage or the unlisted-exit
mark. It is dropped at an UNKNOWN door, where it is shown DOOR_UNAVAILABLE (R21). Then what becomes of a release
request, of one exit or of one or more entries, in every door state (R20, R21, R22, R28), which is where
`EntryDecisions` takes its outcomes from: an UNKNOWN door drops it; in SECURED, and in RELOCKING, a new cycle begins,
with the lead at an unpaired door and at one that holds the right, which it keeps, and else in INTERLOCK_WAIT, where
the arbiter looks (`ArbiterGives`); in the other six states the passages join the list, an exit beyond four passages
sets the unlisted-exit mark and is released all the same, and entries, one or the two of a pair release, that find no
place for all of them are refused as full and change nothing. Exit due is the arrival of the first exit plus the
cycle's limit. -/
def Obligations.ExitsReleased : Prop :=
  ∀ (s : State) (d : Nat) (r : DoorRec) (p : Option Nat) (arrival : Nat), s.door? d = some r →
    let t := s.decided d { outcome := .releasedExit, person := p, time := some s.now }
    let x : Passage := { dir := .exit, person := p, arrival := arrival }
    (State.exitListed r p = true → s.exitRequest d p arrival = t) ∧
    (State.exitListed r p = false → r.state ≠ .unknown → s.exitRequest d p arrival = (t.releaseRequest d [x]).1) ∧
    (r.state = .unknown → State.exitListed r p = false → s.exitRequest d p arrival =
      t.decided d { outcome := .refused, code := some .doorUnavailable, person := p, time := some s.now }) ∧
    (State.exitListed r p = true ↔ ∃ c, r.cycle = some c ∧ match p with
      | some n => ∃ y ∈ c.passages, y.dir = .exit ∧ y.person = some n
      | none => c.unlisted = true ∨ ∃ y ∈ c.passages, y.dir = .exit ∧ y.person = none) ∧
    (∀ xs : List Passage, xs = [x] ∨ (xs ≠ [] ∧ ∀ y ∈ xs, y.dir = .entry) →
      let due := fun (e : Option Nat) (limit : Nat) =>
        if xs = [x] then some (e.getD (arrival * 10 + limit * 100)) else e
      let vals := s.classVals r
      let c : Cycle := { passages := xs, vals := vals, began := s.nowTenths, exitDue := due none vals.limit }
      let lead : DoorRec :=
        if vals.lead = 0 then { r with state := .released, cycle := some c }
        else { r with state := .releasing, cycle := some { c with leadEnd := some (s.base + vals.lead * 10) } }
      (r.state = .unknown → s.releaseRequest d xs = (s, .dropped)) ∧
      (r.state = .secured ∨ (r.state = .relocking ∧ r.right = false) → s.releaseRequest d xs =
        ((if s.partnerOf d = none then s.putDoor d lead
          else (s.putDoor d { r with state := .interlockWait, cycle := some c }).arbitrate d), .taken)) ∧
      (r.state = .relocking → r.right = true → s.releaseRequest d xs = (s.putDoor d lead, .taken)) ∧
      (∀ e, r.cycle = some e → (r.state = .interlockWait ∨ r.state = .releasing ∨ r.state = .released ∨
          r.state = .opened ∨ r.state = .held ∨ r.state = .forced) → s.releaseRequest d xs =
        let joined := fun (f : Cycle) => (s.putDoor d { r with cycle := some { f with
          exitDue := due e.exitDue e.vals.limit } }).arbitrate d
        if e.passages.length + xs.length ≤ 4 then (joined { e with passages := e.passages ++ xs }, .taken)
        else if xs = [x] then (joined { e with unlisted := true }, .taken)
        else (s, .full)))

/-- A completion (R85): the exit inference where it holds an unattributed exit and no attributed one, then the
passages in list order, then pair evaluation of the inner and the outer zone, and of a third zone that a mismatched
record has left (in this order by log entry 10). An attributed ENTRY from zone 0 by a person with no record makes a
record in the lowest free slot, by grant or by DAY, and with no slot free marks the zone unverified (R86, R89); an
ENTRY by a person recorded in the outer zone moves the record, with the zone entered now, the check-in deadline afresh
and PAIR_BROKEN ended; one recorded elsewhere or nowhere is a mismatch, and a suspect record leaves the inner zone
unverified (R86). An attributed EXIT moves the record of a person to a controlled outer zone and retires it towards
zone 0, with the mismatches of R87 (R98). An unattributed ENTRY marks the inner zone unverified (R89). The exit
inference moves or retires the one sound record of the inner zone, moves no suspect one, and with none or several
marks the zone unverified (R88). An ENTRY under a grant lowers its uses (R59), after the grace search (log entry 41).
Each record made or moved takes its grace and its dwell deadline (`AfterTurn`), a deadline that has passed before
DURESS is raised (log entry 60). The person field of LOCATION_MISMATCH and of that DURESS is log entry 28, and what a
completion does at a suspect door whose inner zone is not configured is log entry 79. That LOCATION_MISMATCH comes
before the marks, and the mark of the inner zone before that of the outer, is log entry 82. -/
def Obligations.CompletionMovesRecords : Prop :=
  (∀ (s : State) (inner outer : Nat) (xs : List Passage) (unlisted : Bool),
    let nobody := xs.any (fun x => x.dir = .exit && x.person.isNone)
    let t := xs.foldl (fun v x => v.applyPassage inner outer x)
      (if (nobody = true ∨ unlisted = true) ∧ (∀ x ∈ xs, x.dir = .exit → x.person = none) then
        s.inferExit inner outer (nobody && unlisted) else s)
    s.complete inner outer xs unlisted =
      (s.occ.zones.keys.filter (fun z => z != inner && z != outer)).foldl (fun v z => v.pairEvaluate z (s.occupants z))
        ((t.pairEvaluate inner (s.occupants inner)).pairEvaluate outer (s.occupants outer))) ∧
  (∀ (s : State) (d : Nat) (r : DoorRec) (c : Cycle), s.door? d = some r → r.cycle = some c →
    s.handOver d = (s.takeCycle d).complete r.cfg.inner (s.parentOf r.cfg.inner) c.passages c.unlisted) ∧
  (∀ (s : State) (inner outer p : Nat) (x : Passage),
    let moved := fun (i : Nat) (r : OccRec) (z : Nat) (duress : Bool) =>
      let v := ((s.changeOcc i (fun y => { y with
        zone := z, zoneEntered := s.now, checkin := s.checkinFor z, pairGrace := none, alone := false,
        duress := duress })).endAlarm .pairBroken (.person r.person)).arrived i
      if duress = true then v.raise .duress (.person r.person) (some z) (some r.person) else v
    let left := fun (i : Nat) (r : OccRec) =>
      if outer = 0 then (((s.delOcc i).endAlarm .checkinMissed (.person r.person)).endAlarm .dwellOverrun
        (.person r.person)).endAlarm .pairBroken (.person r.person)
      else moved i r outer r.duress
    let mismatch := fun (v : State) => v.raise .locationMismatch (.person p) (some inner) (some p)
    (s.recordOf p = none → s.suspectRecordOf p = none →
      let made := s.makeEntry p inner x
      s.applyEntry inner outer p x = (if outer = 0 then made else (mismatch made).markUnverified outer) ∧
      (∀ i, i < 256 → s.occ? i = none → (∀ j < i, (s.occ? j).isSome = true) → made =
        (s.putOcc i { person := p, zone := inner, entered := s.now, zoneEntered := s.now,
                      basis := if x.grant.isSome then .grant else .day, grant := x.grant,
                      dwell := match x.grant, x.ceiling with | some _, some c => some (s.now + c * 60) | _, _ => none,
                      checkin := s.checkinFor inner, duress := x.mode = .duress }).arrived i) ∧
      ((∀ i < 256, (s.occ? i).isSome = true) → made = s.markUnverified inner) ∧
      s.applyExit inner outer p = ((mismatch s).markUnverified inner).markUnverified outer) ∧
    (s.recordOf p = none → s.suspectRecordOf p ≠ none → s.applyEntry inner outer p x = s.markUnverified inner ∧
      s.applyExit inner outer p = (s.markUnverified inner).markUnverified outer) ∧
    (∀ i r, s.recordOf p = some (i, r) →
      (r.zone = inner → s.applyEntry inner outer p x = (mismatch s).markUnverified (if outer = 0 then inner else outer)) ∧
      (r.zone = outer → inner ≠ outer →
        s.applyEntry inner outer p x = moved i r inner (r.duress || x.mode = .duress)) ∧
      (r.zone ≠ inner → r.zone ≠ outer → s.applyEntry inner outer p x =
        (mismatch (moved i r inner (r.duress || x.mode = .duress))).markUnverified
          (if outer = 0 then r.zone else outer)) ∧
      (r.suspect = false → r.zone = inner → s.applyExit inner outer p = left i r) ∧
      (r.zone = outer → inner ≠ outer → s.applyExit inner outer p = (mismatch s).markUnverified inner) ∧
      (r.suspect = false → r.zone ≠ inner → r.zone ≠ outer →
        s.applyExit inner outer p = (mismatch (left i r)).markUnverified inner)) ∧
    (x.dir = .entry → s.applyPassage inner outer x =
      (match x.person with | some n => s.applyEntry inner outer n x | none => s.markUnverified inner).reportUse x) ∧
    (x.dir = .exit → s.applyPassage inner outer x =
      (match x.person with | some n => s.applyExit inner outer n | none => s)) ∧
    (∀ i r, s.zoneOrder inner = [(i, r)] → s.inferExit inner outer false = if r.suspect = true then s else left i r) ∧
    (s.occupants inner ≠ 1 → s.inferExit inner outer false = s.markUnverified inner) ∧
    (s.inferExit inner outer true = (s.inferExit inner outer false).markUnverified inner) ∧
    (x.grant = none ∨ x.retiredGrant = true → s.reportUse x = s) ∧
    (∀ n g, x.grant = some n → x.retiredGrant = false → (s.testGrant n).grant? n = some g → s.reportUse x =
      (let t := s.testGrant n
       match g.cfg.uses with
       | some (k + 1) => if g.suspect = true then t else t.putGrant n { g with cfg := { g.cfg with uses := some k } }
       | _ => t)))

/-- The grant search, and the turn of a zone from DAY to AFTER. The search walks the person's grants in ascending
number, tests each as it reads it, and answers the first that matches: a sound grant that names the person and the
configured zone, valid on the day, with the minute of week in its window and uses left (R55, R56, R57). Listing the
grants tests none (log entry 50). At the turn each record of the zone, in zone order, takes its check-in deadline; a
search is made for each one of DAY basis, and without a match one that holds no dwell deadline takes the after-hours
grace; a dwell deadline that has passed is taken (R92, R96), the person field of its DWELL_OVERRUN by log entry 28. A
record made or moved takes the grace so only where it holds no dwell deadline (R86). Then pair grace begins for a
single sound record whose person lacks LONE_WORK, in a zone with the pair rule (R95, R96). A pair evaluation clears
ALONE at two and more, and begins pair grace at a drop to one (R95). A suspect zone keeps its hours state (R14), and no
check-in deadline, pair-grace deadline or ALONE flag is set in it, which for the flag and the absence of the deadline
is log entry 55. -/
def Obligations.AfterTurn : Prop :=
  (∀ (s : State) (p z : Nat),
    s.grantSearch p z = s.searchGrants p z ((s.adm.grants.filter (fun q => q.2.cfg.person = p)).map (fun q => q.1)) ∧
    s.searchGrants p z [] = (s, none) ∧
    (∀ n ns, let t := s.testGrant n
      s.searchGrants p z (n :: ns) = match t.grant? n with
        | none => t.searchGrants p z ns
        | some g => if t.grantMatches g p z = true then (t, some (n, g.cfg)) else t.searchGrants p z ns) ∧
    (∀ g, s.grantMatches g p z = true ↔ g.cfg.person = p ∧ g.suspect = false ∧ z ∈ g.cfg.zones ∧
      (s.zone? z).isSome = true ∧ g.cfg.uses ≠ some 0 ∧
      ∃ k, s.ret.calendar = some k ∧ g.cfg.fromDay ≤ k.day ∧ (∀ d, g.cfg.untilDay = some d → k.day ≤ d) ∧
        inWindow g.cfg.wStart g.cfg.wEnd k.minute = true)) ∧
  (∀ (s : State) (z : Nat) (r : ZoneRec), s.zone? z = some r →
    (r.suspect = true ∨ computeHours s.ret.calendar r.cfg = r.hours → s.evaluateHours z = s) ∧
    (r.suspect = false → r.hours = .day → computeHours s.ret.calendar r.cfg = .after →
      s.evaluateHours z = ((s.zoneOrder z).foldl (fun v q => v.turnRecord q.1)
        (s.putZone z { r with hours := .after })).startGrace z)) ∧
  (∀ (s : State) (i : Nat) (x : OccRec) (y : ZoneRec), s.occ? i = some x → s.zone? x.zone = some y →
    s.turnRecord i = ((s.changeOcc i (fun r => { r with checkin := s.checkinFor r.zone })).searchGrace i).takeDwell i ∧
    s.arrived i = (if x.dwell = none then s.searchGrace i else s).takeDwell i ∧
    s.checkinFor x.zone = (if y.hours = .after ∧ y.cfg.checkin ≠ 0 ∧ y.suspect = false
      then some (s.now + y.cfg.checkin * 60) else none) ∧
    (x.basis ≠ .day ∨ y.hours = .day → s.searchGrace i = s) ∧
    (x.basis = .day → y.hours = .after → s.searchGrace i = (match s.grantSearch x.person x.zone with
      | (t, some _) => t
      | (t, none) => if x.dwell = none then t.putOcc i { x with dwell := some (t.now + y.cfg.afterGrace * 60) } else t)) ∧
    (∀ t, x.dwell = some t → t ≤ s.now → y.hours = .after → x.overdue = false → x.suspect = false → s.takeDwell i =
      (s.putOcc i { x with overdue := true }).raise .dwellOverrun (.person x.person) (some x.zone) (some x.person)) ∧
    (x.dwell = none ∨ (∃ t, x.dwell = some t ∧ s.now < t) ∨ y.hours = .day ∨ x.overdue = true ∨ x.suspect = true →
      s.takeDwell i = s)) ∧
  (∀ (s : State) (z n : Nat),
    (s.occupants z = n ∨ z = 0 ∨ s.occupants z = 0 ∨ (s.occupants z = 1 ∧ n ≤ 1) → s.pairEvaluate z n = s) ∧
    (z ≠ 0 → s.occupants z ≠ n → 2 ≤ s.occupants z → s.pairEvaluate z n =
      (s.zoneOrder z).foldl (fun v q => if q.2.alone = true then
        (v.changeOcc q.1 (fun x => { x with alone := false, pairGrace := none })).endAlarm .pairBroken (.person q.2.person)
        else v) s) ∧
    (z ≠ 0 → s.occupants z = 1 → 2 ≤ n → s.pairEvaluate z n = s.startGrace z) ∧
    (s.occupants z ≠ 1 → s.startGrace z = s) ∧
    (∀ i x y, s.zoneOrder z = [(i, x)] → s.zone? z = some y →
      (y.cfg.pairRule = false ∨ y.hours = .day ∨ y.suspect = true ∨ x.suspect = true → s.startGrace z = s) ∧
      (y.cfg.pairRule = true → y.hours = .after → y.suspect = false → x.suspect = false →
        let t := s.testPerson x.person
        ((∃ q, t.person? x.person = some q ∧ q.suspect = false ∧ q.cfg.loneWork = true) → s.startGrace z = t) ∧
        ((∀ q, t.person? x.person = some q → q.suspect = true ∨ q.cfg.loneWork = false) → s.startGrace z =
          t.changeOcc i (fun r => { r with alone := true, pairGrace := some (t.now + y.cfg.pairGrace) })))))

/-- A zone's entry state leaves OPEN. Every zone takes the entry state of R109, and those that leave OPEN close,
ascending (log entry 8). At each door into a closing zone the entries of a cycle in INTERLOCK_WAIT, or of a waiting
cycle in FORCED, are refused ZONE_CLOSED, and a door in INTERLOCK_WAIT with nothing left is SECURED; a cycle in
RELEASING or RELEASED that holds entries alone is cancelled with its entries refused; any other cycle goes on (R37).
Then the pair waits end and are refused with their first presenter, and the wait-list entries of the zone leave the
list and are refused with the person that their credential resolves to (R80). That these refusals follow one another so
is log entry 49, and the resolution as the entry leaves is log entry 54. A REQUESTED zone with nothing in flight is
then HELD (R75, R80). -/
def Obligations.ZoneCloses : Prop :=
  (∀ s : State,
    let leaving := (s.occ.zones.filter (fun p => p.2.entry = .opened && s.entryOf p.1 != .opened)).map (fun p => p.1)
    s.syncEntries = leaving.foldl (fun v z => v.zoneCloses z)
      (s.setOcc { s.occ with zones := s.occ.zones.map (fun p => (p.1, { p.2 with entry := s.entryOf p.1 })) })) ∧
  (∀ (s : State) (z : Nat),
    let into := fun (v : State) => (v.door.doors.filter (fun p => p.2.cfg.inner = z)).map (fun p => p.1)
    let t := (into s).foldl (fun v d => v.closeDoor d) s
    let u := (into t).foldl (fun v d => v.closePairWait d) t
    let mine := fun (e : WaitEntry) => (u.door? e.door).map (fun r => r.cfg.inner) = some z
    let v := u.setAdm { u.adm with waits := u.adm.waits.filter (fun e => !decide (mine e)) }
    s.zoneCloses z = ((u.adm.waits.filter (fun e => decide (mine e))).foldl (fun w e =>
      let x := w.waitPerson e
      x.1.decided e.door { outcome := .refused, code := some .zoneClosed, person := x.2, time := some x.1.now })
      v).freezeReached) ∧
  (∀ (s : State) (e : WaitEntry), (e.credential = none → s.waitPerson e = (s, none)) ∧
    ∀ c, e.credential = some c → s.waitPerson e = ((s.resolve c).1, (s.resolve c).2.person?)) ∧
  (∀ (s : State) (d : Nat) (r : DoorRec), s.door? d = some r →
    let refused := fun (v : State) (p g : Option Nat) => v.decided d
      { outcome := .refused, code := some .zoneClosed, person := p, grant := g, time := some v.now }
    let each := fun (xs : List Passage) (v : State) => xs.foldl (fun v x => refused v x.person x.grant) v
    (∀ c, r.cycle = some c →
      let exits := c.passages.filter (fun x => x.dir = .exit)
      let w := each (c.passages.filter (fun x => x.dir = .entry))
        (s.putDoor d { r with cycle := some { c with passages := exits } })
      (r.state = .interlockWait → s.closeDoor d =
        if exits = [] ∧ c.unlisted = false then w.toSecured d else w) ∧
      (r.state = .forced → s.closeDoor d = if c.waiting = true then w else s) ∧
      (r.state = .releasing ∨ r.state = .released → s.closeDoor d =
        if exits = [] ∧ c.unlisted = false then each c.passages (s.toSecured d) else s)) ∧
    (r.state = .opened ∨ r.state = .held ∨ r.state = .secured ∨ r.state = .relocking ∨ r.state = .unknown ∨
      r.cycle = none → s.closeDoor d = s) ∧
    (r.pairWait = none → s.closePairWait d = s) ∧
    (∀ w, r.pairWait = some w → s.closePairWait d =
      refused (s.putDoor d { r with pairWait := none }) (some w.person) w.grant))

/-- The three deadlines of a sound record in an AFTER zone (R92, R93, R95): the dwell deadline flags OVERDUE and stays,
and is not taken again while OVERDUE; the check-in deadline flags MISSING and becomes absent; the pair-grace deadline
becomes absent. Each raises its alarm for the person and the record's zone, the person in the person field too (log
entry 28). A pair wait whose window is over ends, and its presenter is refused PAIR_TIMEOUT with the grant held (R71).
The oldest wait-list entry that has waited 8 s leaves the list and is refused WAIT_EXPIRED at its door, with the person
its credential resolves to at that moment, which is log entry 54 (R78); that the command names no entry, and so takes
the oldest, is log entry 32. The tables are read first (log entry 5). -/
def Obligations.WaitsAndDeadlines : Prop :=
  (∀ (s : State) (i : Nat) (r : OccRec) (z : ZoneRec),
    let u := s.readTables
    u.occ? i = some r → r.suspect = false → u.zone? r.zone = some z → z.hours = .after →
    (∀ t, r.dwell = some t → t ≤ u.now → r.overdue = false → exec (.dwellDeadline i) s =
      .next ((u.putOcc i { r with overdue := true }).raise .dwellOverrun (.person r.person) (some r.zone)
        (some r.person)).finish) ∧
    (r.overdue = true → exec (.dwellDeadline i) s = .next u.finish) ∧
    (∀ t, r.checkin = some t → t ≤ u.now → exec (.checkinDeadline i) s =
      .next ((u.putOcc i { r with missing := true, checkin := none }).raise .checkinMissed (.person r.person)
        (some r.zone) (some r.person)).finish) ∧
    (∀ t, r.pairGrace = some t → t ≤ u.now → exec (.pairGraceDeadline i) s =
      .next ((u.putOcc i { r with pairGrace := none }).raise .pairBroken (.person r.person) (some r.zone)
        (some r.person)).finish)) ∧
  ((∀ (s : State) (d : Nat) (r : DoorRec) (w : PairWait),
    let u := s.readTables
    u.door? d = some r → r.pairWait = some w → w.start * 10 + w.window * 100 ≤ u.nowCs →
    exec (.pairWindowExpiry d) s = .next ((u.putDoor d { r with pairWait := none }).decided d
      { outcome := .refused, code := some .pairTimeout, person := some w.person, grant := w.grant,
        time := some u.now }).finish) ∧
  (∀ (s : State) (e : WaitEntry) (rest : List WaitEntry) (c : Nat),
    let u := s.readTables
    u.adm.waits = e :: rest → e.arrival * 10 + 800 ≤ u.nowCs → e.credential = some c →
    let x := ((u.setAdm { u.adm with waits := rest }).resolve c)
    exec .waitExpired s = .next (x.1.decided e.door
      { outcome := .refused, code := some .waitExpired, person := x.2.person?, time := some x.1.now }).finish))

/-! ## Agents -/

/-- ISOLATE sets the isolated flag and raises ISOLATED; DEISOLATE clears the flag, ends ISOLATED and re-evaluates; each
is OK with no change on an agent already so, and WRONG_STATE on an UNCONFIGURED one (R131). VENT_CLEAR is SUSPECT for a
suspect agent, and WRONG_STATE outside DISCHARGED or before the soak time; else DISCHARGE_UNCONFIRMED ends, and the
agent enters NORMAL, its discharge time absent, with a re-evaluation when AGENT_READY is set, and SPENT when it is
clear (R129). The field ids of these answers are the model's (log entry 27). The tables are read first (log entry 5).
-/
def Obligations.AgentRequests : Prop :=
  ∀ (s : State) (tag : Byte) (a : Nat), s.portTakes = true → a ≤ 7 →
    let u := s.asked
    let q := u.agent a
    exec (.isolate (keyReq tag a)) s = .next
      (if q.state = .unconfigured then u.answeredNo tag .wrongState
       else if q.isolated then u.answeredOk tag []
       else (((u.putAgent a { q with isolated := true }).raise .isolated (.agent a) q.cfg.top none).settle).answeredOk
         tag []) ∧
    exec (.deisolate (keyReq tag a)) s = .next
      (if q.state = .unconfigured then u.answeredNo tag .wrongState
       else if !q.isolated then u.answeredOk tag []
       else ((((u.putAgent a { q with isolated := false }).endAlarm .isolated (.agent a)).settle).reevaluate a).answeredOk
         tag []) ∧
    (let v := u.endAlarm .dischargeUnconfirmed (.agent a)
     let w := if q.cw.getLsbD 14 then
         ((v.putAgent a { q with dischargeTime := none }).enterState a .normal).reevaluate a
       else v.enterState a .spent
     exec (.ventClear (keyReq tag a)) s = .next
       (if q.suspect then u.answeredNo tag .suspect
        else if q.state ≠ .discharged then u.answeredNo tag .wrongState
        else match q.dischargeTime with
          | none => u.answeredNo tag .wrongState
          | some t =>
            if u.now < t + q.cfg.soak * 60 then u.answeredNo tag .wrongState
            else w.answeredOk tag [fldN 32 1 (agentCode (w.agent a).state)]))

/-- When the deadline of COUNTDOWN is reached, OCC_CLEAR and DOORS_CLOSED decide: with both the agent enters DISCHARGE
with the flag set, otherwise OCCUPIED_HOLD, which is raised (R125, R126). A suspect agent's deadline is taken so too,
the two bits being read from the records (R132; that reading is log entry 14). When the confirmation deadline is
reached with no pressure seen, the agent enters DISCHARGED, its discharge time now and its flag, times and echo
cleared, and both DISCHARGE and DISCHARGE_UNCONFIRMED are raised (R127). The tables are read first (log entry 5). -/
def Obligations.AgentDeadlines : Prop :=
  ∀ (s : State) (a t : Nat), a ≤ 7 →
    let u := s.readTables
    let q := u.agent a
    (q.state = .countdown → q.deadline = some t → t ≤ u.now →
      exec (.countdownDeadline a) s = .next
        (if u.occClear a = true ∧ u.doorsClosed a = true then
           (u.putAgent a { q with flag := true, echoed := false }).enterState a .discharge
         else (u.enterState a .occupiedHold).raiseAgent a .occupiedHold).finish) ∧
    (q.state = .discharge → q.echoed = true → q.confirmBy = some t → t ≤ u.now →
      exec (.confirmationDeadline a) s = .next
        ((((u.putAgent a { q with
            dischargeTime := some u.now, flag := false, t0 := none, deadline := none, bound := none, confirmBy := none,
            echoed := false }).enterState a .discharged).raiseAgent a .discharge).raiseAgent a
          .dischargeUnconfirmed).finish)

/-- The four bits of a channel (R110): FAULT and OVER by the value; ALERT and FIRE by their effective thresholds, kept
in the hysteresis band, then forced clear by FAULT and set by OVER; FAULT and OVER never together. The release logic:
the eight operations write what R113 says, each to its target bit alone, the terms in table order with each reading the
bits as they then stand; after the last the two outputs are the bits of the selectors, and no other agent changes
(R114). A suspect table is evaluated as the reset logic, and by that logic the alert output is C1_ALERT or C2_ALERT,
and the release output both fires, or one fire with the other channel's fault (R115). -/
def Obligations.LogicEvaluates : Prop :=
  (∀ (c : Channel) (v : Nat) (alert fire : Bool), c.floor ≤ 1022 → v ≤ 1023 →
    let aEff := max c.alert (c.floor + 1)
    let fEff := max c.fire aEff
    let b := detect c v alert fire
    (b.fault = true ↔ v < c.floor) ∧ (b.overRange = true ↔ v = 1023) ∧ ¬ (b.fault = true ∧ b.overRange = true) ∧
    (b.fault = true → b.alert = false ∧ b.fire = false) ∧ (b.overRange = true → b.alert = true ∧ b.fire = true) ∧
    (b.fault = false → b.overRange = false →
      (aEff ≤ v → b.alert = true) ∧ (v + c.hyst < aEff → b.alert = false) ∧
      (v < aEff → aEff ≤ v + c.hyst → b.alert = alert) ∧
      (fEff ≤ v → b.fire = true) ∧ (v + c.hyst < fEff → b.fire = false) ∧
      (v < fEff → fEff ≤ v + c.hyst → b.fire = fire))) ∧
  (∀ a b : Bool, opResult .and a b = (a && b) ∧ opResult .andc a b = (a && !b) ∧ opResult .or a b = (a || b) ∧
    opResult .orc a b = (a || !b) ∧ opResult .nand a b = !(a && b) ∧ opResult .nor a b = !(a || b) ∧
    opResult .xor a b = (a ^^ b) ∧ opResult .eqv a b = !(a ^^ b)) ∧
  (∀ (w : BitVec 32) (t : Term) (ts : List Term) (i : Nat), t.target < 32 →
    let v := setBit w t.target (opResult t.op (w.getLsbD t.a) (w.getLsbD t.b))
    runTerms w (t :: ts) = runTerms v ts ∧
    v.getLsbD i = if i = t.target then opResult t.op (w.getLsbD t.a) (w.getLsbD t.b) else w.getLsbD i) ∧
  (∀ (s : State) (a b : Nat), a < 8 →
    let l := if (s.logicRec a).suspect then { terms := resetTerms, alertSel := 20, releaseSel := 25 } else (s.logicRec a).cfg
    let w := runTerms (s.agent a).cw l.terms
    (s.evaluate a).agent a = { s.agent a with cw := w, alertOut := w.getLsbD l.alertSel,
                                              releaseOut := w.getLsbD l.releaseSel } ∧
    (b ≠ a → (s.evaluate a).agent b = s.agent b) ∧ (s.evaluate a).alm = s.alm) ∧
  (∀ w : BitVec 32, (runTerms w resetTerms).getLsbD 20 = (w.getLsbD 0 || w.getLsbD 3) ∧
    (runTerms w resetTerms).getLsbD 25 =
      (w.getLsbD 1 && w.getLsbD 4 || (w.getLsbD 1 && w.getLsbD 5 || w.getLsbD 4 && w.getLsbD 2)))

/-- The Release Unit takes changed inputs. The derived inputs are the bits 10 to 13, 15 and 16 with the sources of
R112, and bit 17 set: OCC_CLEAR, that every covered zone has no record and no reservation and is verified;
DOORS_CLOSED, that every door into one is SECURED or RELOCKING; AFTER_HOURS, that the top zone is AFTER; DURESS_OPEN,
that an open DURESS record has a covered zone in its zone field (R151); STATION_OK, that the station that serves the
agent is ANSWERING; ISOLATED, the flag. A zone is covered that is the top zone or lies beneath it (R13), and a suspect
agent's top zone counts while it is configured and under no other agent's stored top zone (R132; log entry 57). Where
none of those an agent follows has changed nothing happens, and else the bits are stored and, while the logic runs, one
evaluation is made whose outputs act as the changes that they are (R114); a suspect agent follows STATION_OK alone
(R130, R132; log entry 14), and one that was rewritten while suspect stores its bits without an evaluation until its
next report (R132; log entry 15). A rise of the alert output raises SUPPRESSION_ALERT and takes NORMAL to ALERT, a fall
ends it and takes ALERT to NORMAL (R121); a rise of the release output begins a release in NORMAL and ALERT while the
isolated flag is clear (R122). A re-evaluation reads the outputs and MANUAL as levels, in NORMAL and ALERT of a sound
agent (R121). -/
def Obligations.InputsEvaluate : Prop :=
  ∀ (s : State) (a : Nat),
    let q := s.agent a
    let mask : BitVec 32 := if q.state = .unconfigured then 0#32 else if q.suspect then 0x00008000#32 else 0x0003BC00#32
    let w := (q.cw &&& ~~~mask) ||| (s.derivedWord a &&& mask)
    let t := s.putAgent a { q with cw := w }
    (State.rereadAgent derivedMask s a =
      if w = q.cw then s
      else if q.suspect = true ∨ q.halted = true then t
      else (t.evaluate a).actOutputs a q.alertOut q.releaseOut) ∧
    ((s.derivedWord a).getLsbD 10 = s.occClear a ∧ (s.derivedWord a).getLsbD 11 = s.doorsClosed a ∧
      (s.derivedWord a).getLsbD 12 = s.afterHours a ∧ (s.derivedWord a).getLsbD 13 = s.duressOpen a ∧
      (s.derivedWord a).getLsbD 15 = s.stationOk a ∧ (s.derivedWord a).getLsbD 16 = q.isolated ∧
      (s.derivedWord a).getLsbD 17 = true) ∧
    ((s.occClear a = true ↔ ∀ z y, s.zone? z = some y → s.covers a z = true →
        s.occupants z = 0 ∧ s.reservations z = 0 ∧ y.verified = true) ∧
      (s.doorsClosed a = true ↔ ∀ d r, (d, r) ∈ s.door.doors → s.covers a r.cfg.inner = true →
        r.state = .secured ∨ r.state = .relocking) ∧
      (s.afterHours a = true ↔ ∃ x y, s.effectiveTop a = some x ∧ s.zone? x = some y ∧ y.hours = .after) ∧
      (s.duressOpen a = true ↔ ∃ n r z, (n, r) ∈ s.alm.recs ∧ r.kind = some .duress ∧ r.zone = some z ∧
        (s.zone? z).isSome = true ∧ s.covers a z = true) ∧
      (s.stationOk a = true ↔ ∃ k st, q.cfg.station = some k ∧ s.station? k = some st ∧ st.cfg = ⟨.agent, a⟩ ∧
        st.suspect = false ∧ st.link = .answering) ∧
      (∀ z, s.covers a z = true ↔ ∃ x, s.effectiveTop a = some x ∧ s.isUnder z x = true) ∧
      (∀ x, s.effectiveTop a = some x ↔ q.cfg.top = some x ∧ (q.suspect = true → (s.zone? x).isSome = true ∧
        ∀ b y, b < 8 → b ≠ a → (s.agent b).cfg.top = some y → s.isUnder x y = false))) ∧
    (q.alertOut = true → s.actAlert a false = (let v := s.raise .suppressionAlert (.agent a) q.cfg.top none
      if q.state = .normal then v.enterState a .alert else v)) ∧
    (q.alertOut = false → s.actAlert a true = (let v := s.endAlarm .suppressionAlert (.agent a)
      if q.state = .alert then v.enterState a .normal else v)) ∧
    (s.actAlert a q.alertOut = s) ∧
    (q.releaseOut = true → q.isolated = false → (q.state = .normal ∨ q.state = .alert) →
      s.actRelease a false = s.beginRelease a) ∧
    (q.releaseOut = false ∨ q.isolated = true ∨ (q.state ≠ .normal ∧ q.state ≠ .alert) → s.actRelease a false = s) ∧
    (s.actRelease a true = s) ∧
    (∀ alert release, s.actOutputs a alert release = (s.actAlert a alert).actRelease a release) ∧
    ((q.state ≠ .normal ∧ q.state ≠ .alert) ∨ q.suspect = true → s.reevaluate a = s) ∧
    ((q.state = .normal ∨ q.state = .alert) → q.suspect = false →
      let called := (q.releaseOut = true ∧ q.isolated = false) ∨ q.cw.getLsbD 6 = true
      (called → s.reevaluate a = s.beginRelease a) ∧
      (¬ called → q.alertOut = true → s.reevaluate a =
        if q.state = .normal then (s.raise .suppressionAlert (.agent a) q.cfg.top none).enterState a .alert else s) ∧
      (¬ called → q.alertOut = false → s.reevaluate a = if q.state = .alert then s.enterState a .normal else s))

/-- The egress allowance and the deadline. In a zone on the path W and the traverse time are added, 180 s for a suspect
zone, the sum half as long again, rounded up, for an assisted person and a suspect one, and Dm for a suspect occupancy
record (R116); E is the largest over the covered records, and 0 with none. The deadline at t0 lies between t0 + Db and
t0 + Dm (R117), and a recompute never moves it later; one that is then at or before now is taken at once (R118). A
person without a record counts as a suspect one (log entry 19). -/
def Obligations.EgressDeadline : Prop :=
  (∀ (s : State) (a top : Nat) (r : OccRec),
    let e := ((s.pathTo r.zone top).map (fun z => s.zoneCost z)).sum
    s.allowance a top r =
      if r.suspect then max (s.agent a).cfg.dmax (s.agent a).cfg.db
      else match s.person? r.person with
        | none => (3 * e + 1) / 2
        | some q => if q.cfg.assisted = true ∨ q.suspect = true then (3 * e + 1) / 2 else e) ∧
  (∀ (s : State) (z : Nat) (r : ZoneRec), s.zone? z = some r → s.zoneCost z =
    if r.suspect then 180
    else r.cfg.walk + (match r.cfg.egressDoor.bind s.door? with
      | none => 60
      | some d => if d.suspect = true ∨ (s.classRec d.cfg.cls).suspect = true then 8
                  else (s.classRec d.cfg.cls).cfg.traverse)) ∧
  (∀ (s : State) (a top : Nat), s.effectiveTop a = some top →
    let x := s.egressTime a
    (∀ i r, (i, r) ∈ s.occ.recs → s.covers a r.zone = true → x.1.allowance a top r ≤ x.2) ∧
    (x.2 = 0 ∨ ∃ i r, (i, r) ∈ s.occ.recs ∧ s.covers a r.zone = true ∧ x.1.allowance a top r = x.2)) ∧
  (∀ (c : AgentCfg) (t0 e : Nat),
    let dm := max c.dmax c.db
    State.deadlineAt c t0 t0 e = min (t0 + dm) (t0 + max c.db (e + c.margin)) ∧
    t0 + c.db ≤ State.deadlineAt c t0 t0 e ∧ State.deadlineAt c t0 t0 e ≤ t0 + dm) ∧
  (∀ (s : State) (a t0 dl : Nat), a < 8 → (s.agent a).t0 = some t0 → (s.agent a).deadline = some dl →
    let c := (s.agent a).cfg
    let x := s.egressTime a
    let dl' := min dl (min (t0 + max c.dmax c.db) (max (t0 + c.db) (s.now + x.2 + c.margin)))
    ((s.agent a).state = .countdown → (s.agent a).kind = .opening → (s.agent a).suspect = false →
      let v := x.1.putAgent a { s.agent a with deadline := some dl' }
      (s.now < dl' → s.recompute a = v) ∧
      (dl' ≤ s.now → s.recompute a = v.deadlineTaken a)) ∧
    ((s.agent a).state ≠ .countdown ∨ (s.agent a).kind = .closing ∨ (s.agent a).suspect = true → s.recompute a = s))

/-- A release begins (R122): with ABORT clear the agent enters COUNTDOWN with t0 now, the deadline, bound and kind of
R117, and EGRESS_SHORTFALL raised when E and M exceed Dm; with ABORT set it enters ABORT_HELD without times;
PRE_DISCHARGE is raised in both. Entering a state ends the alarms of R119 and then gives the covered zones the entry
state of R109. -/
def Obligations.ReleaseBegins : Prop :=
  (∀ (s : State) (a : Nat), a < 8 →
    let q := s.agent a
    let dm := max q.cfg.dmax q.cfg.db
    (q.cw.getLsbD 7 = false →
      let x := s.egressTime a
      let v := x.1.putAgent a { q with
        t0 := some s.now, deadline := some (min (s.now + dm) (max (s.now + q.cfg.db) (s.now + x.2 + q.cfg.margin))),
        bound := some (s.now + dm), kind := .opening, echoed := false, confirmBy := none }
      let w := if dm < x.2 + q.cfg.margin then v.raise .egressShortfall (.agent a) q.cfg.top none else v
      s.beginRelease a = (w.raise .preDischarge (.agent a) q.cfg.top none).enterState a .countdown) ∧
    (q.cw.getLsbD 7 = true → s.beginRelease a =
      ((s.raise .preDischarge (.agent a) q.cfg.top none).putAgent a
        { q with t0 := none, deadline := none, bound := none }).enterState a .abortHeld)) ∧
  (∀ (s : State) (a : Nat) (new : AgentState), a < 8 →
    let old := (s.agent a).state
    let t1 := s.putAgent a { s.agent a with state := new }
    let t2 := if old = .countdown ∧ new ≠ .countdown then t1.endAlarm .egressShortfall (.agent a) else t1
    let t3 := if old = .occupiedHold ∧ new ≠ .occupiedHold then t2.endAlarm .occupiedHold (.agent a) else t2
    s.enterState a new = (if new = .countdown ∨ new = .abortHeld ∨ new = .occupiedHold ∨ new = .discharge then t3
      else t3.endAlarm .preDischarge (.agent a)).syncEntries) ∧
  (∀ (s : State) (z : Nat) (r : ZoneRec), s.zone? z = some r →
    (s.syncEntries.zone? z).map (fun q => q.entry) = some (match s.coveringAgent z with
      | none => .opened
      | some a => match (s.agent a).state with
        | .countdown | .abortHeld | .occupiedHold | .discharge => .egressOnly
        | .discharged => .flooded
        | _ => .opened))

/-- The hold and the gate. The gate is open exactly when every covered zone has no records, no reservations and is
verified and every door into one is SECURED or RELOCKING (R126). A sound agent in OCCUPIED_HOLD with the gate open
begins a closing countdown with deadline and bound now + M, taken at once where M is 0 (R117, R125). A flag that is set
and not echoed is withdrawn when the gate is shut, and the agent holds (R126). The hold of a suspect agent stays (log
entry 14). An agent whose ABORT sets in COUNTDOWN or OCCUPIED_HOLD, or in DISCHARGE before the echo, enters ABORT_HELD
without times and without the flag (R123). When ABORT clears in ABORT_HELD, a new release begins while the release
output is set without isolation, or MANUAL is set; otherwise the agent enters NORMAL, and from there ALERT with the
alert output set; a suspect agent, for which nothing begins, enters NORMAL (R124; R132 with log entry 14). In any other
state a clear ABORT changes nothing of its own. -/
def Obligations.HoldAndGate : Prop :=
  ∀ (s : State) (a : Nat), a < 8 →
    let q := s.agent a
    (s.gateOpen a = true ↔
      (∀ z r, (z, r) ∈ s.occ.zones → s.covers a z = true → s.occupants z = 0 ∧ s.reservations z = 0 ∧
        ∀ y, s.zone? z = some y → y.verified = true) ∧
      (∀ d r, (d, r) ∈ s.door.doors → s.covers a r.cfg.inner = true → r.state = .secured ∨ r.state = .relocking)) ∧
    (q.state = .occupiedHold → q.suspect = false → s.gateOpen a = true → s.readGate a =
      ((s.putAgent a { q with deadline := some (s.now + q.cfg.margin), bound := some (s.now + q.cfg.margin),
                              kind := .closing }).enterState a .countdown).takeCountdown a) ∧
    (q.state = .occupiedHold → (q.suspect = true ∨ s.gateOpen a = false) → s.readGate a = s) ∧
    (q.state = .discharge → q.flag = true → q.echoed = false → s.gateOpen a = false → s.readGate a =
      ((s.putAgent a { q with flag := false }).enterState a .occupiedHold).raiseAgent a .occupiedHold) ∧
    (q.state = .discharge → (q.flag = false ∨ q.echoed = true ∨ s.gateOpen a = true) → s.readGate a = s) ∧
    (q.state = .countdown ∨ q.state = .occupiedHold → s.abortSet a =
      (s.putAgent a { q with t0 := none, deadline := none, bound := none }).enterState a .abortHeld) ∧
    (q.state = .discharge → q.echoed = false → s.abortSet a =
      (s.putAgent a { q with t0 := none, deadline := none, bound := none, flag := false }).enterState a .abortHeld) ∧
    (q.state = .discharge → q.echoed = true → s.abortSet a = s) ∧
    (q.state = .abortHeld → q.suspect = false →
      ((q.releaseOut = true ∧ q.isolated = false) ∨ q.cw.getLsbD 6 = true → s.abortCleared a = s.beginRelease a) ∧
      (¬ ((q.releaseOut = true ∧ q.isolated = false) ∨ q.cw.getLsbD 6 = true) → s.abortCleared a =
        (let v := s.enterState a .normal
         if q.alertOut then (v.raise .suppressionAlert (.agent a) q.cfg.top none).enterState a .alert else v))) ∧
    (q.state = .abortHeld → q.suspect = true → s.abortCleared a = s.enterState a .normal) ∧
    (q.state ≠ .abortHeld → s.abortCleared a = s)

/-- An agent station's report is taken in the order of R120: the return of R130, the echo of R127, the pressure switch
of R128, the inputs of R110 and R112, and the acts. An UNCONFIGURED agent takes none. The first echo sets the
confirmation deadline and brings a hold to DISCHARGE; pressure brings DISCHARGED with DISCHARGE raised, or in
DISCHARGED ends DISCHARGE_UNCONFIRMED; a return ends AGENT_FAULT and takes FAULT to SPENT or NORMAL, and silence raises
AGENT_FAULT and takes NORMAL, ALERT and SPENT to FAULT (R130). The report's bits and the derived inputs are stored in
the condition word, DETECTOR_FAULT is raised and ended by the fault bits (R111), and one evaluation is made where a bit
has changed (R114), or at the first report after a rewrite (R132; log entry 15); then ABORT, MANUAL, the changes of the
outputs and AGENT_READY act in this order, each by what it was before the report (R120). Of its inputs a suspect agent
takes ABORT alone (R132). The first report after a warm restart is taken as a return and ends what no longer stands
(R133), and a report that brings FAULT to NORMAL is followed by a re-evaluation in place of the acts on the outputs
(R130): these, and that silence sets and clears the spent mark, are log entry 16. That channel 1 is taken before
channel 2 is log entry 61. That an echo in DISCHARGED and SPENT is not taken is log entry 22. -/
def Obligations.AgentReportTaken : Prop :=
  ∀ (s : State) (a : Nat), a < 8 →
    let q := s.agent a
    (∀ x returned echo, q.state = .unconfigured → s.agentReport a x returned echo = s) ∧
    (∀ x returned echo, q.state ≠ .unconfigured → s.agentReport a x returned echo =
      (let t := s.putAgent a { q with awaitFirst := false }
       let t1 := if returned = true ∨ q.awaitFirst = true then t.agentReturn a x.ready else t
       let t2 := if echo then t1.takeEcho a else t1
       let t3 := if x.pressure then t2.takePressure a else t2
       (t3.takeBits a x (q.state = .fault && (t1.agent a).state = .normal) q.awaitFirst).settle)) ∧
    (q.echoed = false →
      let t := s.putAgent a { q with echoed := true, confirmBy := some (s.now + q.cfg.confirm) }
      (q.state = .discharge → s.takeEcho a = t) ∧
      (q.state = .occupiedHold ∨ q.state = .abortHeld → s.takeEcho a = t.enterState a .discharge)) ∧
    (q.state = .discharged ∨ q.state = .spent ∨ q.echoed = true → s.takeEcho a = s) ∧
    (q.state = .discharged → s.takePressure a = s.endAlarm .dischargeUnconfirmed (.agent a)) ∧
    (q.state ≠ .discharged → q.state ≠ .unconfigured → s.takePressure a =
      ((s.putAgent a { q with
        dischargeTime := some s.now, flag := false, t0 := none, deadline := none, bound := none, confirmBy := none,
        echoed := false }).enterState a .discharged).raiseAgent a .discharge) ∧
    (∀ ready, q.state = .fault → let v := s.endAlarm .agentFault (.agent a)
      (q.spentMark = true → ready = false →
        s.agentReturn a ready = (v.putAgent a { q with spentMark := false }).enterState a .spent) ∧
      (q.spentMark = false ∨ ready = true → s.agentReturn a ready =
        (v.putAgent a { q with spentMark := false, dischargeTime := none }).enterState a .normal)) ∧
    (let v := s.raise .agentFault (.agent a) q.cfg.top none
     (q.state = .normal ∨ q.state = .alert → s.agentSilent a =
       (v.putAgent a { q with spentMark := false }).enterState a .fault) ∧
     (q.state = .spent → s.agentSilent a = (v.putAgent a { q with spentMark := true }).enterState a .fault) ∧
     (q.state = .countdown ∨ q.state = .abortHeld ∨ q.state = .occupiedHold ∨ q.state = .discharge ∨
       q.state = .discharged → s.agentSilent a = v)) ∧
    (∀ (x : State.AgentReport) (back first : Bool),
      let begun := fun (v : State) => if first then v.firstReport a else v
      (q.suspect = true → s.takeBits a x back first =
        (begun (s.putAgent a { q with cw := setBit q.cw 7 x.abort })).actAbort a (q.cw.getLsbD 7)) ∧
      (q.suspect = false → s.takeBits a x back first =
        (let t := begun (s.takeInputs a x)
         let u := if back then t.reevaluate a else t
         let v := (u.actAbort a (q.cw.getLsbD 7)).actManual a (q.cw.getLsbD 6)
         (if back then v else v.actOutputs a q.alertOut q.releaseOut).actReady a (q.cw.getLsbD 14)))) ∧
    (∀ x : State.AgentReport,
      let w := (State.inputWord q x &&& ~~~ 0x0003BC00#32) ||| (s.derivedWord a &&& 0x0003BC00#32)
      let t := s.putAgent a { q with cw := w, halted := false }
      let u := (t.actFault a (q.cw.getLsbD 2) (w.getLsbD 2) (q.cw.getLsbD 5)).actFault a (q.cw.getLsbD 5) (w.getLsbD 5)
        (w.getLsbD 2)
      s.takeInputs a x = if w = q.cw ∧ q.halted = false then u else u.evaluate a) ∧
    (∀ before after other, s.actFault a before after other =
      (if before = false ∧ after = true then s.raise .detectorFault (.agent a) q.cfg.top none
       else if before = true ∧ after = false ∧ other = false then s.endAlarm .detectorFault (.agent a) else s)) ∧
    (let t := if q.cw.getLsbD 2 = true ∨ q.cw.getLsbD 5 = true then s else s.endAlarm .detectorFault (.agent a)
     let u := if q.alertOut = true then t else t.endAlarm .suppressionAlert (.agent a)
     s.firstReport a = if q.state = .normal then u.reevaluate a else u) ∧
    (∀ before, s.actAbort a before =
      (if before = q.cw.getLsbD 7 then s else if before = false then s.abortSet a else s.abortCleared a) ∧
      s.actManual a before = (if before = false ∧ q.cw.getLsbD 6 = true ∧ (q.state = .normal ∨ q.state = .alert) then
        s.beginRelease a else s) ∧
      s.actReady a before = (if before = false ∧ q.cw.getLsbD 14 = true ∧ q.state = .spent then
        ((s.putAgent a { q with dischargeTime := none }).enterState a .normal).reevaluate a else s)) ∧
    (∀ x : State.AgentReport, let w := State.inputWord q x
      let c1 := detect q.cfg.ch1 x.v1 (q.cw.getLsbD 0) (q.cw.getLsbD 1)
      let c2 := detect q.cfg.ch2 x.v2 (q.cw.getLsbD 3) (q.cw.getLsbD 4)
      (List.range 32).map (fun i => w.getLsbD i) =
        [c1.alert, c1.fire, c1.fault, c2.alert, c2.fire, c2.fault, x.manual, x.abort, x.spareA, x.spareB] ++
        ([10, 11, 12, 13].map (fun i => q.cw.getLsbD i)) ++ [x.ready] ++ ([15, 16, 17].map (fun i => q.cw.getLsbD i)) ++
        [c1.overRange, c2.overRange] ++ ([20, 21, 22, 23, 24, 25, 26, 27, 28, 29, 30, 31].map (fun i => q.cw.getLsbD i)))

/-! ## Alarms -/

/-- A raise (R138). With an open ordinary record of the kind and subject it is merged: the count rises by one up to
255, last-raised-at is now, the ended flag is cleared (set for a momentary kind), zone and person are replaced where
the raise carries them, all else stays. Otherwise a record is made in the lowest free place with the route of its kind
(R135, R137); with no place free it takes that of the acknowledged record of the highest class above its own, the
earliest raised, which is counted as overflow with its delivery (R139); and with none to evict it is counted itself
(R140). A kind at or above the route limit is routed to class 0, NOTIFY, OFF and raises ROUTE_FAULT too (R137), after
its own record (log entry 20). DURESS has class 0 in every case (R136). -/
def Obligations.RaisePlaces : Prop :=
  (∀ (u : AlarmUnit) (now n : Nat) (k : Kind) (j : Subject) (z p : Option Nat) (r : AlarmRec),
    u.openRecord k j = some (n, r) →
    (u.raiseOne now k j z p).recs.find n = some { r with
      count := min 255 (r.count + 1), lastRaised := now, ended := isMomentary k,
      zone := if z.isSome then z else r.zone, person := if p.isSome then p else r.person } ∧
    (∀ m, m ≠ n → (u.raiseOne now k j z p).recs.find m = u.recs.find m) ∧
    (u.raiseOne now k j z p).holds = u.holds ∧ (u.raiseOne now k j z p).mask = u.mask) ∧
  (∀ (u : AlarmUnit) (now : Nat) (k : Kind) (j : Subject) (z p : Option Nat), u.openRecord k j = none →
    let made : AlarmRec :=
      { kind := some k, subject := some j, zone := z, person := p, raisedAt := now, lastRaised := now, count := 1,
        state := .raised, ended := isMomentary k, latching := isLatching k, cls := (u.routeTaken k).cls,
        delivery := (u.routeTaken k).delivery, sounder := (u.routeTaken k).sounder }
    (∀ n, n < 60 → u.recs.find n = none → (∀ m < n, (u.recs.find m).isSome = true) →
      u.raiseOne now k j z p = { u with recs := u.recs.put n made }) ∧
    ((∀ n < 60, (u.recs.find n).isSome = true) →
      (∀ n v, u.victim (u.routeTaken k).cls = some (n, v) → u.raiseOne now k j z p =
        (let w := (u.remove n).count now v.cls (v.delivery = .forward)
         { w with recs := w.recs.put n made })) ∧
      (u.victim (u.routeTaken k).cls = none → u.raiseOne now k j z p =
        u.count now (u.routeTaken k).cls ((u.routeTaken k).delivery = .forward)))) ∧
  (∀ (u : AlarmUnit) (c n : Nat) (v : AlarmRec), u.recs.wf = true → u.victim c = some (n, v) →
    u.recs.find n = some v ∧ n < 60 ∧ v.state = .acknowledged ∧ c < v.cls ∧ v.cls ≤ 3 ∧
    ∀ m w, u.recs.find m = some w → m < 60 → w.state = .acknowledged → w.cls ≤ 3 →
      w.cls < v.cls ∨ (w.cls = v.cls ∧ (v.raisedAt < w.raisedAt ∨ (v.raisedAt = w.raisedAt ∧ n ≤ m)))) ∧
  (∀ (u : AlarmUnit) (now c : Nat) (fwd : Bool), 
    let counted : AlarmRec := match u.recs.find (60 + c) with
      | none => { kind := none, subject := none, raisedAt := now, lastRaised := now, count := 1, state := .raised,
                  ended := true, cls := c, delivery := if fwd then .forward else .notify }
      | some r => { r with count := min 255 (r.count + 1), lastRaised := now,
                           delivery := if fwd then .forward else r.delivery }
    u.count now c fwd = { u with recs := u.recs.put (60 + c) counted }) ∧
  (∀ (u : AlarmUnit) (now : Nat) (k : Kind) (j : Subject) (z p : Option Nat),
    (u.limitInForce ≤ kindNum k → k ≠ .routeFault → k ≠ .duress → u.routeTaken k = ⟨0, .notify, .off⟩ ∧ u.raise now k j z p =
      (u.raiseOne now k j z p).raiseOne now .routeFault (.record .route (kindNum k)) none none) ∧
    (kindNum k < u.limitInForce → u.raise now k j z p = u.raiseOne now k j z p ∧
      ((u.routeRec (kindNum k)).suspect = false → k ≠ .duress → u.routeTaken k = (u.routeRec (kindNum k)).cfg)) ∧
    (u.routeTaken .duress).cls = 0)

/-- An end (R141): nothing for no open record, a latching one or one whose condition has ended; else the condition is
ended, and an ACKNOWLEDGED record is retired with its number out of every hold set (R144). A withdrawal ends every open
ordinary record with its subject, latching or not, and no other (R141). -/
def Obligations.AlarmEnds : Prop :=
  (∀ (u : AlarmUnit) (k : Kind) (j : Subject), u.openRecord k j = none → u.endKind k j = u) ∧
  (∀ (u : AlarmUnit) (k : Kind) (j : Subject) (n : Nat) (r : AlarmRec), u.openRecord k j = some (n, r) →
    (r.latching = true ∨ r.ended = true → u.endKind k j = u) ∧
    (r.latching = false → r.ended = false → u.endKind k j =
      if r.state = .acknowledged then
        { u with recs := u.recs.del n, holds := u.holds.filter (fun h => h.2 != n) }
      else { u with recs := u.recs.put n { r with ended := true } })) ∧
  (∀ (u : AlarmUnit) (j : Subject) (n : Nat), u.recs.wf = true →
    (u.withdraw j).recs.find n = match u.recs.find n with
      | none => none
      | some r =>
        if n < 60 ∧ r.subject = some j then
          (if r.state = .acknowledged then none else some { r with ended := true })
        else some r)

/-- NEXT_NOTICE (R147): EMPTY when no record is presentable; otherwise the presentable record of the lowest class, then
the earliest raised-at, then the lowest number, becomes NOTIFIED, joins its class's hold set when its delivery is
NOTIFY_AND_MASK (R146), and is answered with its image. A record is presentable while it is RAISED, and for DURESS no
DURESS record is NOTIFIED, for another kind its delivery is not LOCAL and its class neither masked nor held back
(R145). The NOTICE line is asserted exactly while a record is presentable (R147), and the FORWARD line exactly while a
record with delivery FORWARD is RAISED or NOTIFIED (R148). The tables are read first (log entry 5). -/
def Obligations.NextNoticePresents : Prop :=
  (∀ (s : State) (tag : Byte), s.portTakes = true →
    let u := s.asked
    (∀ p ∈ u.alm.recs, u.alm.presentable p.2 = false) →
    exec (.nextNotice (bareReq tag)) s = .next (u.answeredNo tag .empty)) ∧
  (∀ (s : State) (tag : Byte) (n : Nat) (a : AlarmRec), s.portTakes = true →
    let u := s.asked
    u.alm.recs.wf = true → u.alm.recs.find n = some a → u.alm.presentable a = true →
    (∀ m b, u.alm.recs.find m = some b → u.alm.presentable b = true → m ≠ n →
      a.cls < b.cls ∨ (a.cls = b.cls ∧ (a.raisedAt < b.raisedAt ∨ (a.raisedAt = b.raisedAt ∧ n < m)))) →
    exec (.nextNotice (bareReq tag)) s = .next ((u.setAlm { u.alm with
      recs := u.alm.recs.put n { a with state := .notified },
      holds := if a.delivery = .notifyAndMask ∧ (a.cls, n) ∉ u.alm.holds then u.alm.holds ++ [(a.cls, n)]
               else u.alm.holds }).respond tag (okWith (alarmImage n { a with state := .notified })))) ∧
  (∀ (u : AlarmUnit) (a : AlarmRec), u.presentable a = true ↔ a.state = .raised ∧
    if a.kind = some .duress then ¬ ∃ p ∈ u.recs, p.2.kind = some .duress ∧ p.2.state = .notified
    else a.delivery ≠ .localOnly ∧ u.mask.getLsbD a.cls = false ∧ ¬ ∃ h ∈ u.holds, h.1 = a.cls) ∧
  (∀ u : AlarmUnit,
    (u.noticeLine = true ↔ ∃ n r, (n, r) ∈ u.recs ∧ u.presentable r = true) ∧
    (u.forwardLine = true ↔ ∃ n r, (n, r) ∈ u.recs ∧ r.delivery = .forward ∧ (r.state = .raised ∨ r.state = .notified)))

/-- ACKNOWLEDGE (R143): a number above 63 is BAD_VALUE and a free place NOT_FOUND, OK with no change for an
ACKNOWLEDGED record; another leaves its hold set and is retired if its condition has ended, else becomes ACKNOWLEDGED;
a HELD door is told of its DOOR_HELD record and sets its held inhibit. SET_MASK replaces the class mask by the set it
carries, bit c for class c, and answers it; a set with a class outside 0..3 is BAD_VALUE (R145, R184). RESTORE (R142):
a number above 63 is BAD_VALUE, a free place NOT_FOUND, an overflow or non-latching record WRONG_STATE; a latching
record whose condition has ended is OK with no change; one that is RAISED or NOTIFIED gets its condition ended and
keeps its state; an ACKNOWLEDGED one is retired. The answer carries the resulting state, or RETIRED. A later raise of
the same kind and subject clears the condition-ended flag of a latching record. The field ids of these answers are the
model's (log entry 27). The tables are read first (log entry 5). -/
def Obligations.AlarmRequests : Prop :=
  (∀ (s : State) (tag : Byte) (n : Nat), s.portTakes = true → n ≤ 255 →
    let t := s.asked
    exec (.acknowledge (keyReq tag n)) s = .next
      (if 63 < n then t.answeredNo tag .badValue
       else match t.alm.recs.find n with
       | none => t.answeredNo tag .notFound
       | some a =>
         if a.state = .acknowledged then t.answeredOk tag [fldN 9 1 2]
         else
           let u := match a.kind, a.subject with
             | some .doorHeld, some (.door d) => t.changeDoor d (fun r =>
                 if r.state = DoorState.held then { r with heldInhibit := true } else r)
             | _, _ => t
           let free := t.alm.holds.filter (fun h => h.2 != n)
           if a.ended then
             (u.setAlm { t.alm with holds := free, recs := t.alm.recs.del n }).answeredOk tag [fldN 9 1 3]
           else
             (u.setAlm { t.alm with holds := free, recs := t.alm.recs.put n { a with state := .acknowledged }
               }).answeredOk tag [fldN 9 1 2]) ∧
    exec (.setMask { tag := tag, fields := [fldN 1 1 n] }) s = .next
      (if n ≤ 15 then
         (t.setAlm { t.alm with mask := BitVec.ofNat 4 n, maskOk := true }).respond tag (okWith [fldN 1 1 n])
       else t.answeredNo tag .badValue)) ∧
  (∀ (s : State) (tag : Byte) (n : Nat), s.portTakes = true → n ≤ 255 →
    let t := s.asked
    exec (.restore (keyReq tag n)) s = .next
      (if 63 < n then t.answeredNo tag .badValue
       else match t.alm.recs.find n with
         | none => t.answeredNo tag .notFound
         | some a =>
           if a.kind = none ∨ a.latching = false then t.answeredNo tag .wrongState
           else if a.ended then t.answeredOk tag [fldN 9 1 (alarmCode a.state)]
           else if a.state = .acknowledged then
             (t.setAlm { t.alm with
               holds := t.alm.holds.filter (fun h => h.2 != n), recs := t.alm.recs.del n }).answeredOk tag [fldN 9 1 3]
           else (t.setAlm { t.alm with recs := t.alm.recs.put n { a with ended := true } }).answeredOk tag
             [fldN 9 1 (alarmCode a.state)]) ∧
    ∀ a k j now z p, s.alm.openRecord k j = some (n, a) → isMomentary k = false →
      ∃ b, (s.alm.raiseOne now k j z p).recs.find n = some b ∧ b.ended = false ∧ b.state = a.state)

/-! ## Stations -/

/-- A free transmitter takes a station by the lanes, as they stand once the tables are read: the safety lane first,
then the door and the rotation lane in turn, the rotation going on, ascending and cyclic over the stations that are not
suspect, after the station last taken from it; the station taken leaves the safety and door lanes, the turn passes, and
the rotation position moves when the rotation lane goes (R163). A suspect station is never taken (R166). The poll
carries the fresh mark unless the station is ANSWERING, the token, the last report number and the desired outputs; the
image sent is stored and the exchange begins (R159). A poll that would carry the discharge flag set while the gate is
shut carries it clear, the flag being withdrawn first; so a poll carries the flag set only with the gate open (R126).
That State records the bytes of the poll is the model's choice (log entry 6), and so are the unused bits of an agent's
image (log entry 77), what a shut gate does to an echoed discharge (log entry 23), the ascending order in which
stations join a lane together (log entry 8), and the end of an event that follows the gate test, with one advance of a
token (log entry 13). The tables are read first (log entry 5). -/
def Obligations.PollSends : Prop :=
  (∀ (s : State) (addr : Nat) (lane : State.Lane) (st : StationRec),
    let u := s.readTables.refreshLanes
    u.link.exchange = none → u.chosen = some (addr, lane) → u.station? addr = some st →
    (u.link.stations.wf = true → st.suspect = false) ∧
    let v := if flagIn st.desired = true ∧ u.gateOpen st.cfg.bound = false then (u.pollGate st.cfg.bound).conclude else u
    ∀ st1, v.station? addr = some st1 →
      let w := v.putStation addr { st1 with
        sent := some (v.polledOutputs st1, st1.token), lastPoll := some v.base }
      exec .poll s = .next (w.setLink { State.taken w.link addr lane with
        exchange := some { address := addr }
        frame := pollFrame addr (st1.link != .answering) st1.token st1.lastReport (v.polledOutputs st1) }).finish) ∧
  (∀ (s : State) (st : StationRec),
    (flagIn (s.polledOutputs st) = true → s.gateOpen st.cfg.bound = true ∧ flagIn st.desired = true) ∧
    (flagIn st.desired = false ∨ s.gateOpen st.cfg.bound = true → s.polledOutputs st = st.desired)) ∧
  (∀ (s : State) (a : Nat), a < 8 → (s.agent a).flag = true → s.gateOpen a = false →
    ((s.agent a).state = .discharge → (s.agent a).echoed = false → s.pollGate a =
      ((s.putAgent a { s.agent a with flag := false }).enterState a .occupiedHold).raiseAgent a .occupiedHold)) ∧
  (∀ s : State, let u := s.readTables.refreshLanes
    u.link.exchange.isSome = true ∨ u.chosen = none → exec .poll s = .next u.finish) ∧
  (∀ s : State, s.refreshLanes =
    (let joined := fun (holds : Nat → Bool) (lane : List Nat) =>
       lane.filter holds ++ s.link.stations.keys.filter (fun k => holds k && !lane.contains k)
     s.setLink { s.link with
       safetyLane := joined (fun a => s.safetyHolds a) s.link.safetyLane
       doorLane := joined (fun a => s.doorHolds a) s.link.doorLane })) ∧
  (∀ (u : LinkUnit) (addr : Nat) (lane : State.Lane),
    let left := { u with safetyLane := u.safetyLane.filter (· != addr), doorLane := u.doorLane.filter (· != addr) }
    State.taken u addr lane = match lane with
      | .safety => left
      | .door => { left with rotationTurn := true }
      | .rotation => { left with rotationTurn := false, rotation := addr }) ∧
  (∀ (s : State) (a : Nat), s.link.stations.wf = true →
    let stands := fun (b : Nat) => ∃ st, s.station? b = some st ∧ st.suspect = false
    (s.rotationNext = some a ↔ stands a ∧
      ((s.link.rotation < a ∧ ∀ b, stands b → s.link.rotation < b → a ≤ b) ∨
       ((∀ b, stands b → b ≤ s.link.rotation) ∧ ∀ b, stands b → a ≤ b)))) ∧
  (∀ (s : State) (a : Nat) (rest : List Nat),
    (s.link.safetyLane = a :: rest → s.chosen = some (a, .safety)) ∧
    (s.link.safetyLane = [] → s.link.doorLane = a :: rest → (s.link.rotationTurn = false ∨ s.rotationNext = none) →
      s.chosen = some (a, .door)) ∧
    (s.link.safetyLane = [] → s.rotationNext = some a → (s.link.rotationTurn = true ∨ s.link.doorLane = []) →
      s.chosen = some (a, .rotation)))

/-- A good report (R161, R162, R164): the station is ANSWERING with missed count 0 and the report's number, and its
return from AWAITING or SILENT ends STATION_SILENT. A station that serves stores the echo when it is the token sent,
and the status and events are delivered: at a zone station the events in order, unless the number is the last one
accepted; at a door station the strike timer starts by an echo of the strike ON, and contact and latch are taken by
R26, the latch not in a repeated report, or by R39 at a door that returns from UNKNOWN; at an agent station by
`AgentReportTaken`. A station that serves nothing delivers nothing (R157). The exchange ends after the delivery, and
the station polled joins a lane again then, at its end, where a condition holds (R163). A door that is UNKNOWN at a
return takes nothing else of the status (the model's reading, log entry 45). The tables are read first (log entry 5).
-/
def Obligations.GoodReportDelivers : Prop :=
  ∀ (s : State) (addr : Nat) (st : StationRec) (bytes : List Byte) (p : Report),
    let u := s.readTables
    u.link.exchange = some { address := addr } → u.station? addr = some st → st.suspect = false →
    readReport st.cfg.kind addr bytes = some p →
    let v := u.putStation addr { st with link := .answering, missed := 0, lastReport := some p.number }
    let x := if st.link = .answering then v else v.endAlarm .stationSilent (.station addr)
    let image := if (st.sent.map (fun m => m.2)) = some p.echo then st.sent.map (fun m => m.1) else none
    let y := if image.isSome then x.changeStation addr (fun q => { q with echo := some p.echo }) else x
    let fresh : Bool := st.lastReport ≠ some p.number
    let ended := fun (t : State) => (t.finish.setLink { t.finish.link with exchange := none }).refreshLanes
    let deliver := fun (t : State) =>
      ended (if fresh then p.events.foldl (State.deliverEvent st.cfg.kind st.cfg.bound) t else t)
    (u.serves addr st = false → exec (.goodReport bytes) s = .next (ended x)) ∧
    (u.serves addr st = true →
      (st.cfg.kind = .zone → exec (.goodReport bytes) s = .next (deliver y)) ∧
      (∀ r isOpen latch, st.cfg.kind = .door → u.door? st.cfg.bound = some r → p.status = .door isOpen latch →
        let started := fun (t : State) => if (image.map strikeIn) = some true then t.strikeEcho st.cfg.bound else t
        (st.link = .answering ∨ r.state ≠ .unknown → exec (.goodReport bytes) s =
          .next (deliver ((started y).doorStatus st.cfg.bound isOpen (latch && fresh)))) ∧
        (st.link ≠ .answering → r.state = .unknown → exec (.goodReport bytes) s =
          .next (deliver (started ((y.doorReturn st.cfg.bound isOpen (latch && fresh)).conclude))))) ∧
      (∀ v1 v2 m a sa sb rd pr, st.cfg.kind = .agent → p.status = .agent v1 v2 m a sa sb rd pr →
        exec (.goodReport bytes) s = .next (deliver ((y.agentReport st.cfg.bound
          { v1 := v1, v2 := v2, manual := m, abort := a, spareA := sa, spareB := sb, ready := rd, pressure := pr }
          (st.link != .answering) (image.map flagIn = some true)).conclude)))) ∧
    (∀ (t : State) d r latch, t.door? d = some r → r.state = .unknown →
      t.doorReturn d true latch = t.opening d ∧
      t.doorReturn d false latch =
        (let v := t.putDoor d { r with state := .secured, right := false, cycle := none }
         let w := if latch then v.markUnverified r.cfg.inner else v
         (((w.endAlarm .doorForced (.door d)).endAlarm .doorHeld (.door d)).endBreach d).arbitrate d))

/-- The events of a report (R162 step 4), each at the station that reports it. A reader event with a credential
resolves it, raises DURESS in the mode DURESS, at the person it resolves to or else at the door, before anything is
decided (R61, R62), and is then decided as an entry or released as an exit; an exit button is an exit with no
credential. A check-in by a person recorded in the zone clears MISSING, with CHECKIN_MISSED, and sets the check-in
deadline afresh; one by a person recorded elsewhere or not at all, or by an unknown or suspect credential, raises
LOCATION_MISMATCH; one by a person whose only record is suspect does nothing (R94). A fob report raises its kind at
the person, or else at the zone, and LOCATION_MISMATCH for a person recorded elsewhere or not at all (R150). An event
of another kind, or without the credential it needs, is discarded. A credential resolves by the records that store it:
none is unknown, one sound record is its person, and any other case is suspect (R43). Which records a resolution tests
is the model's (log entry 38), and so are the person field of LOCATION_MISMATCH (log entry 28), and so are the
qualifier that means DURESS (log entry 24) and that the Release Unit takes DURESS_OPEN before the request is decided
(log entry 59), and that a qualifier other than 0 in types 3 to 6 and a credential in an exit-button event are passed
over (log entry 85). -/
def Obligations.EventsDelivered : Prop :=
  (∀ (s : State) (b : Nat) (e : Event) (r : DoorRec), s.door? b = some r →
    let w := s.resolve e.credential
    let t := if e.qualifier = 1 then
        (w.1.raise .duress (match w.2.person? with | some n => .person n | none => .door b) (some r.cfg.inner)
          w.2.person?).settleBits 0x00002000#32
      else w.1
    let m : Mode := if e.qualifier = 1 then .duress else .normal
    (e.type = 1 → e.credential ≠ 0 → State.deliverEvent .door b s e =
      (t.decideEntry b (some e.credential) w.2 m t.nowTenths).conclude) ∧
    (e.type = 2 → e.credential ≠ 0 → State.deliverEvent .door b s e =
      (t.exitRequest b w.2.person? t.nowTenths).conclude) ∧
    (e.type = 3 → State.deliverEvent .door b s e = (s.exitRequest b none s.nowTenths).conclude)) ∧
  (∀ (s : State) (b : Nat) (e : Event), e.type = 4 → e.credential ≠ 0 →
    let w := s.resolve e.credential
    ((w.2 = .unknown ∨ w.2 = .suspect) → State.deliverEvent .zone b s e =
      (w.1.raise .locationMismatch (.zone b) (some b) none).conclude) ∧
    (∀ p, w.2 = .person p →
      let mismatch := w.1.raise .locationMismatch (.person p) (some b) (some p)
      (∀ i r, w.1.recordOf p = some (i, r) → r.zone = b → State.deliverEvent .zone b s e =
        (let v := w.1.changeOcc i (fun q => { q with missing := false, checkin := w.1.checkinFor b })
         if r.missing then v.endAlarm .checkinMissed (.person p) else v).conclude) ∧
      (∀ i r, w.1.recordOf p = some (i, r) → r.zone ≠ b → State.deliverEvent .zone b s e = mismatch.conclude) ∧
      (w.1.recordOf p = none → w.1.suspectRecordOf p = none → State.deliverEvent .zone b s e = mismatch.conclude) ∧
      (w.1.recordOf p = none → w.1.suspectRecordOf p ≠ none → State.deliverEvent .zone b s e = w.1.conclude))) ∧
  (∀ (s : State) (b : Nat) (e : Event), (e.type = 5 ∨ e.type = 6) → e.credential ≠ 0 →
    let w := s.resolve e.credential
    let k : Kind := if e.type = 5 then .duress else .manDown
    ((w.2 = .unknown ∨ w.2 = .suspect) → State.deliverEvent .zone b s e = (w.1.raise k (.zone b) (some b) none).conclude) ∧
    (∀ p, w.2 = .person p →
      let v := w.1.raise k (.person p) (some b) (some p)
      State.deliverEvent .zone b s e =
        (match w.1.recordOf p with
         | some (_, r) => if r.zone = b then v else v.raise .locationMismatch (.person p) (some b) (some p)
         | none => if w.1.suspectRecordOf p = none then v.raise .locationMismatch (.person p) (some b) (some p)
                   else v).conclude)) ∧
  (∀ (s : State) (k : StationKind) (b : Nat) (e : Event),
    (k = .agent ∨ (k = .door ∧ e.type ∉ [1, 2, 3]) ∨ (k = .zone ∧ e.type ∉ [4, 5, 6]) ∨
      (e.credential = 0 ∧ e.type ≠ 3)) → State.deliverEvent k b s e = s) ∧
  (∀ (s : State) (c : Nat),
    let t := s.testPersons ((s.adm.persons.filter (fun q => q.2.cfg.credential = c)).map (fun q => q.1))
    s.resolve c = (t, match t.adm.persons.filter (fun q => q.2.cfg.credential = c) with
      | [] => .unknown
      | [(p, r)] => if r.suspect then .suspect else .person p
      | _ => .suspect))

/-- The reply window ends with no good report (R160, R164): the missed count rises, and the exchange ends, the station
joining a lane again where a condition holds (R163); the third miss makes the station SILENT, raises STATION_SILENT
with the bound zone, and tells the owner of a door or agent station that it serves; a station already SILENT stays so.
A door whose station is silent is UNKNOWN, with no cycle, pair wait, right, held inhibit and indication; the entries of
a waiting cycle and the pair wait are refused DOOR_UNAVAILABLE first, the inner zone is unverified where passages may
have been made, and the arbiter looks at the pair (R38, R36). That the passages are refused in list order and before
the pair wait is log entry 49, and that the station polled joins after the stations that its silence brings into a lane
is log entry 8. The reply to an exchange with a retired station is ignored (R156). The tables are read first (log entry
5). -/
def Obligations.WindowMisses : Prop :=
  (∀ (s : State) (addr : Nat) (st : StationRec),
    let u := s.readTables
    u.link.exchange = some { address := addr } → u.station? addr = some st → st.suspect = false →
    let w := (u.putStation addr { st with link := .silent, missed := 3 }).raise .stationSilent (.station addr)
      (u.stationZone addr st) none
    let ended := fun (t : State) => (t.finish.setLink { t.finish.link with exchange := none }).refreshLanes
    exec .replyWindowExpiry s = .next (ended
      (if st.link = .silent then u
       else if st.missed < 2 then u.putStation addr { st with missed := st.missed + 1 }
       else if w.serves addr st then w.tellSilence st.cfg else w))) ∧
  (∀ (s : State) (x : Exchange) (bytes : List Byte), s.readTables.link.exchange = some x → x.void = true →
    exec (.goodReport bytes) s = .next s.readTables.finish ∧
    exec .replyWindowExpiry s = .next
      (s.readTables.finish.setLink { s.readTables.finish.link with exchange := none }).refreshLanes) ∧
  (∀ (s : State) (b : Nat), s.tellSilence ⟨.door, b⟩ = s.doorSilent b ∧ s.tellSilence ⟨.agent, b⟩ = s.agentSilent b ∧
    s.tellSilence ⟨.zone, b⟩ = s) ∧
  (∀ (s : State) (d : Nat) (r : DoorRec), s.door? d = some r →
    let refused := fun (v : State) (p g : Option Nat) => v.decided d
      { outcome := .refused, code := some .doorUnavailable, person := p, grant := g, time := some v.now }
    let waiting := if r.state = .interlockWait then (r.cycle.map (fun c => c.passages)).getD [] else []
    let v := (waiting.filter (fun x => x.dir = .entry)).foldl (fun v x => refused v x.person x.grant) s
    let w := match r.pairWait with | none => v | some y => refused v (some y.person) y.grant
    let x := w.changeDoor d (fun q => { q with
      state := .unknown, right := false, cycle := none, pairWait := none, heldInhibit := false, indication := .none,
      indEnd := none })
    s.doorSilent d = (if r.state = .released ∨ r.state = .opened ∨ r.state = .held ∨ r.state = .forced then
      x.markUnverified r.cfg.inner else x).arbitrate d)

/-! ## Time, the checks and the starts -/

/-- SET_CLOCK stores the three values as the calendar, ends CLOCK_UNSET and evaluates every zone; running seconds
stays; a value out of its range is BAD_VALUE (R183). STATUS answers its seventeen items, and COMMISSION, from STANDBY
or ACTIVE, enters ACTIVE and answers it; ACK_RESTART clears the reset-seen flag before its response is made (R176,
R177). Each item of STATUS is the value that R176 gives it: the reservations count the pending entries of every door
(log entry 4), the suspect count the suspect records of all tables, with the route limit as one, and the two lines are
those of `NextNoticePresents`. The field ids of these responses are the model's (log entry 27). The tables are read
first (log entry 5). -/
def Obligations.ClockAndPartRequests : Prop :=
  ∀ (s : State) (tag : Byte), s.portTakes = true →
    let u := s.asked
    (∀ d m x, d ≤ 65535 → m ≤ 65535 → x ≤ 255 →
      exec (.setClock { tag := tag, fields := [fldN 1 2 d, fldN 2 2 m, fldN 3 1 x] }) s = .next
        (if m ≤ 10079 ∧ x ≤ 59 then
           (((u.setRet { u.ret with calendar := some ⟨d, m, x⟩ }).endAlarm .clockUnset
             (.zone 0)).evaluateAllHours).answeredOk tag [fldN 1 2 d, fldN 2 2 m, fldN 3 1 x]
         else u.answeredNo tag .badValue)) ∧
    exec (.status (bareReq tag)) s = .next (u.respond tag (okWith u.statusFields)) ∧
    u.statusFields.map (fun f => f.1.toNat) = (List.range 17).map (· + 1) ∧
    (let marked := fun (l : List Bool) => (l.filter (fun b => b)).length
     let eight : List Nat := [0, 1, 2, 3, 4, 5, 6, 7]
     let suspects := marked (u.adm.persons.map (fun p => p.2.suspect)) + marked (u.adm.grants.map (fun p => p.2.suspect)) +
       marked (u.occ.recs.map (fun p => p.2.suspect)) + marked (u.occ.zones.map (fun p => p.2.suspect)) +
       marked (u.door.doors.map (fun p => p.2.suspect)) + marked (eight.map (fun c => (u.classRec c).suspect)) +
       marked (eight.map (fun a => (u.agent a).suspect)) + marked (eight.map (fun a => (u.logicRec a).suspect)) +
       marked ((List.range 32).map (fun k => (u.alm.routeRec k).suspect)) + (if u.alm.limitSuspect then 1 else 0) +
       marked (u.link.stations.map (fun p => p.2.suspect))
     let ordinary := fun (x : AlarmState) => toBE 1 (u.alm.recs.filter (fun p => p.1 < 60 && p.2.state = x)).length
     u.statusFields.map (fun f => f.2) =
      [toBE 1 (if u.ret.active then 1 else 0), toBE 1 (if u.ret.calendar.isSome then 1 else 0), seconds u.now,
       (match u.ret.calendar with | none => [] | some k => toBE 2 k.day ++ toBE 2 k.minute ++ toBE 1 k.second),
       toBE 2 u.adm.persons.length, toBE 2 u.adm.grants.length, toBE 2 u.occ.recs.length, toBE 1 u.occ.zones.length,
       toBE 1 u.door.doors.length, toBE 1 u.link.stations.length,
       toBE 2 (u.door.doors.map (fun p => match p.2.cycle with
         | none => 0
         | some c => (c.passages.filter (fun x => x.dir = .entry)).length)).sum,
       ordinary .raised ++ ordinary .notified ++ ordinary .acknowledged ++
         toBE 1 (u.alm.recs.filter (fun p => !(p.1 < 60 : Bool))).length,
       (eight.map (fun a => toBE 1 (agentCode (u.agent a).state))).flatten,
       toBE 2 suspects, toBE 1 u.adm.waits.length, toBE 1 (if u.alm.noticeLine then 1 else 0),
       toBE 1 (if u.alm.forwardLine then 1 else 0)]) ∧
    exec (.commission (bareReq tag)) s = .next ((u.setRet { u.ret with
      active := true, markerCheck := u.ret.markerCheck || !u.ret.active }).respond tag (okWith [fldN 1 1 1])) ∧
    exec (.ackRestart (bareReq tag)) s =
      .next ((u.setHost { u.host with resetSeen := false }).respond tag (okWith []))

/-- A start takes its kind from the retention marker, after the damage that the environment has done: with its pattern
and its check value correct RESTART, the RESET line and both supply events with retention held begin a warm restart,
else a cold start; every start after a loss of the retention supply is cold (R178, R179, R180). A supply event first
drops what is outside the retention domain (R178; which items these are is log entry 44). A warm restart with nothing
to find keeps running seconds, calendar and commissioned state, the Host Port is IDLE with an empty buffer, the overrun
flag clear and the reset-seen flag set, and the sweep is at its first item (R177, R180, R181). The queue of waiting
commands and the counter of free values are the model's and stay, and the time base returns to 0 (log entries 1, 3 and
36). -/
def Obligations.StartsByMarker : Prop :=
  (∀ (s : State) (tag : Byte) (ds : List Damage),
    let cold : State := (State.reset.setPending s.pending).setFree s.free
    let start := fun (u : State) => if u.ret.marker = true ∧ u.ret.markerCheck = true then u.warmRestart else cold
    (s.portTakes = true → exec (.restart (bareReq tag)) s = .next (start s.writeTaken)) ∧
    exec (.resetLine ds) s = .next (start (s.applyDamages ds)) ∧
    exec (.mainSupplyDip true ds) s = .next (start (s.loseLive.applyDamages ds)) ∧
    exec (.mainSupplyRestored true ds) s = .next (start (s.loseLive.applyDamages ds)) ∧
    exec (.mainSupplyDip false ds) s = .next cold ∧ exec (.mainSupplyRestored false ds) s = .next cold) ∧
  (∀ s : State, s.loseLive.adm = { s.adm with waits := [] } ∧ s.loseLive.occ = s.occ ∧ s.loseLive.alm = s.alm ∧
    s.loseLive.ret = { s.ret with base := 0 } ∧ s.loseLive.link.exchange = none ∧
    (∀ d, s.loseLive.door? d = (s.door? d).map (fun r =>
      { cfg := r.cfg, lockout := r.lockout, suspect := r.suspect, checkOk := r.checkOk })) ∧
    (∀ a, (s.loseLive.agent a).cw = 0x00020000#32 ∧ (s.loseLive.agent a).state = (s.agent a).state ∧
      (s.loseLive.agent a).dischargeTime = (s.agent a).dischargeTime ∧ (s.loseLive.agent a).flag = false)) ∧
  (∀ s : State, s.intact = true →
    s.warmRestart.ret = { s.ret with base := 0, sweep := (0, 0) } ∧
    s.warmRestart.host = { s.host with port := .idle, buffer := none, overrun := false, resetSeen := true } ∧
    s.warmRestart.pending = s.pending)

/-- What a warm restart leaves in the blocks: the configured doors, zones and stations and no others; every door
UNKNOWN with its configuration and lockout, no cycle, pair wait or right (R40); an empty wait list, and every
REQUESTED zone HELD (R81); no alarm NOTIFIED, an empty mask and no hold (R154); every station AWAITING, a suspect one
SILENT, with missed count 0, no image sent and no echo (R167); every agent in the state that R133 gives for the one it
had, its hold and countdown over, without its times, deadlines and flag. The premises on the tables and on DURESS
records, which have class 0 (R136), are kept by every step (`StepKeepsSound`). The order of the blocks is the model's
(log entry 1). -/
def Obligations.WarmRestartLeaves : Prop :=
  ∀ s : State, s.TablesRising → s.DuressFirst →
    let t := s.warmRestart
    (∀ k, (t.door? k).isSome = (s.door? k).isSome ∧ (t.zone? k).isSome = (s.zone? k).isSome ∧
      (t.station? k).isSome = (s.station? k).isSome) ∧
    (∀ d r, t.door? d = some r → r.state = .unknown ∧ r.cycle = none ∧ r.pairWait = none ∧ r.right = false ∧
      (s.door? d).map (fun q => (q.cfg, q.lockout)) = some (r.cfg, r.lockout)) ∧
    t.adm.waits = [] ∧ t.link.exchange = none ∧
    (∀ z r, t.zone? z = some r → (s.zone? z).map (fun q => if q.freeze = .requested then .held else q.freeze) =
      some r.freeze) ∧
    (∀ p ∈ t.alm.recs, p.2.state ≠ .notified) ∧ t.alm.mask = 0#4 ∧ t.alm.holds = [] ∧
    (∀ a st, t.station? a = some st → st.link = (if st.suspect then .silent else .awaiting) ∧ st.missed = 0 ∧
      st.sent = none ∧ st.echo = none ∧ (s.station? a).map (fun q => (q.cfg, q.lastReport)) = some (st.cfg, st.lastReport)) ∧
    (∀ a, a < 8 → (t.agent a).state = (match (s.agent a).state with
        | .unconfigured => .unconfigured
        | .normal | .alert | .countdown | .abortHeld | .occupiedHold => .normal
        | .fault => if (s.agent a).spentMark then .spent else .normal
        | .spent => .spent
        | .discharged => .discharged
        | .discharge => if (s.agent a).echoed then .discharged else .normal) ∧
      (t.agent a).cfg = (s.agent a).cfg ∧ (t.agent a).isolated = (s.agent a).isolated ∧ (t.agent a).flag = false ∧
      (t.agent a).deadline = none ∧ (t.agent a).t0 = none ∧ (t.agent a).bound = none ∧ (t.agent a).confirmBy = none)

/-- Running seconds rises by one and holds at its top; a set calendar's second rises, or returns to 0 after 59 with the
minute of week advancing, wrapping after 10079, with the day number rising at a multiple of 1440 up to 65535, and every
zone is then evaluated (R182). A change of running seconds rewrites the marker's check value (R178). That the calendar
holds with running seconds at its top is log entry 35, and the time base, which goes on to its next whole second, log
entry 3. During a loss of the main supply it goes on as in a running part, which is log entry 67. The tables are read
first (log entry 5). -/
def Obligations.CalendarAdvances : Prop :=
  ∀ s : State,
    let u := s.readTables
    let b := (u.ret.base / 100 + 1) * 100
    (u.ret.now = Config.secondsTop → exec .calendarAdvance s = .next (u.setRet { u.ret with base := b }).finish) ∧
    (u.ret.now < Config.secondsTop →
      (u.ret.calendar = none → exec .calendarAdvance s =
        .next (u.setRet { u.ret with now := u.ret.now + 1, base := b, markerCheck := true }).finish) ∧
      (∀ k, u.ret.calendar = some k → k.second < 59 → exec .calendarAdvance s =
        .next (u.setRet { u.ret with now := u.ret.now + 1, base := b, markerCheck := true,
                                     calendar := some { k with second := k.second + 1 } }).finish) ∧
      (∀ k, u.ret.calendar = some k → 59 ≤ k.second →
        let m := if k.minute = 10079 then 0 else k.minute + 1
        exec .calendarAdvance s =
          .next (u.setRet { u.ret with
            now := u.ret.now + 1, base := b, markerCheck := true,
            calendar := some { day := if m % 1440 = 0 then min 65535 (k.day + 1) else k.day, minute := m, second := 0 }
            }).evaluateAllHours.finish))

/-- The environment damages a stored record: its content is replaced, and its check value no longer agrees; a record
that is suspect already is damaged unseen, but a zone among them leaves its place in the tree where R14 says so of the
parent it then stores. The check sweep then visits its next item and moves past it (R181). An item that agrees has no
other effect. Of the records, one that fails takes the suspect mark alone, with RECORD_SUSPECT. Before the raise is
made, what it reads is tested: the alarm records with the class mask and the hold sets, the route limit, and the entry
of RECORD_SUSPECT where its number is below the limit in force (R137, R138, R153, R181). A failed alarm record, class
mask or hold set is tested with these. At a zone the zone records are tested, since its place in the tree is decided
by them (R14). At an occupancy record, a station and the calendar the tables are read, since their owners act at once.
The visit then ends as every event does, unless another item fails unfound. The damage that a command carries, what is
read at a visit and this end of a visit are the model's (log entry 5), and so is the moment at which a damaged suspect
zone changes its place (log entry 37), and a serving that ends or begins at a door or agent found suspect (log entry
84). -/
def Obligations.CheckSweepFinds : Prop :=
  (∀ (s : State) (ds : List Damage) (n k : Nat),
    let u := s.applyDamages ds
    u.sweepNext = some (n, k) →
    let v := u.setRet { u.ret with sweep := (n, k + 1) }
    let t := v.readForRaise
    let told := fun (w : State) (x : Tbl) => w.raise .recordSuspect (.record x k) none none
    let ends := fun (w : State) => if w.intact then w.syncServing.syncEntries.finish else w
    (u.itemFails (n, k) = false → exec (.recordCheckSweep ds) s = .next v) ∧
    (u.itemFails (n, k) = true →
      (∀ r, n = 0 → u.person? k = some r → r.suspect = false →
        exec (.recordCheckSweep ds) s = .next (ends (told (t.putPerson k { r with suspect := true }) .person))) ∧
      (∀ r, n = 1 → u.grant? k = some r → r.suspect = false →
        exec (.recordCheckSweep ds) s = .next (ends (told (t.putGrant k { r with suspect := true }) .grant))) ∧
      (n = 2 → exec (.recordCheckSweep ds) s = .next (ends
        (((u.occ.zones.filter (fun p => !p.2.checkOk)).map (fun p => p.1)).foldl
          (fun w z => w.raise .recordSuspect (.record .zone z) none none)
          (u.occ.zones.keys.foldl (fun w z => w.markZone z) t)))) ∧
      (n = 3 → exec (.recordCheckSweep ds) s = .next (ends (told (t.changeDoor k (fun r =>
        if r.checkOk then r else { r with suspect := true, checkOk := true })) .door))) ∧
      (n = 4 → exec (.recordCheckSweep ds) s = .next (ends (told (t.putClass k { u.classRec k with
        suspect := true, checkOk := true }) .cls))) ∧
      (n = 6 → exec (.recordCheckSweep ds) s = .next (ends (told (t.putAgent k { u.agent k with
        suspect := true, checkOk := true }) .agent))) ∧
      (n = 7 → exec (.recordCheckSweep ds) s = .next (ends (told (t.putLogic k { u.logicRec k with
        suspect := true, checkOk := true }) .logic))) ∧
      (n = 8 → exec (.recordCheckSweep ds) s = .next (ends (told (v.setAlm
        (if k = 32 then { u.alm with limitSuspect := true, limitOk := true }
         else { u.alm with routes := u.alm.routes.setIfInBounds k { u.alm.routeRec k with
           suspect := true, checkOk := true } })).readForRaise .route))) ∧
      (n = 9 ∨ n = 12 ∨ n = 13 → exec (.recordCheckSweep ds) s = .next (ends v.readAlarms)) ∧
      (n = 5 ∨ n = 10 ∨ n = 11 → exec (.recordCheckSweep ds) s = .next (ends v.readTables)))) ∧
  (∀ s : State,
    let kept := (s.alm.recs.filter (fun p => !p.2.checkOk)).foldl (fun w p => w.fail s.now p.1) s.alm
    let read : AlarmUnit := { kept with
      mask := if s.alm.maskOk then s.alm.mask else 0#4, maskOk := true
      holds := kept.holds.filter (fun h => !s.alm.holdsBad.getLsbD h.1), holdsBad := 0#4 }
    let u : AlarmUnit := { read with limitSuspect := s.alm.limitSuspect || !s.alm.limitOk, limitOk := true }
    s.readAlarms = s.setAlm read ∧
    (u.limitInForce ≤ 18 → s.readForRaise =
      (let t := s.setAlm u
       if s.alm.limitOk then t else t.raise .recordSuspect (.record .route 32) none none)) ∧
    (18 < u.limitInForce →
      let r := s.alm.routeRec 18
      let r' : RouteRec := { r with suspect := r.suspect || !r.checkOk, checkOk := true }
      let t := s.setAlm { u with routes := u.routes.setIfInBounds 18 r' }
      let t1 := if s.alm.limitOk then t else t.raise .recordSuspect (.record .route 32) none none
      s.readForRaise = if r.checkOk then t1 else t1.raise .recordSuspect (.record .route 18) none none)) ∧
  (∀ (s : State) (d z k : Nat) (r : DoorRec) (c : DoorCfg) (y : ZoneRec) (e : ZoneCfg) (p : PersonRec) (f : PersonCfg),
    (s.door? d = some r → (s.damageOne (.door d c)).door? d = some { r with cfg := c, checkOk := r.suspect }) ∧
    (s.zone? z = some y → (s.damageOne (.zone z e)).zone? z = some { y with
      cfg := e, checkOk := y.suspect,
      orphan := y.orphan || (y.suspect && !State.reachesRoot s.occ.zones z 33 e.parent) }) ∧
    (s.person? k = some p → (s.damageOne (.person k f)).person? k = some { p with cfg := f, checkOk := p.suspect }) ∧
    (s.damageOne (.door d c)).alm = s.alm ∧ (s.damageOne (.zone z e)).alm = s.alm ∧
    (s.damageOne (.person k f)).alm = s.alm) ∧
  (∀ (s : State) (k : Nat) (r : DoorRec), s.sweepNext = some (3, k) → s.door? k = some r →
    (s.itemFails (3, k) = true ↔ r.checkOk = false))

/-- A timer or deadline that is not running, or not yet at its end, changes nothing of its own, and so does one of a
door, slot or agent that is not there: the command completes by `finish` alone. A timer runs in the state that the
rules give it (R22, R25, R29, R32, R92, R93, R95, R125, R127), a deadline of an occupancy record while the record is
sound and its zone in AFTER. That such a command is no error is the model's reading (log entry 2). The tables are read
first (log entry 5). -/
def Obligations.TimersNotDue : Prop :=
  ∀ (s : State) (n : Nat),
    let u := s.readTables
    (u.door? n = none → ∀ i ∈ ([.leadExpiry n, .strikeTimerExpiry n, .heldOpenExpiry n, .relockHoldExpiry n,
        .interlockTimeout n, .exitDue n, .indicationReturn n, .pairWindowExpiry n] : List Instr),
      exec i s = .next u.finish) ∧
    (∀ r, u.door? n = some r →
      (r.state ≠ .releasing ∨ (∀ c, r.cycle = some c → u.reached c.leadEnd = false) →
        exec (.leadExpiry n) s = .next u.finish) ∧
      (r.state ≠ .released ∨ (∀ c, r.cycle = some c → u.reached c.strikeEnd = false) →
        exec (.strikeTimerExpiry n) s = .next u.finish) ∧
      ((r.state ≠ .opened ∧ r.state ≠ .held) ∨ (∀ c, r.cycle = some c → u.reached c.heldEnd = false) →
        exec (.heldOpenExpiry n) s = .next u.finish) ∧
      (r.state ≠ .relocking ∨ (∀ c, r.cycle = some c → u.reached c.relockEnd = false) →
        exec (.relockHoldExpiry n) s = .next u.finish) ∧
      ((r.state ≠ .interlockWait ∧ (r.state ≠ .forced ∨ ∀ c, r.cycle = some c → c.waiting = false)) ∨
          (∀ c x, r.cycle = some c → x ∈ c.passages → x.dir = .entry → u.nowCs < x.arrival * 10 + c.vals.limit * 100) →
        exec (.interlockTimeout n) s = .next u.finish) ∧
      ((r.state ≠ .interlockWait ∧ r.state ≠ .releasing) ∨ (∀ c, r.cycle = some c → u.fallsDue c.exitDue = false) →
        exec (.exitDue n) s = .next u.finish) ∧
      (u.reached r.indEnd = false → exec (.indicationReturn n) s = .next u.finish) ∧
      ((∀ w, r.pairWait = some w → u.nowCs < w.start * 10 + w.window * 100) →
        exec (.pairWindowExpiry n) s = .next u.finish)) ∧
    (u.occ? n = none → ∀ i ∈ ([.dwellDeadline n, .checkinDeadline n, .pairGraceDeadline n] : List Instr),
      exec i s = .next u.finish) ∧
    (∀ r, u.occ? n = some r →
      (u.passed r.dwell = false ∨ u.isAfter r.zone = false ∨ r.overdue = true ∨ r.suspect = true →
        exec (.dwellDeadline n) s = .next u.finish) ∧
      (u.passed r.checkin = false ∨ u.isAfter r.zone = false ∨ r.suspect = true →
        exec (.checkinDeadline n) s = .next u.finish) ∧
      (u.passed r.pairGrace = false ∨ u.isAfter r.zone = false ∨ r.suspect = true →
        exec (.pairGraceDeadline n) s = .next u.finish)) ∧
    ((u.agent n).state ≠ .countdown ∨ u.passed (u.agent n).deadline = false →
      exec (.countdownDeadline n) s = .next u.finish) ∧
    ((u.agent n).state ≠ .discharge ∨ (u.agent n).echoed = false ∨ u.passed (u.agent n).confirmBy = false →
      exec (.confirmationDeadline n) s = .next u.finish) ∧
    ((∀ e rest, u.adm.waits = e :: rest → u.nowCs < e.arrival * 10 + 800) → exec .waitExpired s = .next u.finish) ∧
    (u.link.exchange = none → exec .replyWindowExpiry s = .next u.finish) ∧
    (u.reached none = false ∧ u.fallsDue none = false ∧ u.passed none = false)

end
end

