-- ==== Sys2Proof/Laws/State.lean ====
section
/-! SUPPORT. One lemma per block of the state per update, true by definition, and the reads that follow from them. -/

/-- The form that the kernel evaluates is the library's map. -/
@[simp] theorem Sys2Proof.mapVec_eq {α : Type} {n : Nat} (f : α → α) (v : Vector α n) : mapVec f v = v.map f :=
  Vector.toArray_inj.mp (Array.toList_inj.mp (by simp [mapVec, Vector.toList]))

namespace Sys2Proof.Machine.State

/-! ## setDoor -/

@[simp] theorem setDoor_door (s : State) (u : DoorUnit) : (s.setDoor u).door = u := rfl
@[simp] theorem setDoor_adm (s : State) (u : DoorUnit) : (s.setDoor u).adm = s.adm := rfl
@[simp] theorem setDoor_occ (s : State) (u : DoorUnit) : (s.setDoor u).occ = s.occ := rfl
@[simp] theorem setDoor_rel (s : State) (u : DoorUnit) : (s.setDoor u).rel = s.rel := rfl
@[simp] theorem setDoor_alm (s : State) (u : DoorUnit) : (s.setDoor u).alm = s.alm := rfl
@[simp] theorem setDoor_link (s : State) (u : DoorUnit) : (s.setDoor u).link = s.link := rfl
@[simp] theorem setDoor_host (s : State) (u : DoorUnit) : (s.setDoor u).host = s.host := rfl
@[simp] theorem setDoor_ret (s : State) (u : DoorUnit) : (s.setDoor u).ret = s.ret := rfl
@[simp] theorem setDoor_free (s : State) (u : DoorUnit) : (s.setDoor u).free = s.free := rfl
@[simp] theorem setDoor_pending (s : State) (u : DoorUnit) : (s.setDoor u).pending = s.pending := rfl
@[simp] theorem setDoor_setDoor (s : State) (u v : DoorUnit) : (s.setDoor u).setDoor v = s.setDoor v := rfl
@[simp] theorem setDoor_self (s : State) : s.setDoor s.door = s := rfl

/-! ## setAdm -/

@[simp] theorem setAdm_door (s : State) (u : AdmissionUnit) : (s.setAdm u).door = s.door := rfl
@[simp] theorem setAdm_adm (s : State) (u : AdmissionUnit) : (s.setAdm u).adm = u := rfl
@[simp] theorem setAdm_occ (s : State) (u : AdmissionUnit) : (s.setAdm u).occ = s.occ := rfl
@[simp] theorem setAdm_rel (s : State) (u : AdmissionUnit) : (s.setAdm u).rel = s.rel := rfl
@[simp] theorem setAdm_alm (s : State) (u : AdmissionUnit) : (s.setAdm u).alm = s.alm := rfl
@[simp] theorem setAdm_link (s : State) (u : AdmissionUnit) : (s.setAdm u).link = s.link := rfl
@[simp] theorem setAdm_host (s : State) (u : AdmissionUnit) : (s.setAdm u).host = s.host := rfl
@[simp] theorem setAdm_ret (s : State) (u : AdmissionUnit) : (s.setAdm u).ret = s.ret := rfl
@[simp] theorem setAdm_free (s : State) (u : AdmissionUnit) : (s.setAdm u).free = s.free := rfl
@[simp] theorem setAdm_pending (s : State) (u : AdmissionUnit) : (s.setAdm u).pending = s.pending := rfl
@[simp] theorem setAdm_setAdm (s : State) (u v : AdmissionUnit) : (s.setAdm u).setAdm v = s.setAdm v := rfl
@[simp] theorem setAdm_self (s : State) : s.setAdm s.adm = s := rfl

/-! ## setOcc -/

@[simp] theorem setOcc_door (s : State) (u : OccupancyUnit) : (s.setOcc u).door = s.door := rfl
@[simp] theorem setOcc_adm (s : State) (u : OccupancyUnit) : (s.setOcc u).adm = s.adm := rfl
@[simp] theorem setOcc_occ (s : State) (u : OccupancyUnit) : (s.setOcc u).occ = u := rfl
@[simp] theorem setOcc_rel (s : State) (u : OccupancyUnit) : (s.setOcc u).rel = s.rel := rfl
@[simp] theorem setOcc_alm (s : State) (u : OccupancyUnit) : (s.setOcc u).alm = s.alm := rfl
@[simp] theorem setOcc_link (s : State) (u : OccupancyUnit) : (s.setOcc u).link = s.link := rfl
@[simp] theorem setOcc_host (s : State) (u : OccupancyUnit) : (s.setOcc u).host = s.host := rfl
@[simp] theorem setOcc_ret (s : State) (u : OccupancyUnit) : (s.setOcc u).ret = s.ret := rfl
@[simp] theorem setOcc_free (s : State) (u : OccupancyUnit) : (s.setOcc u).free = s.free := rfl
@[simp] theorem setOcc_pending (s : State) (u : OccupancyUnit) : (s.setOcc u).pending = s.pending := rfl
@[simp] theorem setOcc_setOcc (s : State) (u v : OccupancyUnit) : (s.setOcc u).setOcc v = s.setOcc v := rfl
@[simp] theorem setOcc_self (s : State) : s.setOcc s.occ = s := rfl

/-! ## setRel -/

@[simp] theorem setRel_door (s : State) (u : ReleaseUnit) : (s.setRel u).door = s.door := rfl
@[simp] theorem setRel_adm (s : State) (u : ReleaseUnit) : (s.setRel u).adm = s.adm := rfl
@[simp] theorem setRel_occ (s : State) (u : ReleaseUnit) : (s.setRel u).occ = s.occ := rfl
@[simp] theorem setRel_rel (s : State) (u : ReleaseUnit) : (s.setRel u).rel = u := rfl
@[simp] theorem setRel_alm (s : State) (u : ReleaseUnit) : (s.setRel u).alm = s.alm := rfl
@[simp] theorem setRel_link (s : State) (u : ReleaseUnit) : (s.setRel u).link = s.link := rfl
@[simp] theorem setRel_host (s : State) (u : ReleaseUnit) : (s.setRel u).host = s.host := rfl
@[simp] theorem setRel_ret (s : State) (u : ReleaseUnit) : (s.setRel u).ret = s.ret := rfl
@[simp] theorem setRel_free (s : State) (u : ReleaseUnit) : (s.setRel u).free = s.free := rfl
@[simp] theorem setRel_pending (s : State) (u : ReleaseUnit) : (s.setRel u).pending = s.pending := rfl
@[simp] theorem setRel_setRel (s : State) (u v : ReleaseUnit) : (s.setRel u).setRel v = s.setRel v := rfl
@[simp] theorem setRel_self (s : State) : s.setRel s.rel = s := rfl

/-! ## setAlm -/

@[simp] theorem setAlm_door (s : State) (u : AlarmUnit) : (s.setAlm u).door = s.door := rfl
@[simp] theorem setAlm_adm (s : State) (u : AlarmUnit) : (s.setAlm u).adm = s.adm := rfl
@[simp] theorem setAlm_occ (s : State) (u : AlarmUnit) : (s.setAlm u).occ = s.occ := rfl
@[simp] theorem setAlm_rel (s : State) (u : AlarmUnit) : (s.setAlm u).rel = s.rel := rfl
@[simp] theorem setAlm_alm (s : State) (u : AlarmUnit) : (s.setAlm u).alm = u := rfl
@[simp] theorem setAlm_link (s : State) (u : AlarmUnit) : (s.setAlm u).link = s.link := rfl
@[simp] theorem setAlm_host (s : State) (u : AlarmUnit) : (s.setAlm u).host = s.host := rfl
@[simp] theorem setAlm_ret (s : State) (u : AlarmUnit) : (s.setAlm u).ret = s.ret := rfl
@[simp] theorem setAlm_free (s : State) (u : AlarmUnit) : (s.setAlm u).free = s.free := rfl
@[simp] theorem setAlm_pending (s : State) (u : AlarmUnit) : (s.setAlm u).pending = s.pending := rfl
@[simp] theorem setAlm_setAlm (s : State) (u v : AlarmUnit) : (s.setAlm u).setAlm v = s.setAlm v := rfl
@[simp] theorem setAlm_self (s : State) : s.setAlm s.alm = s := rfl

/-! ## setLink -/

@[simp] theorem setLink_door (s : State) (u : LinkUnit) : (s.setLink u).door = s.door := rfl
@[simp] theorem setLink_adm (s : State) (u : LinkUnit) : (s.setLink u).adm = s.adm := rfl
@[simp] theorem setLink_occ (s : State) (u : LinkUnit) : (s.setLink u).occ = s.occ := rfl
@[simp] theorem setLink_rel (s : State) (u : LinkUnit) : (s.setLink u).rel = s.rel := rfl
@[simp] theorem setLink_alm (s : State) (u : LinkUnit) : (s.setLink u).alm = s.alm := rfl
@[simp] theorem setLink_link (s : State) (u : LinkUnit) : (s.setLink u).link = u := rfl
@[simp] theorem setLink_host (s : State) (u : LinkUnit) : (s.setLink u).host = s.host := rfl
@[simp] theorem setLink_ret (s : State) (u : LinkUnit) : (s.setLink u).ret = s.ret := rfl
@[simp] theorem setLink_free (s : State) (u : LinkUnit) : (s.setLink u).free = s.free := rfl
@[simp] theorem setLink_pending (s : State) (u : LinkUnit) : (s.setLink u).pending = s.pending := rfl
@[simp] theorem setLink_setLink (s : State) (u v : LinkUnit) : (s.setLink u).setLink v = s.setLink v := rfl
@[simp] theorem setLink_self (s : State) : s.setLink s.link = s := rfl

/-! ## setHost -/

@[simp] theorem setHost_door (s : State) (u : HostUnit) : (s.setHost u).door = s.door := rfl
@[simp] theorem setHost_adm (s : State) (u : HostUnit) : (s.setHost u).adm = s.adm := rfl
@[simp] theorem setHost_occ (s : State) (u : HostUnit) : (s.setHost u).occ = s.occ := rfl
@[simp] theorem setHost_rel (s : State) (u : HostUnit) : (s.setHost u).rel = s.rel := rfl
@[simp] theorem setHost_alm (s : State) (u : HostUnit) : (s.setHost u).alm = s.alm := rfl
@[simp] theorem setHost_link (s : State) (u : HostUnit) : (s.setHost u).link = s.link := rfl
@[simp] theorem setHost_host (s : State) (u : HostUnit) : (s.setHost u).host = u := rfl
@[simp] theorem setHost_ret (s : State) (u : HostUnit) : (s.setHost u).ret = s.ret := rfl
@[simp] theorem setHost_free (s : State) (u : HostUnit) : (s.setHost u).free = s.free := rfl
@[simp] theorem setHost_pending (s : State) (u : HostUnit) : (s.setHost u).pending = s.pending := rfl
@[simp] theorem setHost_setHost (s : State) (u v : HostUnit) : (s.setHost u).setHost v = s.setHost v := rfl
@[simp] theorem setHost_self (s : State) : s.setHost s.host = s := rfl

/-! ## setRet -/

@[simp] theorem setRet_door (s : State) (u : RetentionUnit) : (s.setRet u).door = s.door := rfl
@[simp] theorem setRet_adm (s : State) (u : RetentionUnit) : (s.setRet u).adm = s.adm := rfl
@[simp] theorem setRet_occ (s : State) (u : RetentionUnit) : (s.setRet u).occ = s.occ := rfl
@[simp] theorem setRet_rel (s : State) (u : RetentionUnit) : (s.setRet u).rel = s.rel := rfl
@[simp] theorem setRet_alm (s : State) (u : RetentionUnit) : (s.setRet u).alm = s.alm := rfl
@[simp] theorem setRet_link (s : State) (u : RetentionUnit) : (s.setRet u).link = s.link := rfl
@[simp] theorem setRet_host (s : State) (u : RetentionUnit) : (s.setRet u).host = s.host := rfl
@[simp] theorem setRet_ret (s : State) (u : RetentionUnit) : (s.setRet u).ret = u := rfl
@[simp] theorem setRet_free (s : State) (u : RetentionUnit) : (s.setRet u).free = s.free := rfl
@[simp] theorem setRet_pending (s : State) (u : RetentionUnit) : (s.setRet u).pending = s.pending := rfl
@[simp] theorem setRet_setRet (s : State) (u v : RetentionUnit) : (s.setRet u).setRet v = s.setRet v := rfl
@[simp] theorem setRet_self (s : State) : s.setRet s.ret = s := rfl

/-! ## setFree -/

@[simp] theorem setFree_door (s : State) (u : Nat) : (s.setFree u).door = s.door := rfl
@[simp] theorem setFree_adm (s : State) (u : Nat) : (s.setFree u).adm = s.adm := rfl
@[simp] theorem setFree_occ (s : State) (u : Nat) : (s.setFree u).occ = s.occ := rfl
@[simp] theorem setFree_rel (s : State) (u : Nat) : (s.setFree u).rel = s.rel := rfl
@[simp] theorem setFree_alm (s : State) (u : Nat) : (s.setFree u).alm = s.alm := rfl
@[simp] theorem setFree_link (s : State) (u : Nat) : (s.setFree u).link = s.link := rfl
@[simp] theorem setFree_host (s : State) (u : Nat) : (s.setFree u).host = s.host := rfl
@[simp] theorem setFree_ret (s : State) (u : Nat) : (s.setFree u).ret = s.ret := rfl
@[simp] theorem setFree_free (s : State) (u : Nat) : (s.setFree u).free = u := rfl
@[simp] theorem setFree_pending (s : State) (u : Nat) : (s.setFree u).pending = s.pending := rfl
@[simp] theorem setFree_setFree (s : State) (u v : Nat) : (s.setFree u).setFree v = s.setFree v := rfl
@[simp] theorem setFree_self (s : State) : s.setFree s.free = s := rfl

/-! ## setPending -/

@[simp] theorem setPending_door (s : State) (u : List Instr) : (s.setPending u).door = s.door := rfl
@[simp] theorem setPending_adm (s : State) (u : List Instr) : (s.setPending u).adm = s.adm := rfl
@[simp] theorem setPending_occ (s : State) (u : List Instr) : (s.setPending u).occ = s.occ := rfl
@[simp] theorem setPending_rel (s : State) (u : List Instr) : (s.setPending u).rel = s.rel := rfl
@[simp] theorem setPending_alm (s : State) (u : List Instr) : (s.setPending u).alm = s.alm := rfl
@[simp] theorem setPending_link (s : State) (u : List Instr) : (s.setPending u).link = s.link := rfl
@[simp] theorem setPending_host (s : State) (u : List Instr) : (s.setPending u).host = s.host := rfl
@[simp] theorem setPending_ret (s : State) (u : List Instr) : (s.setPending u).ret = s.ret := rfl
@[simp] theorem setPending_free (s : State) (u : List Instr) : (s.setPending u).free = s.free := rfl
@[simp] theorem setPending_pending (s : State) (u : List Instr) : (s.setPending u).pending = u := rfl
@[simp] theorem setPending_setPending (s : State) (u v : List Instr) : (s.setPending u).setPending v = s.setPending v := rfl
@[simp] theorem setPending_self (s : State) : s.setPending s.pending = s := rfl

/-! ## Time -/

@[simp] theorem setDoor_now (s : State) (u : DoorUnit) : (s.setDoor u).now = s.now := rfl
@[simp] theorem setDoor_nowCs (s : State) (u : DoorUnit) : (s.setDoor u).nowCs = s.nowCs := rfl
@[simp] theorem setDoor_nowTenths (s : State) (u : DoorUnit) : (s.setDoor u).nowTenths = s.nowTenths := rfl
@[simp] theorem setAdm_now (s : State) (u : AdmissionUnit) : (s.setAdm u).now = s.now := rfl
@[simp] theorem setAdm_nowCs (s : State) (u : AdmissionUnit) : (s.setAdm u).nowCs = s.nowCs := rfl
@[simp] theorem setAdm_nowTenths (s : State) (u : AdmissionUnit) : (s.setAdm u).nowTenths = s.nowTenths := rfl
@[simp] theorem setOcc_now (s : State) (u : OccupancyUnit) : (s.setOcc u).now = s.now := rfl
@[simp] theorem setOcc_nowCs (s : State) (u : OccupancyUnit) : (s.setOcc u).nowCs = s.nowCs := rfl
@[simp] theorem setOcc_nowTenths (s : State) (u : OccupancyUnit) : (s.setOcc u).nowTenths = s.nowTenths := rfl
@[simp] theorem setRel_now (s : State) (u : ReleaseUnit) : (s.setRel u).now = s.now := rfl
@[simp] theorem setRel_nowCs (s : State) (u : ReleaseUnit) : (s.setRel u).nowCs = s.nowCs := rfl
@[simp] theorem setRel_nowTenths (s : State) (u : ReleaseUnit) : (s.setRel u).nowTenths = s.nowTenths := rfl
@[simp] theorem setAlm_now (s : State) (u : AlarmUnit) : (s.setAlm u).now = s.now := rfl
@[simp] theorem setAlm_nowCs (s : State) (u : AlarmUnit) : (s.setAlm u).nowCs = s.nowCs := rfl
@[simp] theorem setAlm_nowTenths (s : State) (u : AlarmUnit) : (s.setAlm u).nowTenths = s.nowTenths := rfl
@[simp] theorem setLink_now (s : State) (u : LinkUnit) : (s.setLink u).now = s.now := rfl
@[simp] theorem setLink_nowCs (s : State) (u : LinkUnit) : (s.setLink u).nowCs = s.nowCs := rfl
@[simp] theorem setLink_nowTenths (s : State) (u : LinkUnit) : (s.setLink u).nowTenths = s.nowTenths := rfl
@[simp] theorem setHost_now (s : State) (u : HostUnit) : (s.setHost u).now = s.now := rfl
@[simp] theorem setHost_nowCs (s : State) (u : HostUnit) : (s.setHost u).nowCs = s.nowCs := rfl
@[simp] theorem setHost_nowTenths (s : State) (u : HostUnit) : (s.setHost u).nowTenths = s.nowTenths := rfl
@[simp] theorem setFree_now (s : State) (u : Nat) : (s.setFree u).now = s.now := rfl
@[simp] theorem setFree_nowCs (s : State) (u : Nat) : (s.setFree u).nowCs = s.nowCs := rfl
@[simp] theorem setFree_nowTenths (s : State) (u : Nat) : (s.setFree u).nowTenths = s.nowTenths := rfl
@[simp] theorem setPending_now (s : State) (u : List Instr) : (s.setPending u).now = s.now := rfl
@[simp] theorem setPending_nowCs (s : State) (u : List Instr) : (s.setPending u).nowCs = s.nowCs := rfl
@[simp] theorem setPending_nowTenths (s : State) (u : List Instr) : (s.setPending u).nowTenths = s.nowTenths := rfl

/-- Two states with the same queue-free blocks and the same queue are the same state. -/
theorem ext_blocks {s t : State} (h1 : s.door = t.door) (h2 : s.adm = t.adm) (h3 : s.occ = t.occ) (h4 : s.rel = t.rel)
    (h5 : s.alm = t.alm) (h6 : s.link = t.link) (h7 : s.host = t.host) (h8 : s.ret = t.ret) (h9 : s.free = t.free)
    (h10 : s.pending = t.pending) : s = t := by
  cases s; cases t; simp_all

end Sys2Proof.Machine.State
end

