-- ==== Sys2Proof/Laws/Tables.lean ====
section
/-! SUPPORT. Record tables: a read after a write, what a write leaves alone, and that every table operation keeps the
keys strictly rising. -/

namespace Sys2Proof.Table

variable {α : Type}

/-! ## Reading after writing -/

@[simp] theorem find_nil (n : Nat) : Table.find ([] : Table α) n = none := rfl

theorem find_cons (k n : Nat) (v : α) (t : Table α) :
    Table.find ((k, v) :: t) n = if n = k then some v else Table.find t n := rfl

theorem find_put (t : Table α) (n m : Nat) (w : α) :
    Table.find (Table.put t n w) m = if m = n then some w else Table.find t m := by
  induction t with
  | nil => simp [Table.put, find_cons]
  | cons p t ih =>
    obtain ⟨k, v⟩ := p
    simp only [Table.put]
    split
    · simp [find_cons]
    · split
      · subst_vars
        by_cases h : m = k <;> simp [find_cons, h]
      · simp only [find_cons, ih]
        by_cases h1 : m = k
        · subst h1
          have : m ≠ n := by omega
          simp [this]
        · simp [h1]

@[simp] theorem find_put_self (t : Table α) (n : Nat) (w : α) : Table.find (Table.put t n w) n = some w := by
  simp [find_put]

theorem find_put_ne (t : Table α) {n m : Nat} (w : α) (h : m ≠ n) :
    Table.find (Table.put t n w) m = Table.find t m := by
  simp [find_put, h]

theorem find_del (t : Table α) (n m : Nat) :
    Table.find (Table.del t n) m = if m = n then none else Table.find t m := by
  induction t with
  | nil => simp [Table.del]
  | cons p t ih =>
    obtain ⟨k, v⟩ := p
    unfold Table.del at ih ⊢
    by_cases hk : k = n
    · subst hk
      simp only [List.filter_cons, bne_self_eq_false, Bool.false_eq_true, if_false, ih, find_cons]
      by_cases hm : m = k <;> simp [hm]
    · simp only [List.filter_cons, bne_iff_ne, ne_eq, hk, not_false_eq_true, if_true, find_cons, ih]
      by_cases hm : m = k
      · subst hm; simp [hk]
      · simp [hm]

theorem find_change (t : Table α) (n m : Nat) (f : α → α) :
    Table.find (Table.change t n f) m = if m = n then (Table.find t m).map f else Table.find t m := by
  induction t with
  | nil => simp [Table.change]
  | cons p t ih =>
    obtain ⟨k, v⟩ := p
    unfold Table.change at ih ⊢
    simp only [List.map_cons]
    by_cases hk : k = n
    · subst hk
      simp only [if_true, find_cons, ih]
      by_cases hm : m = k <;> simp [hm]
    · simp only [hk, if_false, find_cons, ih]
      by_cases hm : m = k
      · subst hm; simp [hk]
      · simp [hm]

/-- A map over the records keeps the keys, and changes each record by the function. -/
theorem find_map (t : Table α) (f : Nat → α → α) (m : Nat) :
    Table.find (t.map (fun p => (p.1, f p.1 p.2))) m = (Table.find t m).map (f m) := by
  induction t with
  | nil => simp
  | cons p t ih =>
    obtain ⟨k, v⟩ := p
    simp only [List.map_cons, find_cons, ih]
    by_cases hm : m = k
    · subst hm; simp
    · simp [hm]

/-! ## Strictly rising keys -/

/-- The canonical form in terms of the keys alone. -/
theorem wf_iff (t : Table α) : Table.wf t = true ↔ (t.map (·.1)).Pairwise (· < ·) := by
  induction t with
  | nil => simp [Table.wf]
  | cons p t ih =>
    obtain ⟨k, v⟩ := p
    cases t with
    | nil => simp [Table.wf]
    | cons q t =>
      obtain ⟨k', v'⟩ := q
      simp only [Table.wf, Bool.and_eq_true, decide_eq_true_eq, ih, List.map_cons, List.pairwise_cons]
      constructor
      · rintro ⟨h, h1, h2⟩
        refine ⟨?_, h1, h2⟩
        intro a ha
        rcases List.mem_cons.1 ha with rfl | ha
        · exact h
        · exact lt_trans h (h1 a ha)
      · rintro ⟨h, h1, h2⟩
        exact ⟨h k' (by simp), h1, h2⟩

theorem mem_keys_put (t : Table α) (n a : Nat) (w : α) (h : a ∈ (Table.put t n w).map (·.1)) :
    a = n ∨ a ∈ t.map (·.1) := by
  induction t with
  | nil => simpa [Table.put] using h
  | cons p t ih =>
    obtain ⟨k, v⟩ := p
    simp only [Table.put] at h
    split at h
    · simpa using h
    · split at h
      · subst_vars; simp only [List.map_cons, List.mem_cons] at h ⊢; tauto
      · simp only [List.map_cons, List.mem_cons] at h ⊢
        rcases h with h | h
        · tauto
        · rcases ih h with h | h <;> tauto

theorem wf_put {t : Table α} (n : Nat) (w : α) (h : Table.wf t = true) : Table.wf (Table.put t n w) = true := by
  rw [wf_iff] at h ⊢
  induction t with
  | nil => simp [Table.put]
  | cons p t ih =>
    obtain ⟨k, v⟩ := p
    simp only [List.map_cons, List.pairwise_cons] at h
    obtain ⟨h1, h2⟩ := h
    simp only [Table.put]
    split
    · rename_i hn
      simp only [List.map_cons, List.pairwise_cons, List.mem_cons]
      refine ⟨?_, h1, h2⟩
      rintro a (rfl | ha)
      · exact hn
      · exact lt_trans hn (h1 a ha)
    · split
      · subst_vars
        simp only [List.map_cons, List.pairwise_cons]
        exact ⟨h1, h2⟩
      · simp only [List.map_cons, List.pairwise_cons]
        refine ⟨?_, ih h2⟩
        intro a ha
        rcases mem_keys_put t n a w ha with rfl | ha
        · omega
        · exact h1 a ha

theorem wf_filter {t : Table α} (p : Nat × α → Bool) (h : Table.wf t = true) : Table.wf (t.filter p) = true := by
  rw [wf_iff] at h ⊢
  exact h.sublist (List.filter_sublist.map _)

theorem wf_del {t : Table α} (n : Nat) (h : Table.wf t = true) : Table.wf (Table.del t n) = true := wf_filter _ h

/-- A map that keeps the keys keeps the form. -/
theorem wf_map {β : Type} {t : Table α} (f : Nat × α → Nat × β) (hf : ∀ p, (f p).1 = p.1) (h : Table.wf t = true) :
    Table.wf (t.map f) = true := by
  rw [wf_iff] at h ⊢
  have : (t.map f).map (·.1) = t.map (·.1) := by simp [List.map_map, Function.comp_def, hf]
  rwa [this]

theorem wf_change {t : Table α} (n : Nat) (f : α → α) (h : Table.wf t = true) : Table.wf (Table.change t n f) = true := by
  apply wf_map _ _ h
  intro p; split <;> rfl

/-- In canonical form a listed pair is what a read finds. -/
theorem find_of_mem {t : Table α} {k : Nat} {v : α} (h : Table.wf t = true) (hm : (k, v) ∈ t) :
    Table.find t k = some v := by
  rw [wf_iff] at h
  induction t with
  | nil => simp at hm
  | cons p t ih =>
    obtain ⟨k', v'⟩ := p
    simp only [List.map_cons, List.pairwise_cons] at h
    rcases List.mem_cons.1 hm with hm | hm
    · cases hm; simp [find_cons]
    · have : k' < k := h.1 k (List.mem_map.2 ⟨(k, v), hm, rfl⟩)
      rw [find_cons, if_neg (by omega)]
      exact ih h.2 hm

/-- What a read finds is a listed pair. -/
theorem mem_of_find {t : Table α} {k : Nat} {v : α} (h : Table.find t k = some v) : (k, v) ∈ t := by
  induction t with
  | nil => simp at h
  | cons p t ih =>
    obtain ⟨k', v'⟩ := p
    rw [find_cons] at h
    split at h
    · cases h; subst_vars; simp
    · exact List.mem_cons_of_mem _ (ih h)

/-- A slot that the search gives is free and in range. -/
theorem freeFrom_spec {t : Table α} {fuel i n : Nat} (h : Table.freeFrom t fuel i = some n) :
    Table.find t n = none ∧ i ≤ n ∧ n < i + fuel ∧ ∀ m, i ≤ m → m < n → (Table.find t m).isSome := by
  induction fuel generalizing i with
  | zero => simp [Table.freeFrom] at h
  | succ f ih =>
    simp only [Table.freeFrom] at h
    split at h
    · rename_i hi
      obtain ⟨h1, h2, h3, h4⟩ := ih h
      refine ⟨h1, by omega, by omega, ?_⟩
      intro m hm1 hm2
      by_cases hmi : m = i
      · subst hmi; exact hi
      · exact h4 m (by omega) hm2
    · rename_i hi
      cases h
      refine ⟨by simpa using hi, le_refl _, by omega, ?_⟩
      intro m hm1 hm2; omega

end Sys2Proof.Table
end

