-- ==== Sys2Proof/Laws/Alarms.lean ====
section
/-! SUPPORT. What the operations of the Alarm Unit can do to its table: every one keeps the keys rising, and none makes
a second open ordinary record of a kind and subject (R138). -/

namespace Sys2Proof.Machine

/-- No kind and subject have two open ordinary records in a table (R138). -/
def OneAlarm (t : Table AlarmRec) : Prop :=
  ∀ i j x y, (i, x) ∈ t → (j, y) ∈ t → AlarmUnit.isOrdinary i = true → AlarmUnit.isOrdinary j = true →
    x.kind = y.kind → x.subject = y.subject → i = j

/-- A table of alarm records in canonical form, with one record for each kind and subject. -/
structure AlarmsGood (t : Table AlarmRec) : Prop where
  rising : t.wf = true
  one    : OneAlarm t

namespace AlarmsGood

/-- Membership after a write. -/
theorem mem_put {α : Type} {t : Table α} {n i : Nat} {w x : α} (h : (i, x) ∈ t.put n w) :
    (i = n ∧ x = w) ∨ (i, x) ∈ t := by
  induction t with
  | nil => simp [Table.put] at h; exact .inl h
  | cons p t ih =>
    obtain ⟨k, v⟩ := p
    simp only [Table.put] at h
    split at h
    · simp only [List.mem_cons, Prod.mk.injEq] at h ⊢; tauto
    · split at h
      · simp only [List.mem_cons, Prod.mk.injEq] at h ⊢; tauto
      · simp only [List.mem_cons, Prod.mk.injEq] at h ⊢
        rcases h with h | h
        · tauto
        · rcases ih h with h | h <;> tauto

/-- A write in canonical form: the other slots' records, and the written one. -/
theorem mem_put_wf {α : Type} {t : Table α} {n i : Nat} {w x : α} (hw : t.wf = true) (h : (i, x) ∈ t.put n w) :
    (i = n ∧ x = w) ∨ (i ≠ n ∧ (i, x) ∈ t) := by
  have hf := Table.find_of_mem (Table.wf_put n w hw) h
  rw [Table.find_put] at hf
  split at hf
  · cases hf; exact .inl ⟨‹_›, rfl⟩
  · exact .inr ⟨‹_›, Table.mem_of_find hf⟩

/-- Writing a record of the kind and subject that the slot has. -/
theorem put_same {t : Table AlarmRec} {n : Nat} {r w : AlarmRec} (h : AlarmsGood t) (hr : (n, r) ∈ t)
    (hk : w.kind = r.kind) (hs : w.subject = r.subject) : AlarmsGood (t.put n w) := by
  refine ⟨Table.wf_put _ _ h.rising, ?_⟩
  intro i j x y hi hj oi oj hxy hsub
  rcases mem_put_wf h.rising hi with ⟨rfl, rfl⟩ | ⟨ni, hi'⟩ <;> rcases mem_put_wf h.rising hj with ⟨rfl, rfl⟩ | ⟨nj, hj'⟩
  · rfl
  · exact h.one _ _ _ _ hr hj' oi oj (hk ▸ hxy) (hs ▸ hsub)
  · exact h.one _ _ _ _ hi' hr oi oj (hk ▸ hxy) (hs ▸ hsub)
  · exact h.one _ _ _ _ hi' hj' oi oj hxy hsub

/-- Writing a place that is no ordinary one. -/
theorem put_overflow {t : Table AlarmRec} {n : Nat} {w : AlarmRec} (h : AlarmsGood t)
    (hn : AlarmUnit.isOrdinary n = false) : AlarmsGood (t.put n w) := by
  refine ⟨Table.wf_put _ _ h.rising, ?_⟩
  intro i j x y hi hj oi oj hxy hsub
  rcases mem_put_wf h.rising hi with ⟨rfl, rfl⟩ | ⟨ni, hi'⟩
  · simp [hn] at oi
  · rcases mem_put_wf h.rising hj with ⟨rfl, rfl⟩ | ⟨nj, hj'⟩
    · simp [hn] at oj
    · exact h.one _ _ _ _ hi' hj' oi oj hxy hsub

/-- Writing a record whose kind and subject no other open ordinary record has. -/
theorem put_new {t : Table AlarmRec} {n : Nat} {w : AlarmRec} (h : AlarmsGood t)
    (hn : ∀ j y, (j, y) ∈ t → AlarmUnit.isOrdinary j = true → ¬(y.kind = w.kind ∧ y.subject = w.subject)) :
    AlarmsGood (t.put n w) := by
  refine ⟨Table.wf_put _ _ h.rising, ?_⟩
  intro i j x y hi hj oi oj hxy hsub
  rcases mem_put_wf h.rising hi with ⟨rfl, rfl⟩ | ⟨ni, hi'⟩ <;> rcases mem_put_wf h.rising hj with ⟨rfl, rfl⟩ | ⟨nj, hj'⟩
  · rfl
  · exact absurd ⟨hxy.symm, hsub.symm⟩ (hn _ _ hj' oj)
  · exact absurd ⟨hxy, hsub⟩ (hn _ _ hi' oi)
  · exact h.one _ _ _ _ hi' hj' oi oj hxy hsub

/-- Leaving records out. -/
theorem filter {t : Table AlarmRec} (p : Nat × AlarmRec → Bool) (h : AlarmsGood t) : AlarmsGood (t.filter p) := by
  refine ⟨Table.wf_filter _ h.rising, ?_⟩
  intro i j x y hi hj
  exact h.one _ _ _ _ (List.mem_filter.1 hi).1 (List.mem_filter.1 hj).1

/-- Changing records in their places, with kind and subject kept. -/
theorem map {t : Table AlarmRec} (f : AlarmRec → AlarmRec) (hk : ∀ r, (f r).kind = r.kind)
    (hs : ∀ r, (f r).subject = r.subject) (h : AlarmsGood t) : AlarmsGood (t.map (fun p => (p.1, f p.2))) := by
  refine ⟨Table.wf_map _ (fun _ => rfl) h.rising, ?_⟩
  intro i j x y hi hj oi oj hxy hsub
  obtain ⟨⟨i', x'⟩, hi', e⟩ := List.mem_map.1 hi
  obtain ⟨⟨j', y'⟩, hj', e'⟩ := List.mem_map.1 hj
  cases e; cases e'
  simp only [hk, hs] at hxy hsub
  exact h.one _ _ _ _ hi' hj' oi oj hxy hsub

end AlarmsGood

namespace AlarmUnit

/-- What a raise looks for: the open ordinary record of the kind and subject. -/
theorem openRecord_spec {u : AlarmUnit} {k : Kind} {j : Subject} {n : Nat} {r : AlarmRec}
    (h : u.openRecord k j = some (n, r)) :
    (n, r) ∈ u.recs ∧ isOrdinary n = true ∧ r.kind = some k ∧ r.subject = some j := by
  unfold openRecord at h
  have h1 := List.mem_of_find?_eq_some h
  have h2 := List.find?_some h
  simp only [Bool.and_eq_true, decide_eq_true_eq] at h2
  exact ⟨h1, h2.1.1, h2.1.2, h2.2⟩

/-- Where a raise finds no record to merge into, no open ordinary record has the kind and subject. -/
theorem openRecord_none {u : AlarmUnit} {k : Kind} {j : Subject} (h : u.openRecord k j = none) (n : Nat)
    (r : AlarmRec) (hm : (n, r) ∈ u.recs) (ho : isOrdinary n = true) : ¬(r.kind = some k ∧ r.subject = some j) := by
  unfold openRecord at h
  have := List.find?_eq_none.1 h _ hm
  simpa [ho] using this

theorem count_good {u : AlarmUnit} (now c : Nat) (f : Bool) (h : AlarmsGood u.recs) :
    AlarmsGood (u.count now c f).recs := by
  have hn : isOrdinary (Config.alarmPlaces + c) = false := by
    simp [isOrdinary, Config.alarmPlaces]
  unfold count
  dsimp only
  split
  · exact h.put_overflow hn
  · exact h.put_overflow hn

theorem remove_good {u : AlarmUnit} (n : Nat) (h : AlarmsGood u.recs) : AlarmsGood (u.remove n).recs :=
  h.filter _

/-- The records left after a removal were there before. -/
theorem mem_remove {u : AlarmUnit} {n i : Nat} {x : AlarmRec} (h : (i, x) ∈ (u.remove n).recs) : (i, x) ∈ u.recs :=
  (List.mem_filter.1 h).1

/-- A count changes overflow places only. -/
theorem mem_count {u : AlarmUnit} {now c i : Nat} {f : Bool} {x : AlarmRec} (ho : isOrdinary i = true)
    (h : (i, x) ∈ (u.count now c f).recs) : (i, x) ∈ u.recs := by
  have hn : isOrdinary (Config.alarmPlaces + c) = false := by simp [isOrdinary, Config.alarmPlaces]
  unfold count at h
  dsimp only at h
  split at h
  · rcases AlarmsGood.mem_put h with ⟨rfl, _⟩ | h
    · simp [hn] at ho
    · exact h
  · rcases AlarmsGood.mem_put h with ⟨rfl, _⟩ | h
    · simp [hn] at ho
    · exact h

theorem raiseOne_good {u : AlarmUnit} (now : Nat) (k : Kind) (j : Subject) (z p : Option Nat)
    (h : AlarmsGood u.recs) : AlarmsGood (u.raiseOne now k j z p).recs := by
  unfold raiseOne
  split
  · rename_i n r hr
    obtain ⟨hm, _, hk, hs⟩ := openRecord_spec hr
    exact h.put_same hm rfl rfl
  · rename_i hr
    have hnone := openRecord_none hr
    split
    · refine h.put_new ?_
      intro i x hi oi he
      exact hnone i x hi oi ⟨he.1, he.2⟩
    · split
      · refine AlarmsGood.put_new (count_good _ _ _ (remove_good _ h)) ?_
        intro i x hi oi he
        exact hnone i x (mem_remove (mem_count oi hi)) oi ⟨he.1, he.2⟩
      · exact count_good _ _ _ h

theorem raise_good {u : AlarmUnit} (now : Nat) (k : Kind) (j : Subject) (z p : Option Nat) (h : AlarmsGood u.recs) :
    AlarmsGood (u.raise now k j z p).recs := by
  unfold raise
  dsimp only
  split
  · exact raiseOne_good _ _ _ _ _ (raiseOne_good _ _ _ _ _ h)
  · exact raiseOne_good _ _ _ _ _ h

theorem endRecord_good {u : AlarmUnit} {n : Nat} {r : AlarmRec} (hm : (n, r) ∈ u.recs) (h : AlarmsGood u.recs) :
    AlarmsGood (u.endRecord n r).recs := by
  unfold endRecord
  split
  · exact remove_good _ h
  · exact h.put_same hm rfl rfl

theorem endKind_good {u : AlarmUnit} (k : Kind) (j : Subject) (h : AlarmsGood u.recs) :
    AlarmsGood (u.endKind k j).recs := by
  unfold endKind
  split
  · exact h
  · rename_i n r hr
    split
    · exact h
    · exact endRecord_good (openRecord_spec hr).1 h

/-- Ending the records of a list one by one, each still standing in its own place as the list has it. -/
theorem endAll_good (l : List (Nat × AlarmRec)) : ∀ (u : AlarmUnit), AlarmsGood u.recs →
    (∀ p ∈ l, p ∈ u.recs) → (l.map (·.1)).Pairwise (· < ·) →
    AlarmsGood (l.foldl (fun u p => u.endRecord p.1 p.2) u).recs := by
  induction l with
  | nil => intro u h _ _; exact h
  | cons p l ih =>
    intro u h hl hp
    simp only [List.map_cons, List.pairwise_cons] at hp
    refine ih _ (endRecord_good (hl p (by simp)) h) ?_ hp.2
    intro q hq
    have hqu := hl q (List.mem_cons_of_mem _ hq)
    have hne : p.1 < q.1 := hp.1 _ (List.mem_map.2 ⟨q, hq, rfl⟩)
    change q ∈ (u.endRecord p.1 p.2).recs
    unfold endRecord
    split
    · refine List.mem_filter.2 ⟨hqu, ?_⟩
      simp only [bne_iff_ne, ne_eq]; omega
    · refine Table.mem_of_find (t := (u.recs.put p.1 _)) (k := q.1) (v := q.2) ?_
      rw [Table.find_put_ne _ _ (by omega)]
      exact Table.find_of_mem h.rising hqu

theorem withdraw_good {u : AlarmUnit} (j : Subject) (h : AlarmsGood u.recs) : AlarmsGood (u.withdraw j).recs := by
  unfold withdraw
  refine endAll_good _ _ h (fun p hp => (List.mem_filter.1 hp).1) ?_
  exact (Table.wf_iff _).1 (Table.wf_filter _ h.rising)

theorem fail_good {u : AlarmUnit} (now n : Nat) (h : AlarmsGood u.recs) : AlarmsGood (u.fail now n).recs := by
  unfold fail
  split
  · exact h
  · split
    · exact count_good _ _ _ (remove_good _ h)
    · rename_i ho
      exact h.put_overflow (by simpa using ho)

end AlarmUnit
end Sys2Proof.Machine
end

