-- ==== Sys2Proof/Laws/PerInstr.lean ====
section
/-! SUPPORT. One lemma for each constructor of Instr: the request code of a command (R184) is read back as that command.
A command that no request frame carries has no code. -/

namespace Sys2Proof.Laws.Code

open Sys2Proof.Machine

/-- The request code that a command has, if any, is read as that very command (R184). -/
def Statement (i : Instr) : Prop := ∀ code r, codeOf i = some (code, r) → requestOf code r = some i

theorem lookup (r : Req) : Statement (.lookup r) := by
  intro c q h; cases h; rfl

theorem list (r : Req) : Statement (.list r) := by
  intro c q h; cases h; rfl

theorem insert (r : Req) : Statement (.insert r) := by
  intro c q h; cases h; rfl

theorem amend (r : Req) : Statement (.amend r) := by
  intro c q h; cases h; rfl

theorem retire (r : Req) : Statement (.retire r) := by
  intro c q h; cases h; rfl

theorem freeze (r : Req) : Statement (.freeze r) := by
  intro c q h; cases h; rfl

theorem thaw (r : Req) : Statement (.thaw r) := by
  intro c q h; cases h; rfl

theorem sweepClear (r : Req) : Statement (.sweepClear r) := by
  intro c q h; cases h; rfl

theorem hoursOverride (r : Req) : Statement (.hoursOverride r) := by
  intro c q h; cases h; rfl

theorem remoteRelease (r : Req) : Statement (.remoteRelease r) := by
  intro c q h; cases h; rfl

theorem lockoutOn (r : Req) : Statement (.lockoutOn r) := by
  intro c q h; cases h; rfl

theorem lockoutOff (r : Req) : Statement (.lockoutOff r) := by
  intro c q h; cases h; rfl

theorem isolate (r : Req) : Statement (.isolate r) := by
  intro c q h; cases h; rfl

theorem deisolate (r : Req) : Statement (.deisolate r) := by
  intro c q h; cases h; rfl

theorem ventClear (r : Req) : Statement (.ventClear r) := by
  intro c q h; cases h; rfl

theorem nextNotice (r : Req) : Statement (.nextNotice r) := by
  intro c q h; cases h; rfl

theorem acknowledge (r : Req) : Statement (.acknowledge r) := by
  intro c q h; cases h; rfl

theorem restore (r : Req) : Statement (.restore r) := by
  intro c q h; cases h; rfl

theorem setMask (r : Req) : Statement (.setMask r) := by
  intro c q h; cases h; rfl

theorem setClock (r : Req) : Statement (.setClock r) := by
  intro c q h; cases h; rfl

theorem status (r : Req) : Statement (.status r) := by
  intro c q h; cases h; rfl

theorem commission (r : Req) : Statement (.commission r) := by
  intro c q h; cases h; rfl

theorem ackRestart (r : Req) : Statement (.ackRestart r) := by
  intro c q h; cases h; rfl

theorem restart (r : Req) : Statement (.restart r) := by
  intro c q h; cases h; rfl

theorem unknownRequest (frame : List Byte) : Statement (.unknownRequest frame) := by
  intro c q h; cases h

theorem hostWriteOverrun : Statement .hostWriteOverrun := by
  intro c q h; cases h

theorem hostRead : Statement .hostRead := by
  intro c q h; cases h

theorem poll : Statement .poll := by
  intro c q h; cases h

theorem goodReport (reply : List Byte) : Statement (.goodReport reply) := by
  intro c q h; cases h

theorem replyWindowExpiry : Statement .replyWindowExpiry := by
  intro c q h; cases h

theorem leadExpiry (door : Nat) : Statement (.leadExpiry door) := by
  intro c q h; cases h

theorem strikeTimerExpiry (door : Nat) : Statement (.strikeTimerExpiry door) := by
  intro c q h; cases h

theorem heldOpenExpiry (door : Nat) : Statement (.heldOpenExpiry door) := by
  intro c q h; cases h

theorem relockHoldExpiry (door : Nat) : Statement (.relockHoldExpiry door) := by
  intro c q h; cases h

theorem interlockTimeout (door : Nat) : Statement (.interlockTimeout door) := by
  intro c q h; cases h

theorem exitDue (door : Nat) : Statement (.exitDue door) := by
  intro c q h; cases h

theorem indicationReturn (door : Nat) : Statement (.indicationReturn door) := by
  intro c q h; cases h

theorem pairWindowExpiry (door : Nat) : Statement (.pairWindowExpiry door) := by
  intro c q h; cases h

theorem waitExpired : Statement .waitExpired := by
  intro c q h; cases h

theorem dwellDeadline (slot : Nat) : Statement (.dwellDeadline slot) := by
  intro c q h; cases h

theorem checkinDeadline (slot : Nat) : Statement (.checkinDeadline slot) := by
  intro c q h; cases h

theorem pairGraceDeadline (slot : Nat) : Statement (.pairGraceDeadline slot) := by
  intro c q h; cases h

theorem countdownDeadline (agent : Nat) : Statement (.countdownDeadline agent) := by
  intro c q h; cases h

theorem confirmationDeadline (agent : Nat) : Statement (.confirmationDeadline agent) := by
  intro c q h; cases h

theorem calendarAdvance : Statement .calendarAdvance := by
  intro c q h; cases h

theorem recordCheckSweep (damage : List Damage) : Statement (.recordCheckSweep damage) := by
  intro c q h; cases h

theorem resetLine (damage : List Damage) : Statement (.resetLine damage) := by
  intro c q h; cases h

theorem mainSupplyDip (retained : Bool) (damage : List Damage) : Statement (.mainSupplyDip retained damage) := by
  intro c q h; cases h

theorem mainSupplyRestored (retained : Bool) (damage : List Damage) : Statement (.mainSupplyRestored retained damage) := by
  intro c q h; cases h

end Sys2Proof.Laws.Code
end

