-- ==== Sys2Proof/Laws/Records.lean ====
section
/-! SUPPORT. What the record operations read back and leave alone: each changes the block it names and no other. -/

namespace Sys2Proof.Machine.State

variable (s : State)

/-! ## putZone -/

@[simp] theorem putZone_door (z : Nat) (r : ZoneRec) : (s.putZone z r).door = s.door := rfl
@[simp] theorem putZone_adm (z : Nat) (r : ZoneRec) : (s.putZone z r).adm = s.adm := rfl
@[simp] theorem putZone_rel (z : Nat) (r : ZoneRec) : (s.putZone z r).rel = s.rel := rfl
@[simp] theorem putZone_alm (z : Nat) (r : ZoneRec) : (s.putZone z r).alm = s.alm := rfl
@[simp] theorem putZone_link (z : Nat) (r : ZoneRec) : (s.putZone z r).link = s.link := rfl
@[simp] theorem putZone_host (z : Nat) (r : ZoneRec) : (s.putZone z r).host = s.host := rfl
@[simp] theorem putZone_ret (z : Nat) (r : ZoneRec) : (s.putZone z r).ret = s.ret := rfl
@[simp] theorem putZone_free (z : Nat) (r : ZoneRec) : (s.putZone z r).free = s.free := rfl
@[simp] theorem putZone_pending (z : Nat) (r : ZoneRec) : (s.putZone z r).pending = s.pending := rfl

/-! ## changeZone -/

@[simp] theorem changeZone_door (z : Nat) (f : ZoneRec → ZoneRec) : (s.changeZone z f).door = s.door := rfl
@[simp] theorem changeZone_adm (z : Nat) (f : ZoneRec → ZoneRec) : (s.changeZone z f).adm = s.adm := rfl
@[simp] theorem changeZone_rel (z : Nat) (f : ZoneRec → ZoneRec) : (s.changeZone z f).rel = s.rel := rfl
@[simp] theorem changeZone_alm (z : Nat) (f : ZoneRec → ZoneRec) : (s.changeZone z f).alm = s.alm := rfl
@[simp] theorem changeZone_link (z : Nat) (f : ZoneRec → ZoneRec) : (s.changeZone z f).link = s.link := rfl
@[simp] theorem changeZone_host (z : Nat) (f : ZoneRec → ZoneRec) : (s.changeZone z f).host = s.host := rfl
@[simp] theorem changeZone_ret (z : Nat) (f : ZoneRec → ZoneRec) : (s.changeZone z f).ret = s.ret := rfl
@[simp] theorem changeZone_free (z : Nat) (f : ZoneRec → ZoneRec) : (s.changeZone z f).free = s.free := rfl
@[simp] theorem changeZone_pending (z : Nat) (f : ZoneRec → ZoneRec) : (s.changeZone z f).pending = s.pending := rfl

/-! ## putOcc -/

@[simp] theorem putOcc_door (i : Nat) (r : OccRec) : (s.putOcc i r).door = s.door := rfl
@[simp] theorem putOcc_adm (i : Nat) (r : OccRec) : (s.putOcc i r).adm = s.adm := rfl
@[simp] theorem putOcc_rel (i : Nat) (r : OccRec) : (s.putOcc i r).rel = s.rel := rfl
@[simp] theorem putOcc_alm (i : Nat) (r : OccRec) : (s.putOcc i r).alm = s.alm := rfl
@[simp] theorem putOcc_link (i : Nat) (r : OccRec) : (s.putOcc i r).link = s.link := rfl
@[simp] theorem putOcc_host (i : Nat) (r : OccRec) : (s.putOcc i r).host = s.host := rfl
@[simp] theorem putOcc_ret (i : Nat) (r : OccRec) : (s.putOcc i r).ret = s.ret := rfl
@[simp] theorem putOcc_free (i : Nat) (r : OccRec) : (s.putOcc i r).free = s.free := rfl
@[simp] theorem putOcc_pending (i : Nat) (r : OccRec) : (s.putOcc i r).pending = s.pending := rfl

/-! ## delOcc -/

@[simp] theorem delOcc_door (i : Nat) : (s.delOcc i).door = s.door := rfl
@[simp] theorem delOcc_adm (i : Nat) : (s.delOcc i).adm = s.adm := rfl
@[simp] theorem delOcc_rel (i : Nat) : (s.delOcc i).rel = s.rel := rfl
@[simp] theorem delOcc_alm (i : Nat) : (s.delOcc i).alm = s.alm := rfl
@[simp] theorem delOcc_link (i : Nat) : (s.delOcc i).link = s.link := rfl
@[simp] theorem delOcc_host (i : Nat) : (s.delOcc i).host = s.host := rfl
@[simp] theorem delOcc_ret (i : Nat) : (s.delOcc i).ret = s.ret := rfl
@[simp] theorem delOcc_free (i : Nat) : (s.delOcc i).free = s.free := rfl
@[simp] theorem delOcc_pending (i : Nat) : (s.delOcc i).pending = s.pending := rfl

/-! ## changeOcc -/

@[simp] theorem changeOcc_door (i : Nat) (f : OccRec → OccRec) : (s.changeOcc i f).door = s.door := rfl
@[simp] theorem changeOcc_adm (i : Nat) (f : OccRec → OccRec) : (s.changeOcc i f).adm = s.adm := rfl
@[simp] theorem changeOcc_rel (i : Nat) (f : OccRec → OccRec) : (s.changeOcc i f).rel = s.rel := rfl
@[simp] theorem changeOcc_alm (i : Nat) (f : OccRec → OccRec) : (s.changeOcc i f).alm = s.alm := rfl
@[simp] theorem changeOcc_link (i : Nat) (f : OccRec → OccRec) : (s.changeOcc i f).link = s.link := rfl
@[simp] theorem changeOcc_host (i : Nat) (f : OccRec → OccRec) : (s.changeOcc i f).host = s.host := rfl
@[simp] theorem changeOcc_ret (i : Nat) (f : OccRec → OccRec) : (s.changeOcc i f).ret = s.ret := rfl
@[simp] theorem changeOcc_free (i : Nat) (f : OccRec → OccRec) : (s.changeOcc i f).free = s.free := rfl
@[simp] theorem changeOcc_pending (i : Nat) (f : OccRec → OccRec) : (s.changeOcc i f).pending = s.pending := rfl

/-! ## putDoor -/

@[simp] theorem putDoor_adm (d : Nat) (r : DoorRec) : (s.putDoor d r).adm = s.adm := rfl
@[simp] theorem putDoor_occ (d : Nat) (r : DoorRec) : (s.putDoor d r).occ = s.occ := rfl
@[simp] theorem putDoor_rel (d : Nat) (r : DoorRec) : (s.putDoor d r).rel = s.rel := rfl
@[simp] theorem putDoor_alm (d : Nat) (r : DoorRec) : (s.putDoor d r).alm = s.alm := rfl
@[simp] theorem putDoor_link (d : Nat) (r : DoorRec) : (s.putDoor d r).link = s.link := rfl
@[simp] theorem putDoor_host (d : Nat) (r : DoorRec) : (s.putDoor d r).host = s.host := rfl
@[simp] theorem putDoor_ret (d : Nat) (r : DoorRec) : (s.putDoor d r).ret = s.ret := rfl
@[simp] theorem putDoor_free (d : Nat) (r : DoorRec) : (s.putDoor d r).free = s.free := rfl
@[simp] theorem putDoor_pending (d : Nat) (r : DoorRec) : (s.putDoor d r).pending = s.pending := rfl

/-! ## changeDoor -/

@[simp] theorem changeDoor_adm (d : Nat) (f : DoorRec → DoorRec) : (s.changeDoor d f).adm = s.adm := rfl
@[simp] theorem changeDoor_occ (d : Nat) (f : DoorRec → DoorRec) : (s.changeDoor d f).occ = s.occ := rfl
@[simp] theorem changeDoor_rel (d : Nat) (f : DoorRec → DoorRec) : (s.changeDoor d f).rel = s.rel := rfl
@[simp] theorem changeDoor_alm (d : Nat) (f : DoorRec → DoorRec) : (s.changeDoor d f).alm = s.alm := rfl
@[simp] theorem changeDoor_link (d : Nat) (f : DoorRec → DoorRec) : (s.changeDoor d f).link = s.link := rfl
@[simp] theorem changeDoor_host (d : Nat) (f : DoorRec → DoorRec) : (s.changeDoor d f).host = s.host := rfl
@[simp] theorem changeDoor_ret (d : Nat) (f : DoorRec → DoorRec) : (s.changeDoor d f).ret = s.ret := rfl
@[simp] theorem changeDoor_free (d : Nat) (f : DoorRec → DoorRec) : (s.changeDoor d f).free = s.free := rfl
@[simp] theorem changeDoor_pending (d : Nat) (f : DoorRec → DoorRec) : (s.changeDoor d f).pending = s.pending := rfl

/-! ## putPerson -/

@[simp] theorem putPerson_door (p : Nat) (r : PersonRec) : (s.putPerson p r).door = s.door := rfl
@[simp] theorem putPerson_occ (p : Nat) (r : PersonRec) : (s.putPerson p r).occ = s.occ := rfl
@[simp] theorem putPerson_rel (p : Nat) (r : PersonRec) : (s.putPerson p r).rel = s.rel := rfl
@[simp] theorem putPerson_alm (p : Nat) (r : PersonRec) : (s.putPerson p r).alm = s.alm := rfl
@[simp] theorem putPerson_link (p : Nat) (r : PersonRec) : (s.putPerson p r).link = s.link := rfl
@[simp] theorem putPerson_host (p : Nat) (r : PersonRec) : (s.putPerson p r).host = s.host := rfl
@[simp] theorem putPerson_ret (p : Nat) (r : PersonRec) : (s.putPerson p r).ret = s.ret := rfl
@[simp] theorem putPerson_free (p : Nat) (r : PersonRec) : (s.putPerson p r).free = s.free := rfl
@[simp] theorem putPerson_pending (p : Nat) (r : PersonRec) : (s.putPerson p r).pending = s.pending := rfl

/-! ## putGrant -/

@[simp] theorem putGrant_door (g : Nat) (r : GrantRec) : (s.putGrant g r).door = s.door := rfl
@[simp] theorem putGrant_occ (g : Nat) (r : GrantRec) : (s.putGrant g r).occ = s.occ := rfl
@[simp] theorem putGrant_rel (g : Nat) (r : GrantRec) : (s.putGrant g r).rel = s.rel := rfl
@[simp] theorem putGrant_alm (g : Nat) (r : GrantRec) : (s.putGrant g r).alm = s.alm := rfl
@[simp] theorem putGrant_link (g : Nat) (r : GrantRec) : (s.putGrant g r).link = s.link := rfl
@[simp] theorem putGrant_host (g : Nat) (r : GrantRec) : (s.putGrant g r).host = s.host := rfl
@[simp] theorem putGrant_ret (g : Nat) (r : GrantRec) : (s.putGrant g r).ret = s.ret := rfl
@[simp] theorem putGrant_free (g : Nat) (r : GrantRec) : (s.putGrant g r).free = s.free := rfl
@[simp] theorem putGrant_pending (g : Nat) (r : GrantRec) : (s.putGrant g r).pending = s.pending := rfl

/-! ## putStation -/

@[simp] theorem putStation_door (a : Nat) (r : StationRec) : (s.putStation a r).door = s.door := rfl
@[simp] theorem putStation_adm (a : Nat) (r : StationRec) : (s.putStation a r).adm = s.adm := rfl
@[simp] theorem putStation_occ (a : Nat) (r : StationRec) : (s.putStation a r).occ = s.occ := rfl
@[simp] theorem putStation_rel (a : Nat) (r : StationRec) : (s.putStation a r).rel = s.rel := rfl
@[simp] theorem putStation_alm (a : Nat) (r : StationRec) : (s.putStation a r).alm = s.alm := rfl
@[simp] theorem putStation_host (a : Nat) (r : StationRec) : (s.putStation a r).host = s.host := rfl
@[simp] theorem putStation_ret (a : Nat) (r : StationRec) : (s.putStation a r).ret = s.ret := rfl
@[simp] theorem putStation_free (a : Nat) (r : StationRec) : (s.putStation a r).free = s.free := rfl
@[simp] theorem putStation_pending (a : Nat) (r : StationRec) : (s.putStation a r).pending = s.pending := rfl

/-! ## changeStation -/

@[simp] theorem changeStation_door (a : Nat) (f : StationRec → StationRec) : (s.changeStation a f).door = s.door := rfl
@[simp] theorem changeStation_adm (a : Nat) (f : StationRec → StationRec) : (s.changeStation a f).adm = s.adm := rfl
@[simp] theorem changeStation_occ (a : Nat) (f : StationRec → StationRec) : (s.changeStation a f).occ = s.occ := rfl
@[simp] theorem changeStation_rel (a : Nat) (f : StationRec → StationRec) : (s.changeStation a f).rel = s.rel := rfl
@[simp] theorem changeStation_alm (a : Nat) (f : StationRec → StationRec) : (s.changeStation a f).alm = s.alm := rfl
@[simp] theorem changeStation_host (a : Nat) (f : StationRec → StationRec) : (s.changeStation a f).host = s.host := rfl
@[simp] theorem changeStation_ret (a : Nat) (f : StationRec → StationRec) : (s.changeStation a f).ret = s.ret := rfl
@[simp] theorem changeStation_free (a : Nat) (f : StationRec → StationRec) : (s.changeStation a f).free = s.free := rfl
@[simp] theorem changeStation_pending (a : Nat) (f : StationRec → StationRec) : (s.changeStation a f).pending = s.pending := rfl

/-! ## putClass -/

@[simp] theorem putClass_adm (c : Nat) (r : ClassRec) : (s.putClass c r).adm = s.adm := rfl
@[simp] theorem putClass_occ (c : Nat) (r : ClassRec) : (s.putClass c r).occ = s.occ := rfl
@[simp] theorem putClass_rel (c : Nat) (r : ClassRec) : (s.putClass c r).rel = s.rel := rfl
@[simp] theorem putClass_alm (c : Nat) (r : ClassRec) : (s.putClass c r).alm = s.alm := rfl
@[simp] theorem putClass_link (c : Nat) (r : ClassRec) : (s.putClass c r).link = s.link := rfl
@[simp] theorem putClass_host (c : Nat) (r : ClassRec) : (s.putClass c r).host = s.host := rfl
@[simp] theorem putClass_ret (c : Nat) (r : ClassRec) : (s.putClass c r).ret = s.ret := rfl
@[simp] theorem putClass_free (c : Nat) (r : ClassRec) : (s.putClass c r).free = s.free := rfl
@[simp] theorem putClass_pending (c : Nat) (r : ClassRec) : (s.putClass c r).pending = s.pending := rfl

/-! ## putAgent -/

@[simp] theorem putAgent_door (a : Nat) (r : AgentRec) : (s.putAgent a r).door = s.door := rfl
@[simp] theorem putAgent_adm (a : Nat) (r : AgentRec) : (s.putAgent a r).adm = s.adm := rfl
@[simp] theorem putAgent_occ (a : Nat) (r : AgentRec) : (s.putAgent a r).occ = s.occ := rfl
@[simp] theorem putAgent_alm (a : Nat) (r : AgentRec) : (s.putAgent a r).alm = s.alm := rfl
@[simp] theorem putAgent_link (a : Nat) (r : AgentRec) : (s.putAgent a r).link = s.link := rfl
@[simp] theorem putAgent_host (a : Nat) (r : AgentRec) : (s.putAgent a r).host = s.host := rfl
@[simp] theorem putAgent_ret (a : Nat) (r : AgentRec) : (s.putAgent a r).ret = s.ret := rfl
@[simp] theorem putAgent_free (a : Nat) (r : AgentRec) : (s.putAgent a r).free = s.free := rfl
@[simp] theorem putAgent_pending (a : Nat) (r : AgentRec) : (s.putAgent a r).pending = s.pending := rfl

/-! ## changeAgent -/

@[simp] theorem changeAgent_door (a : Nat) (f : AgentRec → AgentRec) : (s.changeAgent a f).door = s.door := rfl
@[simp] theorem changeAgent_adm (a : Nat) (f : AgentRec → AgentRec) : (s.changeAgent a f).adm = s.adm := rfl
@[simp] theorem changeAgent_occ (a : Nat) (f : AgentRec → AgentRec) : (s.changeAgent a f).occ = s.occ := rfl
@[simp] theorem changeAgent_alm (a : Nat) (f : AgentRec → AgentRec) : (s.changeAgent a f).alm = s.alm := rfl
@[simp] theorem changeAgent_link (a : Nat) (f : AgentRec → AgentRec) : (s.changeAgent a f).link = s.link := rfl
@[simp] theorem changeAgent_host (a : Nat) (f : AgentRec → AgentRec) : (s.changeAgent a f).host = s.host := rfl
@[simp] theorem changeAgent_ret (a : Nat) (f : AgentRec → AgentRec) : (s.changeAgent a f).ret = s.ret := rfl
@[simp] theorem changeAgent_free (a : Nat) (f : AgentRec → AgentRec) : (s.changeAgent a f).free = s.free := rfl
@[simp] theorem changeAgent_pending (a : Nat) (f : AgentRec → AgentRec) : (s.changeAgent a f).pending = s.pending := rfl

/-! ## putLogic -/

@[simp] theorem putLogic_door (a : Nat) (r : LogicRec) : (s.putLogic a r).door = s.door := rfl
@[simp] theorem putLogic_adm (a : Nat) (r : LogicRec) : (s.putLogic a r).adm = s.adm := rfl
@[simp] theorem putLogic_occ (a : Nat) (r : LogicRec) : (s.putLogic a r).occ = s.occ := rfl
@[simp] theorem putLogic_alm (a : Nat) (r : LogicRec) : (s.putLogic a r).alm = s.alm := rfl
@[simp] theorem putLogic_link (a : Nat) (r : LogicRec) : (s.putLogic a r).link = s.link := rfl
@[simp] theorem putLogic_host (a : Nat) (r : LogicRec) : (s.putLogic a r).host = s.host := rfl
@[simp] theorem putLogic_ret (a : Nat) (r : LogicRec) : (s.putLogic a r).ret = s.ret := rfl
@[simp] theorem putLogic_free (a : Nat) (r : LogicRec) : (s.putLogic a r).free = s.free := rfl
@[simp] theorem putLogic_pending (a : Nat) (r : LogicRec) : (s.putLogic a r).pending = s.pending := rfl

/-! ## raise -/

@[simp] theorem raise_door (k : Kind) (j : Subject) (z p : Option Nat) : (s.raise k j z p).door = s.door := rfl
@[simp] theorem raise_adm (k : Kind) (j : Subject) (z p : Option Nat) : (s.raise k j z p).adm = s.adm := rfl
@[simp] theorem raise_occ (k : Kind) (j : Subject) (z p : Option Nat) : (s.raise k j z p).occ = s.occ := rfl
@[simp] theorem raise_rel (k : Kind) (j : Subject) (z p : Option Nat) : (s.raise k j z p).rel = s.rel := rfl
@[simp] theorem raise_link (k : Kind) (j : Subject) (z p : Option Nat) : (s.raise k j z p).link = s.link := rfl
@[simp] theorem raise_host (k : Kind) (j : Subject) (z p : Option Nat) : (s.raise k j z p).host = s.host := rfl
@[simp] theorem raise_ret (k : Kind) (j : Subject) (z p : Option Nat) : (s.raise k j z p).ret = s.ret := rfl
@[simp] theorem raise_free (k : Kind) (j : Subject) (z p : Option Nat) : (s.raise k j z p).free = s.free := rfl
@[simp] theorem raise_pending (k : Kind) (j : Subject) (z p : Option Nat) : (s.raise k j z p).pending = s.pending := rfl

/-! ## endAlarm -/

@[simp] theorem endAlarm_door (k : Kind) (j : Subject) : (s.endAlarm k j).door = s.door := rfl
@[simp] theorem endAlarm_adm (k : Kind) (j : Subject) : (s.endAlarm k j).adm = s.adm := rfl
@[simp] theorem endAlarm_occ (k : Kind) (j : Subject) : (s.endAlarm k j).occ = s.occ := rfl
@[simp] theorem endAlarm_rel (k : Kind) (j : Subject) : (s.endAlarm k j).rel = s.rel := rfl
@[simp] theorem endAlarm_link (k : Kind) (j : Subject) : (s.endAlarm k j).link = s.link := rfl
@[simp] theorem endAlarm_host (k : Kind) (j : Subject) : (s.endAlarm k j).host = s.host := rfl
@[simp] theorem endAlarm_ret (k : Kind) (j : Subject) : (s.endAlarm k j).ret = s.ret := rfl
@[simp] theorem endAlarm_free (k : Kind) (j : Subject) : (s.endAlarm k j).free = s.free := rfl
@[simp] theorem endAlarm_pending (k : Kind) (j : Subject) : (s.endAlarm k j).pending = s.pending := rfl

/-! ## withdraw -/

@[simp] theorem withdraw_door (j : Subject) : (s.withdraw j).door = s.door := rfl
@[simp] theorem withdraw_adm (j : Subject) : (s.withdraw j).adm = s.adm := rfl
@[simp] theorem withdraw_occ (j : Subject) : (s.withdraw j).occ = s.occ := rfl
@[simp] theorem withdraw_rel (j : Subject) : (s.withdraw j).rel = s.rel := rfl
@[simp] theorem withdraw_link (j : Subject) : (s.withdraw j).link = s.link := rfl
@[simp] theorem withdraw_host (j : Subject) : (s.withdraw j).host = s.host := rfl
@[simp] theorem withdraw_ret (j : Subject) : (s.withdraw j).ret = s.ret := rfl
@[simp] theorem withdraw_free (j : Subject) : (s.withdraw j).free = s.free := rfl
@[simp] theorem withdraw_pending (j : Subject) : (s.withdraw j).pending = s.pending := rfl

/-! ## endSuspect -/

@[simp] theorem endSuspect_door (t : Tbl) (n : Nat) : (s.endSuspect t n).door = s.door := rfl
@[simp] theorem endSuspect_adm (t : Tbl) (n : Nat) : (s.endSuspect t n).adm = s.adm := rfl
@[simp] theorem endSuspect_occ (t : Tbl) (n : Nat) : (s.endSuspect t n).occ = s.occ := rfl
@[simp] theorem endSuspect_rel (t : Tbl) (n : Nat) : (s.endSuspect t n).rel = s.rel := rfl
@[simp] theorem endSuspect_link (t : Tbl) (n : Nat) : (s.endSuspect t n).link = s.link := rfl
@[simp] theorem endSuspect_host (t : Tbl) (n : Nat) : (s.endSuspect t n).host = s.host := rfl
@[simp] theorem endSuspect_ret (t : Tbl) (n : Nat) : (s.endSuspect t n).ret = s.ret := rfl
@[simp] theorem endSuspect_free (t : Tbl) (n : Nat) : (s.endSuspect t n).free = s.free := rfl
@[simp] theorem endSuspect_pending (t : Tbl) (n : Nat) : (s.endSuspect t n).pending = s.pending := rfl

/-! ## raiseSuspect -/

@[simp] theorem raiseSuspect_door (t : Tbl) (n : Nat) : (s.raiseSuspect t n).door = s.door := rfl
@[simp] theorem raiseSuspect_adm (t : Tbl) (n : Nat) : (s.raiseSuspect t n).adm = s.adm := rfl
@[simp] theorem raiseSuspect_occ (t : Tbl) (n : Nat) : (s.raiseSuspect t n).occ = s.occ := rfl
@[simp] theorem raiseSuspect_rel (t : Tbl) (n : Nat) : (s.raiseSuspect t n).rel = s.rel := rfl
@[simp] theorem raiseSuspect_link (t : Tbl) (n : Nat) : (s.raiseSuspect t n).link = s.link := rfl
@[simp] theorem raiseSuspect_host (t : Tbl) (n : Nat) : (s.raiseSuspect t n).host = s.host := rfl
@[simp] theorem raiseSuspect_ret (t : Tbl) (n : Nat) : (s.raiseSuspect t n).ret = s.ret := rfl
@[simp] theorem raiseSuspect_free (t : Tbl) (n : Nat) : (s.raiseSuspect t n).free = s.free := rfl
@[simp] theorem raiseSuspect_pending (t : Tbl) (n : Nat) : (s.raiseSuspect t n).pending = s.pending := rfl

/-! ## raiseAgent -/

@[simp] theorem raiseAgent_door (a : Nat) (k : Kind) : (s.raiseAgent a k).door = s.door := rfl
@[simp] theorem raiseAgent_adm (a : Nat) (k : Kind) : (s.raiseAgent a k).adm = s.adm := rfl
@[simp] theorem raiseAgent_occ (a : Nat) (k : Kind) : (s.raiseAgent a k).occ = s.occ := rfl
@[simp] theorem raiseAgent_rel (a : Nat) (k : Kind) : (s.raiseAgent a k).rel = s.rel := rfl
@[simp] theorem raiseAgent_link (a : Nat) (k : Kind) : (s.raiseAgent a k).link = s.link := rfl
@[simp] theorem raiseAgent_host (a : Nat) (k : Kind) : (s.raiseAgent a k).host = s.host := rfl
@[simp] theorem raiseAgent_ret (a : Nat) (k : Kind) : (s.raiseAgent a k).ret = s.ret := rfl
@[simp] theorem raiseAgent_free (a : Nat) (k : Kind) : (s.raiseAgent a k).free = s.free := rfl
@[simp] theorem raiseAgent_pending (a : Nat) (k : Kind) : (s.raiseAgent a k).pending = s.pending := rfl

/-! ## decided -/

@[simp] theorem decided_adm (d : Nat) (x : Decision) : (s.decided d x).adm = s.adm := rfl
@[simp] theorem decided_occ (d : Nat) (x : Decision) : (s.decided d x).occ = s.occ := rfl
@[simp] theorem decided_rel (d : Nat) (x : Decision) : (s.decided d x).rel = s.rel := rfl
@[simp] theorem decided_alm (d : Nat) (x : Decision) : (s.decided d x).alm = s.alm := rfl
@[simp] theorem decided_link (d : Nat) (x : Decision) : (s.decided d x).link = s.link := rfl
@[simp] theorem decided_host (d : Nat) (x : Decision) : (s.decided d x).host = s.host := rfl
@[simp] theorem decided_ret (d : Nat) (x : Decision) : (s.decided d x).ret = s.ret := rfl
@[simp] theorem decided_free (d : Nat) (x : Decision) : (s.decided d x).free = s.free := rfl
@[simp] theorem decided_pending (d : Nat) (x : Decision) : (s.decided d x).pending = s.pending := rfl

/-! ## refuse -/

@[simp] theorem refuse_adm (d : Nat) (c : RefusalCode) (p g : Option Nat) : (s.refuse d c p g).adm = s.adm := rfl
@[simp] theorem refuse_occ (d : Nat) (c : RefusalCode) (p g : Option Nat) : (s.refuse d c p g).occ = s.occ := rfl
@[simp] theorem refuse_rel (d : Nat) (c : RefusalCode) (p g : Option Nat) : (s.refuse d c p g).rel = s.rel := rfl
@[simp] theorem refuse_alm (d : Nat) (c : RefusalCode) (p g : Option Nat) : (s.refuse d c p g).alm = s.alm := rfl
@[simp] theorem refuse_link (d : Nat) (c : RefusalCode) (p g : Option Nat) : (s.refuse d c p g).link = s.link := rfl
@[simp] theorem refuse_host (d : Nat) (c : RefusalCode) (p g : Option Nat) : (s.refuse d c p g).host = s.host := rfl
@[simp] theorem refuse_ret (d : Nat) (c : RefusalCode) (p g : Option Nat) : (s.refuse d c p g).ret = s.ret := rfl
@[simp] theorem refuse_free (d : Nat) (c : RefusalCode) (p g : Option Nat) : (s.refuse d c p g).free = s.free := rfl
@[simp] theorem refuse_pending (d : Nat) (c : RefusalCode) (p g : Option Nat) : (s.refuse d c p g).pending = s.pending := rfl

/-! ## freezeReached -/

@[simp] theorem freezeReached_door : (s.freezeReached).door = s.door := rfl
@[simp] theorem freezeReached_adm : (s.freezeReached).adm = s.adm := rfl
@[simp] theorem freezeReached_rel : (s.freezeReached).rel = s.rel := rfl
@[simp] theorem freezeReached_alm : (s.freezeReached).alm = s.alm := rfl
@[simp] theorem freezeReached_link : (s.freezeReached).link = s.link := rfl
@[simp] theorem freezeReached_host : (s.freezeReached).host = s.host := rfl
@[simp] theorem freezeReached_ret : (s.freezeReached).ret = s.ret := rfl
@[simp] theorem freezeReached_free : (s.freezeReached).free = s.free := rfl
@[simp] theorem freezeReached_pending : (s.freezeReached).pending = s.pending := rfl

/-! ## syncStations -/

@[simp] theorem syncStations_door : (s.syncStations).door = s.door := rfl
@[simp] theorem syncStations_adm : (s.syncStations).adm = s.adm := rfl
@[simp] theorem syncStations_occ : (s.syncStations).occ = s.occ := rfl
@[simp] theorem syncStations_rel : (s.syncStations).rel = s.rel := rfl
@[simp] theorem syncStations_alm : (s.syncStations).alm = s.alm := rfl
@[simp] theorem syncStations_host : (s.syncStations).host = s.host := rfl
@[simp] theorem syncStations_ret : (s.syncStations).ret = s.ret := rfl
@[simp] theorem syncStations_free : (s.syncStations).free = s.free := rfl
@[simp] theorem syncStations_pending : (s.syncStations).pending = s.pending := rfl

/-! ## refreshLanes -/

@[simp] theorem refreshLanes_door : (s.refreshLanes).door = s.door := rfl
@[simp] theorem refreshLanes_adm : (s.refreshLanes).adm = s.adm := rfl
@[simp] theorem refreshLanes_occ : (s.refreshLanes).occ = s.occ := rfl
@[simp] theorem refreshLanes_rel : (s.refreshLanes).rel = s.rel := rfl
@[simp] theorem refreshLanes_alm : (s.refreshLanes).alm = s.alm := rfl
@[simp] theorem refreshLanes_host : (s.refreshLanes).host = s.host := rfl
@[simp] theorem refreshLanes_ret : (s.refreshLanes).ret = s.ret := rfl
@[simp] theorem refreshLanes_free : (s.refreshLanes).free = s.free := rfl
@[simp] theorem refreshLanes_pending : (s.refreshLanes).pending = s.pending := rfl

/-! ## respond -/

@[simp] theorem respond_door (t : Byte) (a : Answer) : (s.respond t a).door = s.door := rfl
@[simp] theorem respond_adm (t : Byte) (a : Answer) : (s.respond t a).adm = s.adm := rfl
@[simp] theorem respond_occ (t : Byte) (a : Answer) : (s.respond t a).occ = s.occ := rfl
@[simp] theorem respond_rel (t : Byte) (a : Answer) : (s.respond t a).rel = s.rel := rfl
@[simp] theorem respond_alm (t : Byte) (a : Answer) : (s.respond t a).alm = s.alm := rfl
@[simp] theorem respond_link (t : Byte) (a : Answer) : (s.respond t a).link = s.link := rfl
@[simp] theorem respond_ret (t : Byte) (a : Answer) : (s.respond t a).ret = s.ret := rfl
@[simp] theorem respond_free (t : Byte) (a : Answer) : (s.respond t a).free = s.free := rfl
@[simp] theorem respond_pending (t : Byte) (a : Answer) : (s.respond t a).pending = s.pending := rfl

/-! ## discardWrite -/

@[simp] theorem discardWrite_door : (s.discardWrite).door = s.door := rfl
@[simp] theorem discardWrite_adm : (s.discardWrite).adm = s.adm := rfl
@[simp] theorem discardWrite_occ : (s.discardWrite).occ = s.occ := rfl
@[simp] theorem discardWrite_rel : (s.discardWrite).rel = s.rel := rfl
@[simp] theorem discardWrite_alm : (s.discardWrite).alm = s.alm := rfl
@[simp] theorem discardWrite_link : (s.discardWrite).link = s.link := rfl
@[simp] theorem discardWrite_ret : (s.discardWrite).ret = s.ret := rfl
@[simp] theorem discardWrite_free : (s.discardWrite).free = s.free := rfl
@[simp] theorem discardWrite_pending : (s.discardWrite).pending = s.pending := rfl

/-! ## setPartner -/

@[simp] theorem setPartner_adm (d : Nat) (o : Option Nat) : (s.setPartner d o).adm = s.adm := rfl
@[simp] theorem setPartner_occ (d : Nat) (o : Option Nat) : (s.setPartner d o).occ = s.occ := rfl
@[simp] theorem setPartner_rel (d : Nat) (o : Option Nat) : (s.setPartner d o).rel = s.rel := rfl
@[simp] theorem setPartner_alm (d : Nat) (o : Option Nat) : (s.setPartner d o).alm = s.alm := rfl
@[simp] theorem setPartner_link (d : Nat) (o : Option Nat) : (s.setPartner d o).link = s.link := rfl
@[simp] theorem setPartner_host (d : Nat) (o : Option Nat) : (s.setPartner d o).host = s.host := rfl
@[simp] theorem setPartner_ret (d : Nat) (o : Option Nat) : (s.setPartner d o).ret = s.ret := rfl
@[simp] theorem setPartner_free (d : Nat) (o : Option Nat) : (s.setPartner d o).free = s.free := rfl
@[simp] theorem setPartner_pending (d : Nat) (o : Option Nat) : (s.setPartner d o).pending = s.pending := rfl

/-! ## takeCycle -/

@[simp] theorem takeCycle_adm (d : Nat) : (s.takeCycle d).adm = s.adm := rfl
@[simp] theorem takeCycle_occ (d : Nat) : (s.takeCycle d).occ = s.occ := rfl
@[simp] theorem takeCycle_rel (d : Nat) : (s.takeCycle d).rel = s.rel := rfl
@[simp] theorem takeCycle_alm (d : Nat) : (s.takeCycle d).alm = s.alm := rfl
@[simp] theorem takeCycle_link (d : Nat) : (s.takeCycle d).link = s.link := rfl
@[simp] theorem takeCycle_host (d : Nat) : (s.takeCycle d).host = s.host := rfl
@[simp] theorem takeCycle_ret (d : Nat) : (s.takeCycle d).ret = s.ret := rfl
@[simp] theorem takeCycle_free (d : Nat) : (s.takeCycle d).free = s.free := rfl
@[simp] theorem takeCycle_pending (d : Nat) : (s.takeCycle d).pending = s.pending := rfl

/-! ## strikeEcho -/

@[simp] theorem strikeEcho_adm (d : Nat) : (s.strikeEcho d).adm = s.adm := rfl
@[simp] theorem strikeEcho_occ (d : Nat) : (s.strikeEcho d).occ = s.occ := rfl
@[simp] theorem strikeEcho_rel (d : Nat) : (s.strikeEcho d).rel = s.rel := rfl
@[simp] theorem strikeEcho_alm (d : Nat) : (s.strikeEcho d).alm = s.alm := rfl
@[simp] theorem strikeEcho_link (d : Nat) : (s.strikeEcho d).link = s.link := rfl
@[simp] theorem strikeEcho_host (d : Nat) : (s.strikeEcho d).host = s.host := rfl
@[simp] theorem strikeEcho_ret (d : Nat) : (s.strikeEcho d).ret = s.ret := rfl
@[simp] theorem strikeEcho_free (d : Nat) : (s.strikeEcho d).free = s.free := rfl
@[simp] theorem strikeEcho_pending (d : Nat) : (s.strikeEcho d).pending = s.pending := rfl

/-! ## beginServing -/

@[simp] theorem beginServing_door (a : Nat) : (s.beginServing a).door = s.door := rfl
@[simp] theorem beginServing_adm (a : Nat) : (s.beginServing a).adm = s.adm := rfl
@[simp] theorem beginServing_occ (a : Nat) : (s.beginServing a).occ = s.occ := rfl
@[simp] theorem beginServing_rel (a : Nat) : (s.beginServing a).rel = s.rel := rfl
@[simp] theorem beginServing_alm (a : Nat) : (s.beginServing a).alm = s.alm := rfl
@[simp] theorem beginServing_host (a : Nat) : (s.beginServing a).host = s.host := rfl
@[simp] theorem beginServing_ret (a : Nat) : (s.beginServing a).ret = s.ret := rfl
@[simp] theorem beginServing_free (a : Nat) : (s.beginServing a).free = s.free := rfl
@[simp] theorem beginServing_pending (a : Nat) : (s.beginServing a).pending = s.pending := rfl

/-! ## evaluate -/

@[simp] theorem evaluate_door (a : Nat) : (s.evaluate a).door = s.door := rfl
@[simp] theorem evaluate_adm (a : Nat) : (s.evaluate a).adm = s.adm := rfl
@[simp] theorem evaluate_occ (a : Nat) : (s.evaluate a).occ = s.occ := rfl
@[simp] theorem evaluate_alm (a : Nat) : (s.evaluate a).alm = s.alm := rfl
@[simp] theorem evaluate_link (a : Nat) : (s.evaluate a).link = s.link := rfl
@[simp] theorem evaluate_host (a : Nat) : (s.evaluate a).host = s.host := rfl
@[simp] theorem evaluate_ret (a : Nat) : (s.evaluate a).ret = s.ret := rfl
@[simp] theorem evaluate_free (a : Nat) : (s.evaluate a).free = s.free := rfl
@[simp] theorem evaluate_pending (a : Nat) : (s.evaluate a).pending = s.pending := rfl

/-! ## What the two blocks with two tables keep -/

@[simp] theorem putZone_recs (z : Nat) (r : ZoneRec) : (s.putZone z r).occ.recs = s.occ.recs := rfl
@[simp] theorem changeZone_recs (z : Nat) (f : ZoneRec → ZoneRec) : (s.changeZone z f).occ.recs = s.occ.recs := rfl
@[simp] theorem putOcc_zones (i : Nat) (r : OccRec) : (s.putOcc i r).occ.zones = s.occ.zones := rfl
@[simp] theorem delOcc_zones (i : Nat) : (s.delOcc i).occ.zones = s.occ.zones := rfl
@[simp] theorem changeOcc_zones (i : Nat) (f : OccRec → OccRec) : (s.changeOcc i f).occ.zones = s.occ.zones := rfl
@[simp] theorem freezeReached_recs : (s.freezeReached).occ.recs = s.occ.recs := rfl
@[simp] theorem putPerson_grants (p : Nat) (r : PersonRec) : (s.putPerson p r).adm.grants = s.adm.grants := rfl
@[simp] theorem putPerson_waits (p : Nat) (r : PersonRec) : (s.putPerson p r).adm.waits = s.adm.waits := rfl
@[simp] theorem putGrant_persons (p : Nat) (r : GrantRec) : (s.putGrant p r).adm.persons = s.adm.persons := rfl
@[simp] theorem putGrant_waits (p : Nat) (r : GrantRec) : (s.putGrant p r).adm.waits = s.adm.waits := rfl
@[simp] theorem putDoor_classes (d : Nat) (r : DoorRec) : (s.putDoor d r).door.classes = s.door.classes := rfl
@[simp] theorem changeDoor_classes (d : Nat) (f : DoorRec → DoorRec) : (s.changeDoor d f).door.classes = s.door.classes := rfl
@[simp] theorem putAgent_logic (a : Nat) (r : AgentRec) : (s.putAgent a r).rel.logic = s.rel.logic := rfl

/-! ## Reading after writing -/

@[simp] theorem door?_putDoor (d e : Nat) (r : DoorRec) :
    (s.putDoor d r).door? e = if e = d then some r else s.door? e := Table.find_put _ _ _ _
@[simp] theorem door?_changeDoor (d e : Nat) (f : DoorRec → DoorRec) :
    (s.changeDoor d f).door? e = if e = d then (s.door? e).map f else s.door? e := Table.find_change _ _ _ _
@[simp] theorem zone?_putZone (z y : Nat) (r : ZoneRec) :
    (s.putZone z r).zone? y = if y = z then some r else s.zone? y := Table.find_put _ _ _ _
@[simp] theorem zone?_changeZone (z y : Nat) (f : ZoneRec → ZoneRec) :
    (s.changeZone z f).zone? y = if y = z then (s.zone? y).map f else s.zone? y := Table.find_change _ _ _ _
@[simp] theorem occ?_putOcc (i j : Nat) (r : OccRec) :
    (s.putOcc i r).occ? j = if j = i then some r else s.occ? j := Table.find_put _ _ _ _
@[simp] theorem occ?_delOcc (i j : Nat) :
    (s.delOcc i).occ? j = if j = i then none else s.occ? j := Table.find_del _ _ _
@[simp] theorem occ?_changeOcc (i j : Nat) (f : OccRec → OccRec) :
    (s.changeOcc i f).occ? j = if j = i then (s.occ? j).map f else s.occ? j := Table.find_change _ _ _ _
@[simp] theorem person?_putPerson (p q : Nat) (r : PersonRec) :
    (s.putPerson p r).person? q = if q = p then some r else s.person? q := Table.find_put _ _ _ _
@[simp] theorem grant?_putGrant (g h : Nat) (r : GrantRec) :
    (s.putGrant g r).grant? h = if h = g then some r else s.grant? h := Table.find_put _ _ _ _
@[simp] theorem station?_putStation (a b : Nat) (r : StationRec) :
    (s.putStation a r).station? b = if b = a then some r else s.station? b := Table.find_put _ _ _ _
@[simp] theorem station?_changeStation (a b : Nat) (f : StationRec → StationRec) :
    (s.changeStation a f).station? b = if b = a then (s.station? b).map f else s.station? b := Table.find_change _ _ _ _

theorem agent_putAgent (a b : Nat) (r : AgentRec) :
    (s.putAgent a r).agent b = if b = a ∧ a < 8 then r else s.agent b := by
  unfold agent putAgent
  simp only [setRel_rel, Vector.getElem?_setIfInBounds]
  by_cases h : a = b
  · subst h
    by_cases h8 : a < 8 <;> simp [h8]
  · have : ¬ b = a := fun e => h e.symm
    simp [h, this]

theorem logicRec_putLogic (a b : Nat) (r : LogicRec) :
    (s.putLogic a r).logicRec b = if b = a ∧ a < 8 then r else s.logicRec b := by
  unfold logicRec putLogic
  simp only [setRel_rel, Vector.getElem?_setIfInBounds]
  by_cases h : a = b
  · subst h
    by_cases h8 : a < 8 <;> simp [h8]
  · have : ¬ b = a := fun e => h e.symm
    simp [h, this]

theorem classRec_putClass (a b : Nat) (r : ClassRec) :
    (s.putClass a r).classRec b = if b = a ∧ a < 8 then r else s.classRec b := by
  unfold classRec putClass
  simp only [setDoor_door, Vector.getElem?_setIfInBounds]
  by_cases h : a = b
  · subst h
    by_cases h8 : a < 8 <;> simp [h8]
  · have : ¬ b = a := fun e => h e.symm
    simp [h, this]

/-- A number above 7 names no agent, and reads as an UNCONFIGURED one. -/
theorem agent_above {a : Nat} (h : 8 ≤ a) : s.agent a = { cfg := {} } := by
  unfold agent
  rw [Vector.getElem?_eq_none (by omega)]
  rfl

/-! ## Tests of records, and searches that make them, change the Admission and Alarm Units only (R181) -/

@[simp] theorem testPerson_door (p : Nat) : (s.testPerson p).door = s.door := by
  unfold testPerson; (repeat' split) <;> rfl
@[simp] theorem testGrant_door (g : Nat) : (s.testGrant g).door = s.door := by
  unfold testGrant; (repeat' split) <;> rfl
@[simp] theorem testPersons_door (ps : List Nat) : (s.testPersons ps).door = s.door := by
  unfold testPersons
  induction ps generalizing s with
  | nil => rfl
  | cons p ps ih => simp [ih]
@[simp] theorem resolve_door (c : Nat) : (s.resolve c).1.door = s.door := testPersons_door s _
theorem searchGrants_door (p z : Nat) (l : List Nat) : (s.searchGrants p z l).1.door = s.door := by
  induction l generalizing s with
  | nil => rfl
  | cons n l ih =>
    simp only [searchGrants]
    (repeat' split) <;> simp [ih]
@[simp] theorem grantSearch_door (p z : Nat) : (s.grantSearch p z).1.door = s.door := searchGrants_door s _ _ _

@[simp] theorem testPerson_occ (p : Nat) : (s.testPerson p).occ = s.occ := by
  unfold testPerson; (repeat' split) <;> rfl
@[simp] theorem testGrant_occ (g : Nat) : (s.testGrant g).occ = s.occ := by
  unfold testGrant; (repeat' split) <;> rfl
@[simp] theorem testPersons_occ (ps : List Nat) : (s.testPersons ps).occ = s.occ := by
  unfold testPersons
  induction ps generalizing s with
  | nil => rfl
  | cons p ps ih => simp [ih]
@[simp] theorem resolve_occ (c : Nat) : (s.resolve c).1.occ = s.occ := testPersons_occ s _
theorem searchGrants_occ (p z : Nat) (l : List Nat) : (s.searchGrants p z l).1.occ = s.occ := by
  induction l generalizing s with
  | nil => rfl
  | cons n l ih =>
    simp only [searchGrants]
    (repeat' split) <;> simp [ih]
@[simp] theorem grantSearch_occ (p z : Nat) : (s.grantSearch p z).1.occ = s.occ := searchGrants_occ s _ _ _

@[simp] theorem testPerson_rel (p : Nat) : (s.testPerson p).rel = s.rel := by
  unfold testPerson; (repeat' split) <;> rfl
@[simp] theorem testGrant_rel (g : Nat) : (s.testGrant g).rel = s.rel := by
  unfold testGrant; (repeat' split) <;> rfl
@[simp] theorem testPersons_rel (ps : List Nat) : (s.testPersons ps).rel = s.rel := by
  unfold testPersons
  induction ps generalizing s with
  | nil => rfl
  | cons p ps ih => simp [ih]
@[simp] theorem resolve_rel (c : Nat) : (s.resolve c).1.rel = s.rel := testPersons_rel s _
theorem searchGrants_rel (p z : Nat) (l : List Nat) : (s.searchGrants p z l).1.rel = s.rel := by
  induction l generalizing s with
  | nil => rfl
  | cons n l ih =>
    simp only [searchGrants]
    (repeat' split) <;> simp [ih]
@[simp] theorem grantSearch_rel (p z : Nat) : (s.grantSearch p z).1.rel = s.rel := searchGrants_rel s _ _ _

@[simp] theorem testPerson_link (p : Nat) : (s.testPerson p).link = s.link := by
  unfold testPerson; (repeat' split) <;> rfl
@[simp] theorem testGrant_link (g : Nat) : (s.testGrant g).link = s.link := by
  unfold testGrant; (repeat' split) <;> rfl
@[simp] theorem testPersons_link (ps : List Nat) : (s.testPersons ps).link = s.link := by
  unfold testPersons
  induction ps generalizing s with
  | nil => rfl
  | cons p ps ih => simp [ih]
@[simp] theorem resolve_link (c : Nat) : (s.resolve c).1.link = s.link := testPersons_link s _
theorem searchGrants_link (p z : Nat) (l : List Nat) : (s.searchGrants p z l).1.link = s.link := by
  induction l generalizing s with
  | nil => rfl
  | cons n l ih =>
    simp only [searchGrants]
    (repeat' split) <;> simp [ih]
@[simp] theorem grantSearch_link (p z : Nat) : (s.grantSearch p z).1.link = s.link := searchGrants_link s _ _ _

@[simp] theorem testPerson_host (p : Nat) : (s.testPerson p).host = s.host := by
  unfold testPerson; (repeat' split) <;> rfl
@[simp] theorem testGrant_host (g : Nat) : (s.testGrant g).host = s.host := by
  unfold testGrant; (repeat' split) <;> rfl
@[simp] theorem testPersons_host (ps : List Nat) : (s.testPersons ps).host = s.host := by
  unfold testPersons
  induction ps generalizing s with
  | nil => rfl
  | cons p ps ih => simp [ih]
@[simp] theorem resolve_host (c : Nat) : (s.resolve c).1.host = s.host := testPersons_host s _
theorem searchGrants_host (p z : Nat) (l : List Nat) : (s.searchGrants p z l).1.host = s.host := by
  induction l generalizing s with
  | nil => rfl
  | cons n l ih =>
    simp only [searchGrants]
    (repeat' split) <;> simp [ih]
@[simp] theorem grantSearch_host (p z : Nat) : (s.grantSearch p z).1.host = s.host := searchGrants_host s _ _ _

@[simp] theorem testPerson_ret (p : Nat) : (s.testPerson p).ret = s.ret := by
  unfold testPerson; (repeat' split) <;> rfl
@[simp] theorem testGrant_ret (g : Nat) : (s.testGrant g).ret = s.ret := by
  unfold testGrant; (repeat' split) <;> rfl
@[simp] theorem testPersons_ret (ps : List Nat) : (s.testPersons ps).ret = s.ret := by
  unfold testPersons
  induction ps generalizing s with
  | nil => rfl
  | cons p ps ih => simp [ih]
@[simp] theorem resolve_ret (c : Nat) : (s.resolve c).1.ret = s.ret := testPersons_ret s _
theorem searchGrants_ret (p z : Nat) (l : List Nat) : (s.searchGrants p z l).1.ret = s.ret := by
  induction l generalizing s with
  | nil => rfl
  | cons n l ih =>
    simp only [searchGrants]
    (repeat' split) <;> simp [ih]
@[simp] theorem grantSearch_ret (p z : Nat) : (s.grantSearch p z).1.ret = s.ret := searchGrants_ret s _ _ _

@[simp] theorem testPerson_free (p : Nat) : (s.testPerson p).free = s.free := by
  unfold testPerson; (repeat' split) <;> rfl
@[simp] theorem testGrant_free (g : Nat) : (s.testGrant g).free = s.free := by
  unfold testGrant; (repeat' split) <;> rfl
@[simp] theorem testPersons_free (ps : List Nat) : (s.testPersons ps).free = s.free := by
  unfold testPersons
  induction ps generalizing s with
  | nil => rfl
  | cons p ps ih => simp [ih]
@[simp] theorem resolve_free (c : Nat) : (s.resolve c).1.free = s.free := testPersons_free s _
theorem searchGrants_free (p z : Nat) (l : List Nat) : (s.searchGrants p z l).1.free = s.free := by
  induction l generalizing s with
  | nil => rfl
  | cons n l ih =>
    simp only [searchGrants]
    (repeat' split) <;> simp [ih]
@[simp] theorem grantSearch_free (p z : Nat) : (s.grantSearch p z).1.free = s.free := searchGrants_free s _ _ _

@[simp] theorem testPerson_pending (p : Nat) : (s.testPerson p).pending = s.pending := by
  unfold testPerson; (repeat' split) <;> rfl
@[simp] theorem testGrant_pending (g : Nat) : (s.testGrant g).pending = s.pending := by
  unfold testGrant; (repeat' split) <;> rfl
@[simp] theorem testPersons_pending (ps : List Nat) : (s.testPersons ps).pending = s.pending := by
  unfold testPersons
  induction ps generalizing s with
  | nil => rfl
  | cons p ps ih => simp [ih]
@[simp] theorem resolve_pending (c : Nat) : (s.resolve c).1.pending = s.pending := testPersons_pending s _
theorem searchGrants_pending (p z : Nat) (l : List Nat) : (s.searchGrants p z l).1.pending = s.pending := by
  induction l generalizing s with
  | nil => rfl
  | cons n l ih =>
    simp only [searchGrants]
    (repeat' split) <;> simp [ih]
@[simp] theorem grantSearch_pending (p z : Nat) : (s.grantSearch p z).1.pending = s.pending := searchGrants_pending s _ _ _

end Sys2Proof.Machine.State
end

