-- ==== Sys2Proof/Laws/Steady.lean ====
section
/-! SUPPORT. The relation that every operation inside the part stands in: it leaves the clock, the Host Port and the
queue alone, keeps every table in canonical form, and makes no second sound record of a person (R83) and no second open
alarm of a kind and subject (R138). This file has the relation and the primitive edits. -/

namespace Sys2Proof.Machine

/-- No person is named by two sound occupancy records of a table (R83). -/
def OneRecord (t : Table OccRec) : Prop :=
  ∀ i j x y, (i, x) ∈ t → (j, y) ∈ t → x.sound = true → y.sound = true → x.person = y.person → i = j

/-- A table of occupancy records in canonical form, with one sound record for each person. -/
structure RecsGood (t : Table OccRec) : Prop where
  rising : t.wf = true
  one    : OneRecord t

namespace RecsGood

/-- Writing a slot whose person no other sound record names. -/
theorem put {t : Table OccRec} {n : Nat} {w : OccRec} (h : RecsGood t)
    (hn : w.sound = true → ∀ j y, (j, y) ∈ t → j ≠ n → y.sound = true → y.person ≠ w.person) :
    RecsGood (t.put n w) := by
  refine ⟨Table.wf_put _ _ h.rising, ?_⟩
  intro i j x y hi hj sx sy hxy
  rcases AlarmsGood.mem_put_wf h.rising hi with ⟨rfl, rfl⟩ | ⟨ni, hi'⟩ <;>
    rcases AlarmsGood.mem_put_wf h.rising hj with ⟨rfl, rfl⟩ | ⟨nj, hj'⟩
  · rfl
  · exact absurd hxy.symm (hn sx _ _ hj' nj sy)
  · exact absurd hxy (hn sy _ _ hi' ni sx)
  · exact h.one _ _ _ _ hi' hj' sx sy hxy

/-- Writing a record of the person that the slot has. -/
theorem put_same {t : Table OccRec} {n : Nat} {r w : OccRec} (h : RecsGood t) (hr : t.find n = some r)
    (hp : w.person = r.person) (hs : w.sound = true → r.sound = true) : RecsGood (t.put n w) := by
  refine h.put ?_
  intro sw j y hj jn sy hy
  exact jn (h.one _ _ _ _ hj (Table.mem_of_find hr) sy (hs sw) (hy.trans hp))

theorem filter {t : Table OccRec} (p : Nat × OccRec → Bool) (h : RecsGood t) : RecsGood (t.filter p) := by
  refine ⟨Table.wf_filter _ h.rising, ?_⟩
  intro i j x y hi hj
  exact h.one _ _ _ _ (List.mem_filter.1 hi).1 (List.mem_filter.1 hj).1

theorem map {t : Table OccRec} (f : Nat × OccRec → Nat × OccRec) (hk : ∀ p, (f p).1 = p.1)
    (hp : ∀ p, (f p).2.sound = true → (f p).2.person = p.2.person) (hs : ∀ p, (f p).2.sound = true → p.2.sound = true)
    (h : RecsGood t) :
    RecsGood (t.map f) := by
  refine ⟨Table.wf_map f hk h.rising, ?_⟩
  intro i j x y hi hj sx sy hxy
  obtain ⟨p, hi', e⟩ := List.mem_map.1 hi
  obtain ⟨q, hj', e'⟩ := List.mem_map.1 hj
  have e1 : (f p).1 = i := by rw [e]
  have e2 : (f q).1 = j := by rw [e']
  have e3 : (f p).2 = x := by rw [e]
  have e4 : (f q).2 = y := by rw [e']
  rw [← e3] at sx
  rw [← e4] at sy
  rw [← e3, ← e4, hp _ sx, hp _ sy] at hxy
  have := h.one p.1 q.1 p.2 q.2 hi' hj' (hs _ sx) (hs _ sy) hxy
  rw [← e1, ← e2, hk, hk, this]

end RecsGood

/-- Of two zone tables, every verified zone of the second but zone `e` is a verified zone of the first (R91). -/
def VerifiedFrom (e : Option Nat) (t u : Table ZoneRec) : Prop :=
  ∀ z q, e ≠ some z → u.find z = some q → q.verified = true → ∃ r, t.find z = some r ∧ r.verified = true

namespace VerifiedFrom

theorem refl {e : Option Nat} (t : Table ZoneRec) : VerifiedFrom e t t := fun _ q _ h hv => ⟨q, h, hv⟩

theorem trans {e : Option Nat} {t u v : Table ZoneRec} (h : VerifiedFrom e t u) (k : VerifiedFrom e u v) :
    VerifiedFrom e t v := by
  intro z q hz hq hv
  obtain ⟨r, hr, hv'⟩ := k z q hz hq hv
  exact h z r hz hr hv'

/-- A zone stored with a verified flag that it had, or FALSE. -/
theorem put {e : Option Nat} {t : Table ZoneRec} {z : Nat} {r : ZoneRec}
    (h : r.verified = true → ∃ q, t.find z = some q ∧ q.verified = true) : VerifiedFrom e t (t.put z r) := by
  intro y q _ hq hv
  rw [Table.find_put] at hq
  split at hq
  · rename_i hy; cases hq; subst hy; exact h hv
  · exact ⟨q, hq, hv⟩

/-- A change of one zone that sets no flag, or that of the excepted zone. -/
theorem change {e : Option Nat} (t : Table ZoneRec) (z : Nat) {f : ZoneRec → ZoneRec}
    (h : e = some z ∨ ∀ r, (f r).verified = true → r.verified = true) : VerifiedFrom e t (t.change z f) := by
  intro y q hy hq hv
  rw [Table.find_change] at hq
  split at hq
  · rename_i hyz
    subst hyz
    obtain ⟨r, hr, rfl⟩ := Option.map_eq_some_iff.1 hq
    rcases h with h | h
    · exact absurd h hy
    · exact ⟨r, hr, h r hv⟩
  · exact ⟨q, hq, hv⟩

/-- A change of every zone that sets no flag. -/
theorem map {e : Option Nat} (t : Table ZoneRec) {f : Nat → ZoneRec → ZoneRec}
    (h : ∀ k r, (f k r).verified = true → r.verified = true) :
    VerifiedFrom e t (t.map (fun p => (p.1, f p.1 p.2))) := by
  intro y q _ hq hv
  rw [Table.find_map] at hq
  obtain ⟨r, hr, rfl⟩ := Option.map_eq_some_iff.1 hq
  exact ⟨r, hr, h _ r hv⟩

theorem del {e : Option Nat} (t : Table ZoneRec) (z : Nat) : VerifiedFrom e t (t.del z) := by
  intro y q _ hq hv
  rw [Table.find_del] at hq
  split at hq
  · cases hq
  · exact ⟨q, hq, hv⟩

end VerifiedFrom

/-- What every operation inside the part does: the clock, the Host Port, the counter of free values and the queue stay,
the tables keep their
form, and no zone but `e` becomes verified. -/
structure Steady (e : Option Nat) (s t : State) : Prop where
  ret      : t.ret = s.ret
  host     : t.host = s.host
  free     : t.free = s.free
  pending  : t.pending = s.pending
  doors    : s.door.doors.wf = true → t.door.doors.wf = true
  persons  : s.adm.persons.wf = true → t.adm.persons.wf = true
  grants   : s.adm.grants.wf = true → t.adm.grants.wf = true
  zones    : s.occ.zones.wf = true → t.occ.zones.wf = true
  stations : s.link.stations.wf = true → t.link.stations.wf = true
  recs     : RecsGood s.occ.recs → RecsGood t.occ.recs
  alarms   : AlarmsGood s.alm.recs → AlarmsGood t.alm.recs
  verified : VerifiedFrom e s.occ.zones t.occ.zones

namespace Steady

variable {e : Option Nat} {s0 s : State}

theorem refl (s : State) : Steady e s s := by constructor <;> first | exact VerifiedFrom.refl _ | simp

theorem trans {a b c : State} (h : Steady e a b) (k : Steady e b c) : Steady e a c := by
  constructor
  · rw [k.ret, h.ret]
  · rw [k.host, h.host]
  · rw [k.free, h.free]
  · rw [k.pending, h.pending]
  · exact fun x => k.doors (h.doors x)
  · exact fun x => k.persons (h.persons x)
  · exact fun x => k.grants (h.grants x)
  · exact fun x => k.zones (h.zones x)
  · exact fun x => k.stations (h.stations x)
  · exact fun x => k.recs (h.recs x)
  · exact fun x => k.alarms (h.alarms x)
  · exact h.verified.trans k.verified

theorem now_eq (h : Steady e s0 s) : s.now = s0.now := by simp [State.now, h.ret]

/-! ## Primitive edits -/

theorem setDoor (h : Steady e s0 s) (u : DoorUnit) (hu : s.door.doors.wf = true → u.doors.wf = true) :
    Steady e s0 (s.setDoor u) :=
  h.trans (by constructor <;> first | exact VerifiedFrom.refl _ | ((try simp) <;> assumption))

theorem setAdm (h : Steady e s0 s) (u : AdmissionUnit) (hp : s.adm.persons.wf = true → u.persons.wf = true)
    (hg : s.adm.grants.wf = true → u.grants.wf = true) : Steady e s0 (s.setAdm u) :=
  h.trans (by constructor <;> first | exact VerifiedFrom.refl _ | ((try simp) <;> assumption))

theorem setOcc (h : Steady e s0 s) (u : OccupancyUnit) (hz : s.occ.zones.wf = true → u.zones.wf = true)
    (hr : RecsGood s.occ.recs → RecsGood u.recs) (hv : VerifiedFrom e s.occ.zones u.zones) : Steady e s0 (s.setOcc u) :=
  h.trans (by constructor <;> first | exact VerifiedFrom.refl _ | ((try simp) <;> assumption))

@[simp] theorem setRel (h : Steady e s0 s) (u : ReleaseUnit) : Steady e s0 (s.setRel u) :=
  h.trans (by constructor <;> first | exact VerifiedFrom.refl _ | simp)

theorem setAlm (h : Steady e s0 s) (u : AlarmUnit) (ha : AlarmsGood s.alm.recs → AlarmsGood u.recs) :
    Steady e s0 (s.setAlm u) :=
  h.trans (by constructor <;> first | exact VerifiedFrom.refl _ | ((try simp) <;> assumption))

theorem setLink (h : Steady e s0 s) (u : LinkUnit) (hl : s.link.stations.wf = true → u.stations.wf = true) :
    Steady e s0 (s.setLink u) :=
  h.trans (by constructor <;> first | exact VerifiedFrom.refl _ | ((try simp) <;> assumption))

@[simp] theorem putDoor (h : Steady e s0 s) (d : Nat) (r : DoorRec) : Steady e s0 (s.putDoor d r) :=
  h.setDoor _ (Table.wf_put _ _)

@[simp] theorem changeDoor (h : Steady e s0 s) (d : Nat) (f : DoorRec → DoorRec) : Steady e s0 (s.changeDoor d f) :=
  h.setDoor _ (Table.wf_change _ _)

/-- A zone stored with a verified flag that it had, or FALSE. -/
theorem putZone (h : Steady e s0 s) (z : Nat) (r : ZoneRec)
    (hv : r.verified = true → ∃ q, s.zone? z = some q ∧ q.verified = true) : Steady e s0 (s.putZone z r) :=
  h.setOcc _ (Table.wf_put _ _) id (VerifiedFrom.put hv)

/-- A configured zone stored with its own verified flag. -/
theorem putZone_same (h : Steady e s0 s) {z : Nat} {q r : ZoneRec} (hz : s.zone? z = some q)
    (hv : r.verified = q.verified) : Steady e s0 (s.putZone z r) :=
  h.putZone _ _ (fun k => ⟨q, hz, hv ▸ k⟩)

/-- A zone changed in its own slot. -/
theorem changeZone (h : Steady e s0 s) (z : Nat) (f : ZoneRec → ZoneRec)
    (hv : e = some z ∨ ∀ r, (f r).verified = true → r.verified = true) : Steady e s0 (s.changeZone z f) :=
  h.setOcc _ (Table.wf_change _ _) id (VerifiedFrom.change _ _ hv)

@[simp] theorem putPerson (h : Steady e s0 s) (p : Nat) (r : PersonRec) : Steady e s0 (s.putPerson p r) :=
  h.setAdm _ (Table.wf_put _ _) id

@[simp] theorem putGrant (h : Steady e s0 s) (g : Nat) (r : GrantRec) : Steady e s0 (s.putGrant g r) :=
  h.setAdm _ id (Table.wf_put _ _)

@[simp] theorem putStation (h : Steady e s0 s) (a : Nat) (r : StationRec) : Steady e s0 (s.putStation a r) :=
  h.setLink _ (Table.wf_put _ _)

@[simp] theorem changeStation (h : Steady e s0 s) (a : Nat) (f : StationRec → StationRec) :
    Steady e s0 (s.changeStation a f) :=
  h.setLink _ (Table.wf_change _ _)

@[simp] theorem putClass (h : Steady e s0 s) (c : Nat) (r : ClassRec) : Steady e s0 (s.putClass c r) :=
  h.setDoor _ id

@[simp] theorem putAgent (h : Steady e s0 s) (a : Nat) (r : AgentRec) : Steady e s0 (s.putAgent a r) := h.setRel _
@[simp] theorem changeAgent (h : Steady e s0 s) (a : Nat) (f : AgentRec → AgentRec) : Steady e s0 (s.changeAgent a f) :=
  h.setRel _
@[simp] theorem putLogic (h : Steady e s0 s) (a : Nat) (r : LogicRec) : Steady e s0 (s.putLogic a r) := h.setRel _

/-- A record rewritten in its own slot. -/
theorem putOcc_same (h : Steady e s0 s) {i : Nat} {r w : OccRec} (hr : s.occ? i = some r) (hp : w.person = r.person)
    (hs : w.sound = true → r.sound = true) : Steady e s0 (s.putOcc i w) :=
  h.setOcc _ id (fun g => g.put_same hr hp hs) (VerifiedFrom.refl _)

/-- A suspect record. -/
theorem putOcc_suspect (h : Steady e s0 s) (i : Nat) {w : OccRec} (hs : w.suspect = true) : Steady e s0 (s.putOcc i w) :=
  h.setOcc _ id (fun g => g.put (fun e => by simp [OccRec.sound, hs] at e)) (VerifiedFrom.refl _)

/-- A record of a person whom no sound record in another slot names. -/
theorem putOcc_new (h : Steady e s0 s) (i : Nat) {w : OccRec}
    (hn : ∀ j y, (j, y) ∈ s.occ.recs → j ≠ i → y.sound = true → y.person ≠ w.person) : Steady e s0 (s.putOcc i w) :=
  h.setOcc _ id (fun g => g.put (fun _ => hn)) (VerifiedFrom.refl _)

@[simp] theorem delOcc (h : Steady e s0 s) (i : Nat) : Steady e s0 (s.delOcc i) :=
  h.setOcc _ id (fun g => g.filter _) (VerifiedFrom.refl _)

/-- A record changed in its own slot. -/
@[simp] theorem changeOcc (h : Steady e s0 s) (i : Nat) (f : OccRec → OccRec) (hp : ∀ r, (f r).person = r.person)
    (hs : ∀ r, (f r).suspect = r.suspect) (hc : ∀ r, (f r).checkOk = r.checkOk) : Steady e s0 (s.changeOcc i f) :=
  h.setOcc _ id (fun g => g.map _ (fun p => by split <;> rfl) (fun p _ => by split <;> simp [hp])
    (fun p => by split <;> simp [OccRec.sound, hs, hc])) (VerifiedFrom.refl _)

@[simp] theorem placed_person (s : State) (r : OccRec) (z : Nat) : (s.placed r z).person = r.person := rfl
@[simp] theorem placed_suspect (s : State) (r : OccRec) (z : Nat) : (s.placed r z).suspect = r.suspect := rfl
@[simp] theorem placed_checkOk (s : State) (r : OccRec) (z : Nat) : (s.placed r z).checkOk = r.checkOk := rfl

@[simp] theorem raise (h : Steady e s0 s) (k : Kind) (j : Subject) (z p : Option Nat) : Steady e s0 (s.raise k j z p) :=
  h.setAlm _ (AlarmUnit.raise_good _ _ _ _ _)

@[simp] theorem endAlarm (h : Steady e s0 s) (k : Kind) (j : Subject) : Steady e s0 (s.endAlarm k j) :=
  h.setAlm _ (AlarmUnit.endKind_good _ _)

@[simp] theorem withdraw (h : Steady e s0 s) (j : Subject) : Steady e s0 (s.withdraw j) :=
  h.setAlm _ (AlarmUnit.withdraw_good _)

@[simp] theorem endSuspect (h : Steady e s0 s) (t : Tbl) (n : Nat) : Steady e s0 (s.endSuspect t n) := h.endAlarm _ _
@[simp] theorem raiseSuspect (h : Steady e s0 s) (t : Tbl) (n : Nat) : Steady e s0 (s.raiseSuspect t n) :=
  h.raise _ _ _ _

/-- An operation repeated along a list. -/
@[simp] theorem foldl {α : Type} {f : State → α → State} (hf : ∀ t x, Steady e s0 t → Steady e s0 (f t x)) (l : List α)
    (h : Steady e s0 s) : Steady e s0 (l.foldl f s) := by
  induction l generalizing s with
  | nil => exact h
  | cons x l ih => exact ih (hf _ _ h)

end Steady
end Sys2Proof.Machine
end

