-- ==== Sys2Proof/Laws/SteadyOps.lean ====
section
/-! SUPPORT. Every operation of Sys2Proof/Machine that works inside the part is steady, file by file in the model's order:
one lemma each. The operations that change the clock or the Host Port themselves are not among them. -/

namespace Sys2Proof.Machine.Steady

open State (AgentReport Lane StationDraft)

variable {ez : Option Nat} {s0 s : State}

@[simp] theorem ite {a b : State} (c : Prop) [Decidable c] (ha : Steady ez s0 a) (hb : Steady ez s0 b) : Steady ez s0 (if c then a else b) := by
  split <;> assumption

theorem iteFst {α : Type} {a b : State × α} (c : Prop) [Decidable c] (ha : Steady ez s0 a.1) (hb : Steady ez s0 b.1) :
    Steady ez s0 (if c then a else b).1 := by
  split <;> assumption

theorem fst_of {α : Type} {x : State × α} {t : State} {b : α} (hx : x = (t, b)) (h : Steady ez s0 x.1) : Steady ez s0 t := by
  rw [hx] at h; exact h

/-! ## Alarms.lean -/

@[simp] theorem markUnverified (h : Steady ez s0 s) (z : Nat) :
    Steady ez s0 (State.markUnverified s z) := by
  unfold State.markUnverified
  split
  · exact h
  · exact ite _ (raise (changeZone h _ _ (.inr (fun _ hv => by simp at hv))) _ _ _ _) h

/-! ## Persons.lean -/

@[simp] theorem testPerson (h : Steady ez s0 s) (p : Nat) :
    Steady ez s0 (State.testPerson s p) := by
  unfold State.testPerson
  (repeat' split) <;> simp [h]

@[simp] theorem testGrant (h : Steady ez s0 s) (g : Nat) :
    Steady ez s0 (State.testGrant s g) := by
  unfold State.testGrant
  (repeat' split) <;> simp [h]

@[simp] theorem testPersons (h : Steady ez s0 s) (ps : List Nat) :
    Steady ez s0 (State.testPersons s ps) := by
  exact Steady.foldl (fun t p ht => testPerson ht p) ps h

@[simp] theorem resolve (h : Steady ez s0 s) (cred : Nat) :
    Steady ez s0 (State.resolve s cred).1 := by
  simp [State.resolve, h]

theorem searchGrants (h : Steady ez s0 s) (p z : Nat) (l : List Nat) : Steady ez s0 (s.searchGrants p z l).1 := by
  induction l generalizing s with
  | nil => exact h
  | cons n l ih =>
    have h1 : Steady ez s0 (s.testGrant n) := testGrant h n
    simp only [State.searchGrants]
    split
    · exact ih h1
    · split
      · exact h1
      · exact ih h1

@[simp] theorem grantSearch (h : Steady ez s0 s) (p z : Nat) : Steady ez s0 (s.grantSearch p z).1 := searchGrants h _ _ _

@[simp] theorem reportUse (h : Steady ez s0 s) (x : Passage) :
    Steady ez s0 (State.reportUse s x) := by
  unfold State.reportUse
  have h1 : ∀ n, Steady ez s0 (s.testGrant n) := fun n => testGrant h n
  split
  · exact h
  · split
    · exact h
    · dsimp only
      (repeat' split) <;> first | exact h1 _ | exact putGrant (h1 _) _ _

@[simp] theorem dropGrant (h : Steady ez s0 s) (n : Nat) :
    Steady ez s0 (State.dropGrant s n) := by
  have h1 : Steady ez s0 (s.setAdm { s.adm with grants := s.adm.grants.del n }) :=
    h.setAdm _ id (fun g => Table.wf_del _ g)
  have h2 := h1.setDoor { s.door with doors := s.door.doors.map (fun q => (q.1, State.markDoor n q.2)) }
    (fun g => Table.wf_map _ (fun _ => rfl) g)
  exact h2.endSuspect _ _

/-! ## Doors.lean -/

@[simp] theorem decided (h : Steady ez s0 s) (d : Nat) (x : Decision) :
    Steady ez s0 (State.decided s d x) := by
  simp [State.decided, h]

@[simp] theorem refuse (h : Steady ez s0 s) (d : Nat) (c : RefusalCode) (p : Option Nat) (g : Option Nat) :
    Steady ez s0 (State.refuse s d c p g) := by
  simp [State.refuse, h]

@[simp] theorem refuseEach (h : Steady ez s0 s) (d : Nat) (c : RefusalCode) (xs : List Passage) :
    Steady ez s0 (State.refuseEach s d c xs) := by
  exact Steady.foldl (fun t x ht => refuse ht _ _ _ _) xs h

@[simp] theorem giveRight (h : Steady ez s0 s) (d : Nat) (p : Nat) :
    Steady ez s0 (State.giveRight s d p) := by
  simp [State.giveRight, h]

@[simp] theorem arbitrate (h : Steady ez s0 s) (d : Nat) :
    Steady ez s0 (State.arbitrate s d) := by
  unfold State.arbitrate
  (repeat' split) <;> simp [h]

@[simp] theorem raiseBreach (h : Steady ez s0 s) (d : Nat) :
    Steady ez s0 (State.raiseBreach s d) := by
  unfold State.raiseBreach
  split <;> simp [h]

@[simp] theorem breachIfBothOpen (h : Steady ez s0 s) (d : Nat) :
    Steady ez s0 (State.breachIfBothOpen s d) := by
  unfold State.breachIfBothOpen
  split <;> simp [h]

@[simp] theorem endBreach (h : Steady ez s0 s) (d : Nat) :
    Steady ez s0 (State.endBreach s d) := by
  unfold State.endBreach
  (repeat' split) <;> simp [h]

@[simp] theorem toSecured (h : Steady ez s0 s) (d : Nat) :
    Steady ez s0 (State.toSecured s d) := by
  simp (maxDischargeDepth := 40) [State.toSecured, h]

@[simp] theorem beginCycle (h : Steady ez s0 s) (d : Nat) (r : DoorRec) (xs : List Passage) :
    Steady ez s0 (State.beginCycle s d r xs) := by
  unfold State.beginCycle
  split <;> simp [h]

@[simp] theorem releaseRequest (h : Steady ez s0 s) (d : Nat) (xs : List Passage) :
    Steady ez s0 (State.releaseRequest s d xs).1 := by
  unfold State.releaseRequest
  (repeat' split) <;> simp [h]

@[simp] theorem reopen (h : Steady ez s0 s) (d : Nat) (r : DoorRec) :
    Steady ez s0 (State.reopen s d r) := by
  unfold State.reopen
  (repeat' split) <;> simp [h]

@[simp] theorem force (h : Steady ez s0 s) (d : Nat) (r : DoorRec) (c : Cycle) :
    Steady ez s0 (State.force s d r c) := by
  simp (maxDischargeDepth := 40) [State.force, h]

@[simp] theorem opening (h : Steady ez s0 s) (d : Nat) :
    Steady ez s0 (State.opening s d) := by
  unfold State.opening
  split
  · exact h
  · (repeat' split) <;> first | (with_reducible exact h) | (simp (maxDischargeDepth := 40) [h]; done) | skip
    rename_i r _ _ _
    have hf := force h d r { r.cycle.getD (s.newCycle r []) with waiting := true }
    dsimp only
    (repeat' split) <;> first | exact hf | exact raiseBreach hf d

@[simp] theorem overrideRight (h : Steady ez s0 s) (d : Nat) :
    Steady ez s0 (State.overrideRight s d) := by
  unfold State.overrideRight
  (repeat' split) <;> simp (maxDischargeDepth := 40) [h]

@[simp] theorem closeForced (h : Steady ez s0 s) (d : Nat) (r : DoorRec) :
    Steady ez s0 (State.closeForced s d r).1 := by
  unfold State.closeForced
  (repeat' split) <;> simp (maxDischargeDepth := 40) [h]

@[simp] theorem closing (h : Steady ez s0 s) (d : Nat) :
    Steady ez s0 (State.closing s d).1 := by
  unfold State.closing
  (repeat' split) <;> simp (maxDischargeDepth := 40) [h]

@[simp] theorem takeCycle (h : Steady ez s0 s) (d : Nat) :
    Steady ez s0 (State.takeCycle s d) := by
  simp [State.takeCycle, h]

@[simp] theorem leadEnds (h : Steady ez s0 s) (d : Nat) :
    Steady ez s0 (State.leadEnds s d) := by
  unfold State.leadEnds
  (repeat' split) <;> simp [h]

@[simp] theorem strikeEnds (h : Steady ez s0 s) (d : Nat) :
    Steady ez s0 (State.strikeEnds s d) := by
  unfold State.strikeEnds
  (repeat' split) <;> simp [h]

@[simp] theorem heldOpenEnds (h : Steady ez s0 s) (d : Nat) :
    Steady ez s0 (State.heldOpenEnds s d) := by
  unfold State.heldOpenEnds
  (repeat' split) <;> simp [h]

@[simp] theorem relockEnds (h : Steady ez s0 s) (d : Nat) :
    Steady ez s0 (State.relockEnds s d) := by
  unfold State.relockEnds
  (repeat' split) <;> simp [h]

@[simp] theorem interlockTimesOut (h : Steady ez s0 s) (d : Nat) :
    Steady ez s0 (State.interlockTimesOut s d) := by
  unfold State.interlockTimesOut
  (repeat' split) <;> simp (maxDischargeDepth := 40) [h]

@[simp] theorem exitFallsDue (h : Steady ez s0 s) (d : Nat) :
    Steady ez s0 (State.exitFallsDue s d) := by
  unfold State.exitFallsDue
  (repeat' split) <;> simp [h]

@[simp] theorem indicationEnds (h : Steady ez s0 s) (d : Nat) :
    Steady ez s0 (State.indicationEnds s d) := by
  unfold State.indicationEnds
  split <;> simp [h]

@[simp] theorem strikeEcho (h : Steady ez s0 s) (d : Nat) :
    Steady ez s0 (State.strikeEcho s d) := by
  simp [State.strikeEcho, h]

@[simp] theorem closeWaiting (h : Steady ez s0 s) (d : Nat) (r : DoorRec) (c : Cycle) :
    Steady ez s0 (State.closeWaiting s d r c) := by
  simp (maxDischargeDepth := 40) [State.closeWaiting, h]

@[simp] theorem closeDoor (h : Steady ez s0 s) (d : Nat) :
    Steady ez s0 (State.closeDoor s d) := by
  unfold State.closeDoor
  (repeat' split) <;> simp [h]

@[simp] theorem doorSilent (h : Steady ez s0 s) (d : Nat) :
    Steady ez s0 (State.doorSilent s d) := by
  unfold State.doorSilent
  (repeat' split) <;> simp (maxDischargeDepth := 40) [h]

@[simp] theorem doorReturn (h : Steady ez s0 s) (d : Nat) (isOpen : Bool) (latch : Bool) :
    Steady ez s0 (State.doorReturn s d isOpen latch) := by
  unfold State.doorReturn
  (repeat' split) <;> simp (maxDischargeDepth := 40) [h]

@[simp] theorem heldAcknowledged (h : Steady ez s0 s) (d : Nat) :
    Steady ez s0 (State.heldAcknowledged s d) := by
  simp [State.heldAcknowledged, h]

@[simp] theorem freezeReached (h : Steady ez s0 s)  :
    Steady ez s0 (State.freezeReached s) := by
  refine setOcc h _ (Table.wf_map _ (fun p => by split <;> rfl)) id ?_
  have := VerifiedFrom.map (e := ez) s.occ.zones (f := fun k r =>
    if (r.freeze = .requested && s.inFlight k = 0) = true then { r with freeze := .held } else r)
    (fun k r hv => by split at hv <;> exact hv)
  refine (List.map_congr_left (fun p _ => ?_)) ▸ this
  split <;> rfl

/-! ## Occupancy.lean -/

@[simp] theorem takeDwell (h : Steady ez s0 s) (i : Nat) :
    Steady ez s0 (State.takeDwell s i) := by
  unfold State.takeDwell
  split
  · exact h
  · rename_i r hr
    split
    · refine raise (putOcc_same h hr ?_ ?_) _ _ _ _ <;> simp [OccRec.sound]
    · exact h

@[simp] theorem takeCheckin (h : Steady ez s0 s) (i : Nat) :
    Steady ez s0 (State.takeCheckin s i) := by
  unfold State.takeCheckin
  split
  · exact h
  · rename_i r hr
    split
    · refine raise (putOcc_same h hr ?_ ?_) _ _ _ _ <;> simp [OccRec.sound]
    · exact h

@[simp] theorem takePairGrace (h : Steady ez s0 s) (i : Nat) :
    Steady ez s0 (State.takePairGrace s i) := by
  unfold State.takePairGrace
  split
  · exact h
  · rename_i r hr
    split
    · refine raise (putOcc_same h hr ?_ ?_) _ _ _ _ <;> simp [OccRec.sound]
    · exact h

theorem takeGrace (h : Steady ez s0 s) {i : Nat} {r : OccRec} (hr : s.occ? i = some r) :
    Steady ez s0 (State.takeGrace s i r) := by
  unfold State.takeGrace
  split
  · exact h
  · refine ite _ (putOcc_same h hr ?_ ?_) h <;> simp [OccRec.sound]

@[simp] theorem searchGrace (h : Steady ez s0 s) (i : Nat) :
    Steady ez s0 (State.searchGrace s i) := by
  unfold State.searchGrace
  split
  · exact h
  · rename_i r hr
    split
    · split
      · rename_i s' _ e
        have := grantSearch h r.person r.zone
        rw [e] at this; exact this
      · rename_i s' e
        have h1 := grantSearch h r.person r.zone
        have h2 := s.grantSearch_occ r.person r.zone
        rw [e] at h1 h2
        exact takeGrace h1 (by rw [State.occ?, h2]; exact hr)
    · exact h

@[simp] theorem giveGrace (h : Steady ez s0 s) (i : Nat) :
    Steady ez s0 (State.giveGrace s i) := by
  unfold State.giveGrace
  split
  · exact h
  · exact ite _ (searchGrace h i) h

@[simp] theorem arrived (h : Steady ez s0 s) (i : Nat) :
    Steady ez s0 (State.arrived s i) := by
  simp [State.arrived, h]

@[simp] theorem moveRecord (h : Steady ez s0 s) (i : Nat) (r : OccRec) (z : Nat) (m : Mode) :
    Steady ez s0 (State.moveRecord s i r z m) := by
  unfold State.moveRecord
  dsimp only
  have h1 := ((changeOcc h i (fun r => { s.placed r z with pairGrace := none, alone := false, duress := r.duress || m = .duress })) (fun _ => rfl)
    (fun _ => rfl) (fun _ => rfl))
  simp (maxDischargeDepth := 40) [h]

@[simp] theorem retireRecord (h : Steady ez s0 s) (i : Nat) (r : OccRec) :
    Steady ez s0 (State.retireRecord s i r) := by
  simp (maxDischargeDepth := 40) [State.retireRecord, h]

@[simp] theorem leave (h : Steady ez s0 s) (i : Nat) (r : OccRec) (outer : Nat) :
    Steady ez s0 (State.leave s i r outer) := by
  simp [State.leave, h]

@[simp] theorem mismatch (h : Steady ez s0 s) (p : Nat) (z : Nat) :
    Steady ez s0 (State.mismatch s p z) := by
  simp [State.mismatch, h]

theorem makeEntry (h : Steady ez s0 s) (p : Nat) (z : Nat) (x : Passage) (hn : s.recordOf p = none) :
    Steady ez s0 (s.makeEntry p z x) := by
  unfold State.makeEntry
  split
  · exact markUnverified h z
  · refine arrived (putOcc_new h _ ?_) _
    intro j y hj _ hy he
    have := List.find?_eq_none.1 hn (j, y) hj
    rw [OccRec.sound, Bool.and_eq_true, Bool.not_eq_true'] at hy
    simp only [hy.1, Bool.not_false, Bool.and_true, decide_eq_true_eq] at this
    exact this he

@[simp] theorem applyEntry (h : Steady ez s0 s) (inner : Nat) (outer : Nat) (p : Nat) (x : Passage) :
    Steady ez s0 (State.applyEntry s inner outer p x) := by
  unfold State.applyEntry
  split
  · simp (maxDischargeDepth := 40) [h]
  · rename_i hn
    have := makeEntry h p inner x hn
    (repeat' split) <;> first | exact this | (simp (maxDischargeDepth := 40) [h, this])

@[simp] theorem applyExit (h : Steady ez s0 s) (inner : Nat) (outer : Nat) (p : Nat) :
    Steady ez s0 (State.applyExit s inner outer p) := by
  unfold State.applyExit
  (repeat' split) <;> simp (maxDischargeDepth := 40) [h]

@[simp] theorem inferExit (h : Steady ez s0 s) (inner : Nat) (outer : Nat) (double : Bool) :
    Steady ez s0 (State.inferExit s inner outer double) := by
  unfold State.inferExit
  (repeat' split) <;> simp [h]

@[simp] theorem applyPassage (h : Steady ez s0 s) (inner : Nat) (outer : Nat) (x : Passage) :
    Steady ez s0 (State.applyPassage s inner outer x) := by
  unfold State.applyPassage
  split <;> simp [h]

@[simp] theorem startGrace (h : Steady ez s0 s) (z : Nat) :
    Steady ez s0 (State.startGrace s z) := by
  unfold State.startGrace
  split
  · have h1 := fun p => testPerson h p
    dsimp only
    (repeat' split) <;> first | (with_reducible exact h) | exact h1 _ | (simp (maxDischargeDepth := 40) [h])
  · exact h

@[simp] theorem clearAlone (h : Steady ez s0 s) (q : Nat × OccRec) :
    Steady ez s0 (State.clearAlone s q) := by
  simp (maxDischargeDepth := 40) [State.clearAlone, h]

@[simp] theorem pairEvaluate (h : Steady ez s0 s) (z : Nat) (before : Nat) :
    Steady ez s0 (State.pairEvaluate s z before) := by
  unfold State.pairEvaluate
  simp_all (maxDischargeDepth := 40)

@[simp] theorem inferred (h : Steady ez s0 s) (inner : Nat) (outer : Nat) (xs : List Passage) (unlisted : Bool) :
    Steady ez s0 (State.inferred s inner outer xs unlisted) := by
  simp [State.inferred, h]

@[simp] theorem complete (h : Steady ez s0 s) (inner : Nat) (outer : Nat) (xs : List Passage) (unlisted : Bool) :
    Steady ez s0 (State.complete s inner outer xs unlisted) := by
  unfold State.complete
  simp_all (maxDischargeDepth := 40)

@[simp] theorem handOver (h : Steady ez s0 s) (d : Nat) :
    Steady ez s0 (State.handOver s d) := by
  unfold State.handOver
  (repeat' split) <;> simp [h]

@[simp] theorem checkIn (h : Steady ez s0 s) (z : Nat) (cred : Nat) :
    Steady ez s0 (State.checkIn s z cred) := by
  unfold State.checkIn
  split <;> rename_i hr
  all_goals
    have h1 := fst_of hr (resolve h cred)
    (repeat' split) <;> first | (with_reducible exact h) | (with_reducible exact h1) | (simp (maxDischargeDepth := 40) (contextual := true) [h1])

@[simp] theorem turnRecord (h : Steady ez s0 s) (i : Nat) :
    Steady ez s0 (State.turnRecord s i) := by
  unfold State.turnRecord
  simp (maxDischargeDepth := 40) [h]

@[simp] theorem turnAfter (h : Steady ez s0 s) (z : Nat) :
    Steady ez s0 (State.turnAfter s z) := by
  unfold State.turnAfter
  simp_all (maxDischargeDepth := 40)

@[simp] theorem turnDay (h : Steady ez s0 s) (z : Nat) :
    Steady ez s0 (State.turnDay s z) := by
  exact setOcc h _ id (fun g => g.map _ (fun p => by split <;> rfl) (fun p _ => by split <;> rfl)
    (fun p => by split <;> exact id))
    (VerifiedFrom.refl _)

@[simp] theorem evaluateHours (h : Steady ez s0 s) (z : Nat) :
    Steady ez s0 (State.evaluateHours s z) := by
  unfold State.evaluateHours
  split
  · exact h
  · rename_i r hr
    refine ite _ h ?_
    dsimp only
    refine ite _ h ?_
    have h1 := putZone_same h hr (r := { r with hours := computeHours s.ret.calendar r.cfg }) rfl
    split
    · exact turnAfter h1 _
    · exact turnDay h1 _

@[simp] theorem evaluateAllHours (h : Steady ez s0 s)  :
    Steady ez s0 (State.evaluateAllHours s) := by
  unfold State.evaluateAllHours
  simp_all (maxDischargeDepth := 40)

@[simp] theorem takeAllDeadlines (h : Steady ez s0 s)  :
    Steady ez s0 (State.takeAllDeadlines s) := by
  unfold State.takeAllDeadlines
  simp_all (maxDischargeDepth := 40)

/-! ## Admission.lean -/

@[simp] theorem checkGrant (h : Steady ez s0 s) (z : Nat) (zr : ZoneRec) (p : Nat) (n : Nat) :
    Steady ez s0 (State.checkGrant s z zr p n).1 := by
  unfold State.checkGrant
  split
  · split <;> exact h
  · split <;> rename_i hr
    · exact fst_of hr (grantSearch h p z)
    · split <;> exact fst_of hr (grantSearch h p z)

@[simp] theorem entryChecks (h : Steady ez s0 s) (r : DoorRec) (res : Resolution) (n : Nat) :
    Steady ez s0 (State.entryChecks s r res n).1 := by
  unfold State.entryChecks
  (repeat' split) <;> simp [h]

@[simp] theorem grantEntry (h : Steady ez s0 s) (d : Nat) (p : Nat) (g : Option Nat) (c : Option Nat) (m : Mode) (arrival : Nat) :
    Steady ez s0 (State.grantEntry s d p g c m arrival) := by
  unfold State.grantEntry
  dsimp only
  split <;> rename_i s1 hr
  all_goals
    have h1 := fst_of hr (releaseRequest (decided h d (s.grantedNow (some p) g)) _ _)
    first | (with_reducible exact h1) | exact refuse h1 _ _ _ _

@[simp] theorem pairRelease (h : Steady ez s0 s) (d : Nat) (w : PairWait) (p : Nat) (g : Option Nat) (c : Option Nat) (m : Mode) (arrival : Nat) :
    Steady ez s0 (State.pairRelease s d w p g c m arrival) := by
  unfold State.pairRelease
  dsimp only
  split <;> rename_i s1 hr
  all_goals
    have h1 := fst_of hr (releaseRequest h _ _)
    first | exact refuse h1 _ _ _ _ | exact decided (changeDoor h1 _ _) _ _

@[simp] theorem beginPairWait (h : Steady ez s0 s) (d : Nat) (p : Nat) (g : Option Nat) (c : Option Nat) (m : Mode) (arrival : Nat) (window : Nat) :
    Steady ez s0 (State.beginPairWait s d p g c m arrival window) := by
  simp [State.beginPairWait, h]

@[simp] theorem admitEntry (h : Steady ez s0 s) (d : Nat) (r : DoorRec) (p : Nat) (g : Option Nat) (c : Option Nat) (m : Mode) (arrival : Nat) :
    Steady ez s0 (State.admitEntry s d r p g c m arrival) := by
  unfold State.admitEntry
  split <;> simp [h]

@[simp] theorem divert (h : Steady ez s0 s) (e : WaitEntry) (p : Option Nat) :
    Steady ez s0 (State.divert s e p) := by
  unfold State.divert
  (repeat' split) <;> first | (with_reducible exact h) | exact refuse h _ _ _ _ | exact setAdm h _ id id

@[simp] theorem decideEntry (h : Steady ez s0 s) (d : Nat) (cred : Option Nat) (res : Resolution) (m : Mode) (arrival : Nat) :
    Steady ez s0 (State.decideEntry s d cred res m arrival) := by
  unfold State.decideEntry
  split
  · exact h
  · refine ite _ h ?_
    split <;> rename_i hr <;> have h2 := fst_of hr (entryChecks h _ _ _)
    · dsimp only
      refine refuse ?_ _ _ _ _
      split
      · exact mismatch h2 _ _
      · exact h2
    · exact divert h2 _ _
    · exact admitEntry h2 _ _ _ _ _ _ _

@[simp] theorem exitRequest (h : Steady ez s0 s) (d : Nat) (p : Option Nat) (arrival : Nat) :
    Steady ez s0 (State.exitRequest s d p arrival) := by
  unfold State.exitRequest
  split
  · exact h
  · dsimp only
    have h1 := decided h d { outcome := .releasedExit, person := p, time := some s.now }
    split
    · exact h1
    · have h2 := releaseRequest h1 d [{ dir := .exit, person := p, arrival := arrival }]
      split <;> rename_i hr <;> rw [hr] at h2
      · exact h2
      · exact h2
      · exact refuse h2 _ _ _ _

@[simp] theorem pairWindowEnds (h : Steady ez s0 s) (d : Nat) :
    Steady ez s0 (State.pairWindowEnds s d) := by
  unfold State.pairWindowEnds
  (repeat' split) <;> simp [h]

@[simp] theorem waitPerson (h : Steady ez s0 s) (e : WaitEntry) :
    Steady ez s0 (State.waitPerson s e).1 := by
  unfold State.waitPerson
  split
  · exact h
  · exact resolve h _

@[simp] theorem waitExpires (h : Steady ez s0 s)  :
    Steady ez s0 (State.waitExpires s) := by
  unfold State.waitExpires
  split
  · exact h
  · rename_i e rest _
    split
    · exact refuse (waitPerson (setAdm h { s.adm with waits := rest } id id) _) _ _ _ _
    · exact h

@[simp] theorem closePairWait (h : Steady ez s0 s) (d : Nat) :
    Steady ez s0 (State.closePairWait s d) := by
  unfold State.closePairWait
  (repeat' split) <;> simp [h]

@[simp] theorem closeWaits (h : Steady ez s0 s) (z : Nat) :
    Steady ez s0 (State.closeWaits s z) := by
  unfold State.closeWaits
  dsimp only
  refine Steady.foldl (fun t x ht => refuse (waitPerson ht _) _ _ _ _) _ (setAdm (Steady.foldl (fun t x ht => closePairWait ht _) _ h) _ id id)

@[simp] theorem zoneCloses (h : Steady ez s0 s) (z : Nat) :
    Steady ez s0 (State.zoneCloses s z) := by
  unfold State.zoneCloses
  simp_all (maxDischargeDepth := 40)

/-! ## Release.lean -/

@[simp] theorem syncEntries (h : Steady ez s0 s)  :
    Steady ez s0 (State.syncEntries s) := by
  unfold State.syncEntries
  dsimp only
  exact Steady.foldl (fun t x ht => zoneCloses ht _) _ (setOcc h _ (fun g => Table.wf_map _ (fun _ => rfl) g) id
    (VerifiedFrom.map _ (f := fun k r => { r with entry := s.entryOf k }) (fun _ _ hv => hv)))

@[simp] theorem raiseAgent (h : Steady ez s0 s) (a : Nat) (k : Kind) :
    Steady ez s0 (State.raiseAgent s a k) := by
  simp [State.raiseAgent, h]

@[simp] theorem enterState (h : Steady ez s0 s) (a : Nat) (new : AgentState) :
    Steady ez s0 (State.enterState s a new) := by
  simp (maxDischargeDepth := 40) [State.enterState, h]

@[simp] theorem egressTime (h : Steady ez s0 s) (a : Nat) :
    Steady ez s0 (State.egressTime s a).1 := by
  unfold State.egressTime
  split <;> simp [h]

@[simp] theorem beginRelease (h : Steady ez s0 s) (a : Nat) :
    Steady ez s0 (State.beginRelease s a) := by
  unfold State.beginRelease
  split
  · simp (maxDischargeDepth := 40) [h]
  · have h1 := egressTime h a
    split
    rename_i s1 e hr
    rw [hr] at h1
    dsimp only
    simp (maxDischargeDepth := 40) [h1]

@[simp] theorem enterHold (h : Steady ez s0 s) (a : Nat) :
    Steady ez s0 (State.enterHold s a) := by
  simp [State.enterHold, h]

@[simp] theorem deadlineTaken (h : Steady ez s0 s) (a : Nat) :
    Steady ez s0 (State.deadlineTaken s a) := by
  simp (maxDischargeDepth := 40) [State.deadlineTaken, h]

@[simp] theorem takeCountdown (h : Steady ez s0 s) (a : Nat) :
    Steady ez s0 (State.takeCountdown s a) := by
  simp [State.takeCountdown, h]

@[simp] theorem endHold (h : Steady ez s0 s) (a : Nat) :
    Steady ez s0 (State.endHold s a) := by
  simp (maxDischargeDepth := 40) [State.endHold, h]

@[simp] theorem withdrawFlag (h : Steady ez s0 s) (a : Nat) :
    Steady ez s0 (State.withdrawFlag s a) := by
  simp [State.withdrawFlag, h]

@[simp] theorem testGate (h : Steady ez s0 s) (a : Nat) :
    Steady ez s0 (State.testGate s a) := by
  simp [State.testGate, h]

@[simp] theorem readGate (h : Steady ez s0 s) (a : Nat) :
    Steady ez s0 (State.readGate s a) := by
  simp [State.readGate, h]

@[simp] theorem evaluate (h : Steady ez s0 s) (a : Nat) :
    Steady ez s0 (State.evaluate s a) := by
  simp [State.evaluate, h]

@[simp] theorem actAlert (h : Steady ez s0 s) (a : Nat) (before : Bool) :
    Steady ez s0 (State.actAlert s a before) := by
  unfold State.actAlert
  (repeat' split) <;> simp [h]

@[simp] theorem actRelease (h : Steady ez s0 s) (a : Nat) (before : Bool) :
    Steady ez s0 (State.actRelease s a before) := by
  simp [State.actRelease, h]

@[simp] theorem actOutputs (h : Steady ez s0 s) (a : Nat) (alert : Bool) (release : Bool) :
    Steady ez s0 (State.actOutputs s a alert release) := by
  simp [State.actOutputs, h]

@[simp] theorem reevaluate (h : Steady ez s0 s) (a : Nat) :
    Steady ez s0 (State.reevaluate s a) := by
  simp (maxDischargeDepth := 40) [State.reevaluate, h]

@[simp] theorem rereadAgent (h : Steady ez s0 s) (mask : BitVec 32) (a : Nat) :
    Steady ez s0 (State.rereadAgent mask s a) := by
  simp (maxDischargeDepth := 40) [State.rereadAgent, h]

@[simp] theorem settleRound (mask : BitVec 32) (h : Steady ez s0 s) : Steady ez s0 (State.settleRound mask s) := by
  unfold State.settleRound
  exact Steady.foldl (fun t x ht => readGate ht x) _ (Steady.foldl (fun t x ht => rereadAgent ht mask x) _ h)

theorem settleLoop (n : Nat) (mask : BitVec 32) (h : Steady ez s0 s) : Steady ez s0 (State.settleLoop n mask s) := by
  induction n generalizing mask s with
  | zero => exact h
  | succ n ih =>
    simp only [State.settleLoop]
    split
    · exact settleRound mask h
    · exact ih _ (settleRound mask h)

@[simp] theorem settleBits (h : Steady ez s0 s) (mask : BitVec 32) : Steady ez s0 (s.settleBits mask) := settleLoop _ _ h

@[simp] theorem settle (h : Steady ez s0 s)  :
    Steady ez s0 (State.settle s) := by
  exact settleBits h _

@[simp] theorem recompute (h : Steady ez s0 s) (a : Nat) :
    Steady ez s0 (State.recompute s a) := by
  unfold State.recompute
  split
  · split
    · have h1 := egressTime h a
      split
      rename_i s1 e hr
      rw [hr] at h1
      simp (maxDischargeDepth := 40) [h1]
    · exact h
  · exact h

@[simp] theorem recomputeFor (h : Steady ez s0 s) (zs : List Nat) : Steady ez s0 (s.recomputeFor zs) := by
  refine Steady.foldl (fun t x ht => ?_) _ h
  split
  · exact recompute ht _
  · exact ht

@[simp] theorem enterDischarged (h : Steady ez s0 s) (a : Nat) :
    Steady ez s0 (State.enterDischarged s a) := by
  simp (maxDischargeDepth := 40) [State.enterDischarged, h]

@[simp] theorem takeConfirmation (h : Steady ez s0 s) (a : Nat) :
    Steady ez s0 (State.takeConfirmation s a) := by
  simp (maxDischargeDepth := 40) [State.takeConfirmation, h]

@[simp] theorem takeEcho (h : Steady ez s0 s) (a : Nat) :
    Steady ez s0 (State.takeEcho s a) := by
  unfold State.takeEcho
  (repeat' split) <;> simp [h]

@[simp] theorem takePressure (h : Steady ez s0 s) (a : Nat) :
    Steady ez s0 (State.takePressure s a) := by
  unfold State.takePressure
  split <;> simp [h]

@[simp] theorem abortSet (h : Steady ez s0 s) (a : Nat) :
    Steady ez s0 (State.abortSet s a) := by
  unfold State.abortSet
  (repeat' split) <;> simp [h]

@[simp] theorem abortCleared (h : Steady ez s0 s) (a : Nat) :
    Steady ez s0 (State.abortCleared s a) := by
  simp (maxDischargeDepth := 40) [State.abortCleared, h]

@[simp] theorem actAbort (h : Steady ez s0 s) (a : Nat) (before : Bool) :
    Steady ez s0 (State.actAbort s a before) := by
  unfold State.actAbort
  split <;> simp [h]

@[simp] theorem actManual (h : Steady ez s0 s) (a : Nat) (before : Bool) :
    Steady ez s0 (State.actManual s a before) := by
  simp [State.actManual, h]

@[simp] theorem actReady (h : Steady ez s0 s) (a : Nat) (before : Bool) :
    Steady ez s0 (State.actReady s a before) := by
  simp (maxDischargeDepth := 40) [State.actReady, h]

@[simp] theorem agentSilent (h : Steady ez s0 s) (a : Nat) :
    Steady ez s0 (State.agentSilent s a) := by
  unfold State.agentSilent
  (repeat' split) <;> simp (maxDischargeDepth := 40) [h]

@[simp] theorem agentReturn (h : Steady ez s0 s) (a : Nat) (ready : Bool) :
    Steady ez s0 (State.agentReturn s a ready) := by
  simp (maxDischargeDepth := 40) [State.agentReturn, h]

@[simp] theorem actFault (h : Steady ez s0 s) (a : Nat) (before : Bool) (after : Bool) (other : Bool) :
    Steady ez s0 (State.actFault s a before after other) := by
  unfold State.actFault
  split <;> simp [h]

@[simp] theorem takeInputs (h : Steady ez s0 s) (a : Nat) (x : AgentReport) :
    Steady ez s0 (State.takeInputs s a x) := by
  simp (maxDischargeDepth := 40) [State.takeInputs, h]

@[simp] theorem firstReport (h : Steady ez s0 s) (a : Nat) :
    Steady ez s0 (State.firstReport s a) := by
  simp (maxDischargeDepth := 40) [State.firstReport, h]

@[simp] theorem takeBits (h : Steady ez s0 s) (a : Nat) (x : AgentReport) (back : Bool) (first : Bool) :
    Steady ez s0 (State.takeBits s a x back first) := by
  simp (maxDischargeDepth := 40) [State.takeBits, h]

@[simp] theorem agentReport (h : Steady ez s0 s) (a : Nat) (x : AgentReport) (returned : Bool) (echo : Bool) :
    Steady ez s0 (State.agentReport s a x returned echo) := by
  simp (maxDischargeDepth := 40) [State.agentReport, h]

@[simp] theorem restartAlarms (h : Steady ez s0 s) (a : Nat) (r : AgentRec) :
    Steady ez s0 (State.restartAlarms s a r) := by
  unfold State.restartAlarms
  (repeat' split) <;> simp (maxDischargeDepth := 40) [h]

@[simp] theorem readInputs (h : Steady ez s0 s) (a : Nat) :
    Steady ez s0 (State.readInputs s a) := by
  simp (maxDischargeDepth := 40) [State.readInputs, h]

@[simp] theorem restartInputs (h : Steady ez s0 s) (a : Nat) :
    Steady ez s0 (State.restartInputs s a) := by
  simp (maxDischargeDepth := 40) [State.restartInputs, h]

@[simp] theorem restartRelease (h : Steady ez s0 s)  :
    Steady ez s0 (State.restartRelease s) := by
  unfold State.restartRelease
  dsimp only
  have h1 := Steady.foldl (fun t a ht => restartAlarms (putAgent ht a (State.restartedAgent (s.agent a) s.now)) a
    (s.agent a)) State.eight h
  exact Steady.foldl (fun t x ht => restartInputs ht x) _ (setOcc h1 _ (fun g => Table.wf_map _ (fun _ => rfl) g) id
    (VerifiedFrom.map _ (f := fun k r => { r with entry := State.entryOf _ k }) (fun _ _ hv => hv)))

/-! ## Link.lean -/

@[simp] theorem syncStations (h : Steady ez s0 s)  :
    Steady ez s0 (State.syncStations s) := by
  exact setLink h _ (fun g => Table.wf_map _ (fun _ => rfl) g)

@[simp] theorem refreshLanes (h : Steady ez s0 s)  :
    Steady ez s0 (State.refreshLanes s) := by
  exact setLink h _ id

@[simp] theorem conclude (h : Steady ez s0 s)  :
    Steady ez s0 (State.conclude s) := by
  exact refreshLanes (syncStations (settle (freezeReached h)))

@[simp] theorem finish (h : Steady ez s0 s)  :
    Steady ez s0 (State.finish s) := by
  exact conclude h

@[simp] theorem pollGate (h : Steady ez s0 s) (a : Nat) :
    Steady ez s0 (State.pollGate s a) := by
  simp (maxDischargeDepth := 40) [State.pollGate, h]

@[simp] theorem gateBeforePoll (h : Steady ez s0 s) (st : StationRec) :
    Steady ez s0 (State.gateBeforePoll s st) := by
  unfold State.gateBeforePoll
  split
  · exact conclude (pollGate h _)
  · exact h

@[simp] theorem sendPoll (h : Steady ez s0 s) (addr : Nat) (lane : Lane) (st : StationRec) :
    Steady ez s0 (State.sendPoll s addr lane st) := by
  unfold State.sendPoll
  refine setLink (putStation h _ _) _ (fun g => ?_)
  cases lane <;> exact g

@[simp] theorem pollNext (h : Steady ez s0 s)  :
    Steady ez s0 (State.pollNext s) := by
  unfold State.pollNext
  (repeat' split) <;> try exact h
  dsimp only
  have h1 := fun st => gateBeforePoll h st
  split
  · exact h1 _
  · exact sendPoll (h1 _) _ _ _

@[simp] theorem tellSilence (h : Steady ez s0 s) (c : StationCfg) :
    Steady ez s0 (State.tellSilence s c) := by
  unfold State.tellSilence
  split <;> simp [h]

@[simp] theorem goSilent (h : Steady ez s0 s) (addr : Nat) (st : StationRec) :
    Steady ez s0 (State.goSilent s addr st) := by
  simp (maxDischargeDepth := 40) [State.goSilent, h]

@[simp] theorem missedPoll (h : Steady ez s0 s) (addr : Nat) (st : StationRec) :
    Steady ez s0 (State.missedPoll s addr st) := by
  simp (maxDischargeDepth := 40) [State.missedPoll, h]

@[simp] theorem exchangeOver (h : Steady ez s0 s)  :
    Steady ez s0 (State.exchangeOver s) := by
  unfold State.exchangeOver
  have h1 := finish h
  generalize s.finish = t at h1 ⊢
  exact refreshLanes (setLink h1 _ id)

@[simp] theorem missedReply (h : Steady ez s0 s) (x : Exchange) :
    Steady ez s0 (State.missedReply s x) := by
  unfold State.missedReply
  (repeat' split) <;> first | (with_reducible exact h) | exact missedPoll h _ _

@[simp] theorem windowEnds (h : Steady ez s0 s)  :
    Steady ez s0 (State.windowEnds s) := by
  unfold State.windowEnds
  split
  · exact finish h
  · exact exchangeOver (missedReply h _)

@[simp] theorem endServing (h : Steady ez s0 s) (link : Link) (c : StationCfg) :
    Steady ez s0 (State.endServing s link c) := by
  simp [State.endServing, h]

@[simp] theorem beginServing (h : Steady ez s0 s) (addr : Nat) :
    Steady ez s0 (State.beginServing s addr) := by
  simp [State.beginServing, h]

@[simp] theorem tellServing (h : Steady ez s0 s) (p : Nat × StationRec) : Steady ez s0 (s.tellServing p) := by
  unfold State.tellServing
  split
  · exact changeStation (endServing h _ _) _ _
  · exact beginServing h _
  · exact h
  · exact ite _ (changeStation h _ _) h

@[simp] theorem syncServing (h : Steady ez s0 s) : Steady ez s0 s.syncServing :=
  Steady.foldl (fun _ p ht => tellServing ht p) _ h

@[simp] theorem closeAndComplete (h : Steady ez s0 s) (d : Nat) :
    Steady ez s0 (State.closeAndComplete s d) := by
  unfold State.closeAndComplete
  have h1 := closing h d
  split <;> rename_i hr <;> rw [hr] at h1
  · exact h1
  · exact settle (recomputeFor (settle (settleBits (freezeReached (handOver (settleBits h1 _) _)) _)) _)

@[simp] theorem doorStatus (h : Steady ez s0 s) (d : Nat) (isOpen : Bool) (latch : Bool) :
    Steady ez s0 (State.doorStatus s d isOpen latch) := by
  unfold State.doorStatus
  split
  · exact h
  · refine ite _ (ite _ h (conclude (opening h _))) (ite _ (conclude (closeAndComplete h _)) (ite _ ?_ h))
    exact conclude (closeAndComplete (conclude (opening h _)) _)

@[simp] theorem raiseDuress (h : Steady ez s0 s) (d : Nat) (p : Option Nat) :
    Steady ez s0 (State.raiseDuress s d p) := by
  simp [State.raiseDuress, h]

@[simp] theorem doorRequest (h : Steady ez s0 s) (d : Nat) (isEntry : Bool) (cred : Nat) (m : Mode) :
    Steady ez s0 (State.doorRequest s d isEntry cred m) := by
  unfold State.doorRequest
  have h1 := resolve h cred
  cases m
  · dsimp only
    split
    · exact decideEntry h1 _ _ _ _ _
    · exact exitRequest h1 _ _ _
  · dsimp only
    have h2 := settleBits (raiseDuress h1 d (s.resolve cred).2.person?) (maskOf bitDuressOpen)
    split
    · exact decideEntry h2 _ _ _ _ _
    · exact exitRequest h2 _ _ _

@[simp] theorem fobReport (h : Steady ez s0 s) (k : Kind) (z : Nat) (cred : Nat) :
    Steady ez s0 (State.fobReport s k z cred) := by
  unfold State.fobReport
  split <;> rename_i hr
  all_goals
    have h1 := fst_of hr (resolve h cred)
    (repeat' (first | split | (dsimp only; split))) <;> first | (with_reducible exact h) | (with_reducible exact h1) | (simp (maxDischargeDepth := 40) (contextual := true) [h1])

@[simp] theorem deliverEvent (h : Steady ez s0 s) (k : StationKind) (bound : Nat) (e : Event) :
    Steady ez s0 (State.deliverEvent k bound s e) := by
  unfold State.deliverEvent
  split
  iterate 2
    split
    · exact h
    · exact conclude (doorRequest h _ _ _ _)
  · exact conclude (exitRequest h _ _ _)
  · split
    · exact h
    · exact conclude (checkIn h _ _)
  iterate 2
    split
    · exact h
    · exact conclude (fobReport h _ _ _)
  · exact h

@[simp] theorem judged (h : Steady ez s0 s) (addr : Nat) (st : StationRec) (n : Nat) :
    Steady ez s0 (State.judged s addr st n) := by
  unfold State.judged
  have h1 := putStation h addr { st with link := .answering, missed := 0, lastReport := some n }
  dsimp only
  split
  · exact h1
  · exact endAlarm h1 _ _

@[simp] theorem deliverStatus (h : Steady ez s0 s) (st : StationRec) (r : Report) (image : Option Outputs) (accepted : Bool) :
    Steady ez s0 (State.deliverStatus s st r image accepted) := by
  unfold State.deliverStatus
  split
  · rename_i isOpen latch _ _
    dsimp only
    have h1 : Steady ez s0 (if s.takesReturn st = true then (s.doorReturn st.cfg.bound isOpen (latch && accepted)).conclude else s) :=
      ite _ (conclude (doorReturn h _ _ _)) h
    generalize (if s.takesReturn st = true then (s.doorReturn st.cfg.bound isOpen (latch && accepted)).conclude else s) = t at h1 ⊢
    have h3 : ∀ m : Option Outputs, Steady ez s0 (match m with
      | some o => if strikeIn o = true then t.strikeEcho st.cfg.bound else t
      | none => t) := by
      intro m
      cases m
      · exact h1
      · exact ite _ (strikeEcho h1 _) h1
    exact ite _ (h3 _) (doorStatus (h3 _) _ _ _)
  · exact conclude (agentReport h _ _ _ _)
  · exact h

@[simp] theorem deliver (h : Steady ez s0 s) (addr : Nat) (st : StationRec) (r : Report) :
    Steady ez s0 (State.deliver s addr st r) := by
  unfold State.deliver
  dsimp only
  have h1 := judged h addr st r.number
  have h2 : ∀ m : Option Outputs, Steady ez s0 (match m with
      | some _ => (s.judged addr st r.number).changeStation addr (fun q => { q with echo := some r.echo })
      | none => s.judged addr st r.number) := by
    intro m
    cases m
    · exact h1
    · exact changeStation h1 _ _
  refine ite _ ?_ h1
  refine ite _ ?_ (deliverStatus (h2 _) _ _ _ _)
  exact Steady.foldl (fun t x ht => deliverEvent ht _ _ x) _ (deliverStatus (h2 _) _ _ _ _)

@[simp] theorem reply (h : Steady ez s0 s) (bytes : List Byte) :
    Steady ez s0 (State.reply s bytes) := by
  unfold State.reply
  split
  · exact finish h
  · exact exchangeOver (deliver h _ _ _)

@[simp] theorem restartLink (h : Steady ez s0 s)  :
    Steady ez s0 (State.restartLink s) := by
  unfold State.restartLink
  exact setLink h _ (fun g => Table.wf_map _ (fun _ => rfl) g)

/-! ## Checks.lean -/

@[simp] theorem markAllUnverified (h : Steady ez s0 s)  :
    Steady ez s0 (State.markAllUnverified s) := by
  unfold State.markAllUnverified
  simp_all (maxDischargeDepth := 40)

@[simp] theorem raiseClockUnset (h : Steady ez s0 s)  :
    Steady ez s0 (State.raiseClockUnset s) := by
  simp [State.raiseClockUnset, h]

@[simp] theorem tellTable (h : Steady ez s0 s) (t : Tbl) (ks : List Nat) : Steady ez s0 (s.tellTable t ks) :=
  Steady.foldl (fun _ _ hu => raiseSuspect hu _ _) _ h

@[simp] theorem tellOcc (h : Steady ez s0 s) (p : Nat × OccRec) : Steady ez s0 (s.tellOcc p) :=
  ite _ (markUnverified (raiseSuspect h _ _) _) (markAllUnverified (raiseSuspect h _ _))

/-- The owners are told of what failed. -/
theorem tellFailed (h : Steady ez s0 s) (before : State) : Steady ez s0 (s.tellFailed before) := by
  unfold State.tellFailed
  dsimp only
  refine ite _ ?_ (evaluateAllHours (raiseClockUnset ?_))
  all_goals
    refine syncServing (tellTable (ite _ ?_ (raiseSuspect ?_ _ _)) _ _)
    all_goals
      refine tellTable (tellTable (tellTable (Steady.foldl (fun _ p hu => tellOcc hu p) _ ?_) _ _) _ _) _ _
      exact tellTable (tellTable (tellTable h _ _) _ _) _ _


/-! ## PersonTable.lean -/

@[simp] theorem storePerson (h : Steady ez s0 s) (k : Nat) (c : PersonCfg) (wasSuspect : Bool) :
    Steady ez s0 (State.storePerson s k c wasSuspect) := by
  simp (maxDischargeDepth := 40) [State.storePerson, h]

@[simp] theorem readRivals (h : Steady ez s0 s) (k cred : Nat) : Steady ez s0 (s.readRivals k cred) :=
  testPersons h _

@[simp] theorem lookupCredential (h : Steady ez s0 s) (cred : Nat) :
    Steady ez s0 (State.lookupCredential s cred).1 := by
  unfold State.lookupCredential
  split <;> rename_i hr <;> have h1 := fst_of hr (resolve h _)
  · exact h1
  · exact h1
  · split <;> exact h1

@[simp] theorem lookupPerson (h : Steady ez s0 s) (r : Req) :
    Steady ez s0 (State.lookupPerson s r).1 := by
  unfold State.lookupPerson
  (repeat' split) <;> simp [h]

@[simp] theorem listPerson (h : Steady ez s0 s) (r : Req) :
    Steady ez s0 (State.listPerson s r).1 := by
  unfold State.listPerson
  (repeat' split) <;> simp [h]

@[simp] theorem insertPerson (h : Steady ez s0 s) (r : Req) :
    Steady ez s0 (State.insertPerson s r).1 := by
  unfold State.insertPerson
  dsimp only
  (repeat' split) <;> simp (maxDischargeDepth := 40) [h]

@[simp] theorem amendPerson (h : Steady ez s0 s) (r : Req) :
    Steady ez s0 (State.amendPerson s r).1 := by
  unfold State.amendPerson
  dsimp only
  (repeat' split) <;> simp (maxDischargeDepth := 40) [h]

@[simp] theorem dropPerson (h : Steady ez s0 s) (k : Nat) :
    Steady ez s0 (State.dropPerson s k) := by
  unfold State.dropPerson
  dsimp only
  have h1 := Steady.foldl (fun t x ht => dropGrant ht x) (s.grantList k) h
  exact withdraw (withdraw (setAdm h1 { ((s.grantList k).foldl (fun s n => s.dropGrant n) s).adm with
    persons := ((s.grantList k).foldl (fun s n => s.dropGrant n) s).adm.persons.del k } (fun g => Table.wf_del _ g) id) _) _

@[simp] theorem retirePerson (h : Steady ez s0 s) (r : Req) :
    Steady ez s0 (State.retirePerson s r).1 := by
  unfold State.retirePerson
  (repeat' split) <;> simp [h]

@[simp] theorem storeGrant (h : Steady ez s0 s) (k : Nat) (c : GrantCfg) (wasSuspect : Bool) :
    Steady ez s0 (State.storeGrant s k c wasSuspect) := by
  simp (maxDischargeDepth := 40) [State.storeGrant, h]

@[simp] theorem lookupGrant (h : Steady ez s0 s) (r : Req) :
    Steady ez s0 (State.lookupGrant s r).1 := by
  unfold State.lookupGrant
  split <;> simp [h]

@[simp] theorem nextGrant (h : Steady ez s0 s) (t : Table GrantRec) (c : Option Nat) :
    Steady ez s0 (State.nextGrant s t c).1 := by
  unfold State.nextGrant
  split <;> simp [h]

@[simp] theorem listGrant (h : Steady ez s0 s) (r : Req) :
    Steady ez s0 (State.listGrant s r).1 := by
  unfold State.listGrant
  (repeat' split) <;> simp [h]

@[simp] theorem insertGrant (h : Steady ez s0 s) (r : Req) :
    Steady ez s0 (State.insertGrant s r).1 := by
  unfold State.insertGrant
  dsimp only
  (repeat' split) <;> simp (maxDischargeDepth := 40) [h]

@[simp] theorem amendGrant (h : Steady ez s0 s) (r : Req) :
    Steady ez s0 (State.amendGrant s r).1 := by
  unfold State.amendGrant
  dsimp only
  (repeat' split) <;> simp (maxDischargeDepth := 40) [h]

@[simp] theorem retireGrant (h : Steady ez s0 s) (r : Req) :
    Steady ez s0 (State.retireGrant s r).1 := by
  unfold State.retireGrant
  (repeat' split) <;> simp [h]

/-! ## ZoneTable.lean -/

@[simp] theorem lookupZone (h : Steady ez s0 s) (r : Req) :
    Steady ez s0 (State.lookupZone s r).1 := by
  unfold State.lookupZone
  split <;> simp [h]

@[simp] theorem listZone (h : Steady ez s0 s) (r : Req) :
    Steady ez s0 (State.listZone s r).1 := by
  unfold State.listZone
  (repeat' split) <;> simp [h]

theorem storeZone (h : Steady ez s0 s) (k : Nat) (old : ZoneRec) (c : ZoneCfg) (fs : List Field)
    (hk : s.zone? k = some old) : Steady ez s0 (State.storeZone s k old c fs) := by
  have h1 := putZone_same h hk (r := { old with cfg := c, suspect := false, orphan := false, checkOk := true }) rfl
  unfold State.storeZone
  have h2 := ite (old.suspect = true) (endSuspect h1 .zone k) h1
  exact ite _ (evaluateHours h2 _) h2

@[simp] theorem makeZone (h : Steady ez s0 s) (k : Nat) (c : ZoneCfg) (clamped : Bool) :
    Steady ez s0 (State.makeZone s k c clamped).1 := by
  unfold State.makeZone
  refine iteFst _ h (iteFst _ h (iteFst _ h (iteFst _ h ?_)))
  exact raise (putZone h _ _ (fun hv => by simp [State.freshZone] at hv)) _ _ _ _

@[simp] theorem insertZone (h : Steady ez s0 s) (r : Req) :
    Steady ez s0 (State.insertZone s r).1 := by
  unfold State.insertZone
  split
  · exact h
  · dsimp only
    refine iteFst _ h ?_
    split
    · exact h
    · refine iteFst _ h ?_
      split
      · exact makeZone h _ _ _
      · rename_i hz
        split
        · exact h
        · exact storeZone h _ _ _ _ hz

@[simp] theorem amendZone (h : Steady ez s0 s) (r : Req) :
    Steady ez s0 (State.amendZone s r).1 := by
  unfold State.amendZone
  split
  · exact h
  · split
    · exact h
    · rename_i hz
      refine iteFst _ h ?_
      split
      · exact h
      · split
        · exact h
        · exact storeZone h _ _ _ _ hz

@[simp] theorem dropZone (h : Steady ez s0 s) (k : Nat) (q : ZoneRec) :
    Steady ez s0 (State.dropZone s k q) := by
  unfold State.dropZone
  have h1 := withdraw (setOcc h { s.occ with zones := s.occ.zones.del k } (fun g => Table.wf_del _ g) id (VerifiedFrom.del _ _)) (.zone k)
  exact ite _ (endSuspect h1 _ _) h1

@[simp] theorem retireZone (h : Steady ez s0 s) (r : Req) :
    Steady ez s0 (State.retireZone s r).1 := by
  unfold State.retireZone
  (repeat' split) <;> simp [h]

/-! ## DoorTable.lean -/

@[simp] theorem setPartner (h : Steady ez s0 s) (d : Nat) (o : Option Nat) :
    Steady ez s0 (State.setPartner s d o) := by
  simp [State.setPartner, h]

@[simp] theorem dissolve (h : Steady ez s0 s) (d : Nat) (old : Option Nat) :
    Steady ez s0 (State.dissolve s d old) := by
  unfold State.dissolve
  (repeat' split) <;> simp [h]

@[simp] theorem repair (h : Steady ez s0 s) (d : Nat) (old : Option Nat) (new : Option Nat) :
    Steady ez s0 (State.repair s d old new) := by
  unfold State.repair
  (repeat' split) <;> simp (maxDischargeDepth := 40) [h]

@[simp] theorem storeDoor (h : Steady ez s0 s) (d : Nat) (old : DoorRec) (c : DoorCfg) :
    Steady ez s0 (State.storeDoor s d old c) := by
  simp (maxDischargeDepth := 40) [State.storeDoor, h]

@[simp] theorem lookupDoor (h : Steady ez s0 s) (r : Req) :
    Steady ez s0 (State.lookupDoor s r).1 := by
  unfold State.lookupDoor
  split <;> simp [h]

@[simp] theorem listDoor (h : Steady ez s0 s) (r : Req) :
    Steady ez s0 (State.listDoor s r).1 := by
  unfold State.listDoor
  (repeat' split) <;> simp [h]

@[simp] theorem makeDoor (h : Steady ez s0 s) (k : Nat) (c : DoorCfg) :
    Steady ez s0 (State.makeDoor s k c).1 := by
  unfold State.makeDoor
  (repeat' split) <;> simp (maxDischargeDepth := 40) [h]

@[simp] theorem insertDoor (h : Steady ez s0 s) (r : Req) :
    Steady ez s0 (State.insertDoor s r).1 := by
  unfold State.insertDoor
  dsimp only
  (repeat' split) <;> simp (maxDischargeDepth := 40) [h]

@[simp] theorem amendDoor (h : Steady ez s0 s) (r : Req) :
    Steady ez s0 (State.amendDoor s r).1 := by
  unfold State.amendDoor
  (repeat' split) <;> simp [h]

@[simp] theorem dropDoor (h : Steady ez s0 s) (k : Nat) (q : DoorRec) :
    Steady ez s0 (State.dropDoor s k q) := by
  unfold State.dropDoor
  have h1 := setDoor h { s.door with doors := s.door.doors.del k } (fun g => Table.wf_del _ g)
  have h2 := withdraw (setAdm h1 { (s.setDoor { s.door with doors := s.door.doors.del k }).adm with
    waits := s.adm.waits.filter (fun e => e.door != k) } id id) (.door k)
  exact ite _ (endSuspect h2 _ _) h2

@[simp] theorem retireDoor (h : Steady ez s0 s) (r : Req) :
    Steady ez s0 (State.retireDoor s r).1 := by
  unfold State.retireDoor
  (repeat' split) <;> simp [h]

@[simp] theorem lookupClass (h : Steady ez s0 s) (r : Req) :
    Steady ez s0 (State.lookupClass s r).1 := by
  unfold State.lookupClass
  split <;> simp [h]

@[simp] theorem listClass (h : Steady ez s0 s) (r : Req) :
    Steady ez s0 (State.listClass s r).1 := by
  unfold State.listClass
  (repeat' split) <;> simp [h]

@[simp] theorem amendClass (h : Steady ez s0 s) (r : Req) :
    Steady ez s0 (State.amendClass s r).1 := by
  unfold State.amendClass
  dsimp only
  (repeat' split) <;> simp (maxDischargeDepth := 40) [h]

/-! ## OccTable.lean -/

@[simp] theorem lookupOcc (h : Steady ez s0 s) (r : Req) :
    Steady ez s0 (State.lookupOcc s r).1 := by
  unfold State.lookupOcc
  (repeat' split) <;> simp [h]

@[simp] theorem listOcc (h : Steady ez s0 s) (r : Req) :
    Steady ez s0 (State.listOcc s r).1 := by
  unfold State.listOcc
  (repeat' split) <;> simp [h]

@[simp] theorem pairEvaluateSince (h : Steady ez s0 s) (before : State) :
    Steady ez s0 (State.pairEvaluateSince s before) := by
  unfold State.pairEvaluateSince
  simp_all (maxDischargeDepth := 40)

theorem storeOcc (h : Steady ez s0 s) (slot : Nat) (rewrite : Bool) (r : OccRec)
    (hn : ∀ j y, (j, y) ∈ s.occ.recs → j ≠ slot → y.sound = true → y.person ≠ r.person) :
    Steady ez s0 (s.storeOcc slot rewrite r) := by
  unfold State.storeOcc
  have h1 := putOcc_new h slot hn
  exact pairEvaluateSince (ite _ (endSuspect h1 _ _) h1) _

theorem insertSlot_spec {slot : Option Nat} {p i : Nat} {b : Bool} (e : s.insertSlot slot p = .ok (i, b)) :
    ∀ j y, (j, y) ∈ s.occ.recs → j ≠ i → y.person ≠ p := by
  intro j y hj hne hp
  unfold State.insertSlot at e
  dsimp only at e
  have key : ∀ k, s.occ? k = none → j ≠ k := by
    intro k hk hjk
    subst hjk
    obtain ⟨w, hw⟩ : ∃ w, s.occ.recs.find j = some w := by
      clear e hk hne
      revert hj
      generalize s.occ.recs = t
      intro hj
      induction t with
      | nil => simp at hj
      | cons q t ih =>
        obtain ⟨k', v⟩ := q
        rw [Table.find_cons]
        by_cases hjk : j = k'
        · simp [hjk]
        · simp only [hjk, if_false]
          refine ih ?_
          rcases List.mem_cons.1 hj with h | h
          · cases h; exact absurd rfl hjk
          · exact h
    simp [State.occ?, hw] at hk
  generalize hg : slot.bind s.occ? = given at e
  by_cases hany : (s.occ.recs.any (fun q => q.2.person = p && some q.1 != slot)) = true
  · cases given <;> simp [hany] at e
  · have hs : some j = slot := by
      by_contra hc
      refine hany (List.any_eq_true.2 ⟨(j, y), hj, ?_⟩)
      simp [hp, hc]
    subst hs
    cases ho : s.occ? j with
    | none => exact key j ho rfl
    | some q =>
      simp only [Option.bind_some, ho] at hg
      subst hg
      simp only [hany] at e
      (repeat' split at e) <;> simp_all

/-- What a supervisor's change of the records ends with: the agents settle and the deadlines are recomputed. -/
theorem settleFor {α : Type} (h : Steady ez s0 s) (zs : List Nat) (x : α) :
    Steady ez s0 ((s.settle).recomputeFor zs, x).1 := by
  have h1 := settle h
  generalize s.settle = t at *
  exact recomputeFor h1 zs

@[simp] theorem insertOcc (h : Steady ez s0 s) (r : Req) : Steady ez s0 (s.insertOcc r).1 := by
  unfold State.insertOcc
  split
  · split
    · exact h
    · split
      · exact h
      · refine iteFst _ h ?_
        refine iteFst _ h ?_
        split
        · exact h
        · rename_i e
          refine settleFor (storeOcc h _ _ _ ?_) _ _
          intro j y hj hne _
          exact insertSlot_spec e j y hj hne
  · exact h

theorem extendDwell (h : Steady ez s0 s) (k : Nat) (q : OccRec) (t : Nat) (hq : s.occ? k = some q) :
    Steady ez s0 (s.extendDwell k q t) := by
  unfold State.extendDwell
  refine endAlarm (putOcc_same h hq ?_ ?_) _ _ <;> simp [OccRec.sound]

@[simp] theorem amendDwell (h : Steady ez s0 s) (k : Nat) (q : OccRec) (v : List Byte) (hq : s.occ? k = some q) :
    Steady ez s0 (State.amendDwell s k q v).1 := by
  unfold State.amendDwell
  (repeat' split) <;> first | (with_reducible exact h) | exact extendDwell h _ _ _ hq

@[simp] theorem amendOcc (h : Steady ez s0 s) (r : Req) :
    Steady ez s0 (State.amendOcc s r).1 := by
  unfold State.amendOcc
  split
  · exact h
  · refine iteFst _ h ?_
    split
    · refine iteFst _ ?_ h
      split
      · exact h
      · rename_i q hq
        exact amendDwell h _ _ _ hq
    · exact h

@[simp] theorem retireOcc (h : Steady ez s0 s) (r : Req) :
    Steady ez s0 (State.retireOcc s r).1 := by
  unfold State.retireOcc
  split
  · exact h
  · split
    · exact h
    · rename_i k _ _ q _
      refine iteFst _ h ?_
      have h1 := pairEvaluateSince (retireRecord h k q) s
      exact settleFor h1 _ _

/-- A sweep's fold over persons of whom no sound record stands. -/
theorem sweepFold (z : Nat) (ps : List Nat) (hd : ps.Nodup) (h : Steady ez s0 s)
    (hn : ∀ p ∈ ps, ∀ j y, (j, y) ∈ s.occ.recs → y.sound = true → y.person ≠ p) :
    Steady ez s0 (ps.foldl (State.sweepOne z) s) := by
  induction ps generalizing s with
  | nil => exact h
  | cons p ps ih =>
    rw [List.nodup_cons] at hd
    have hp := hn p (by simp)
    have hps := fun q hq => hn q (List.mem_cons_of_mem _ hq)
    refine ih hd.2 ?_ ?_
    · unfold State.sweepOne
      split
      · exact h
      · exact putOcc_new h _ (fun j y hj _ hy => hp j y hj hy)
    · intro q hq j y hj hy
      unfold State.sweepOne at hj
      split at hj
      · exact hps q hq j y hj hy
      · rcases AlarmsGood.mem_put hj with ⟨_, rfl⟩ | hj
        · intro e; subst e; exact hd.1 hq
        · exact hps q hq j y hj hy

theorem verify (h : Steady ez s0 s) (z : Nat) (he : ez = some z) : Steady ez s0 (State.verify s z) :=
  endAlarm (changeZone h _ _ (.inl he)) _ _

theorem mem_retireFold {l : List (Nat × OccRec)} {j : Nat} {y : OccRec}
    (hj : (j, y) ∈ (l.foldl (fun s q => s.retireRecord q.1 q.2) s).occ.recs) :
    (j, y) ∈ s.occ.recs ∧ ∀ q ∈ l, q.1 ≠ j := by
  induction l generalizing s with
  | nil => exact ⟨hj, by simp⟩
  | cons q l ih =>
    obtain ⟨h1, h2⟩ := ih hj
    have h3 : (j, y) ∈ (s.delOcc q.1).occ.recs := by
      revert h1; unfold State.retireRecord; dsimp only; split <;> exact id
    have h4 := List.mem_filter.1 h3
    refine ⟨h4.1, ?_⟩
    intro q' hq'
    rcases List.mem_cons.1 hq' with rfl | hq'
    · have := h4.2; simp only [bne_iff_ne, ne_eq] at this; exact fun e => this e.symm
    · exact h2 q' hq'

theorem sweepZone (h : Steady ez s0 s) (z : Nat) (hz : ez = some z) (ps : List Nat) (hd : ps.Nodup)
    (he : ∀ p ∈ ps, s.recordedElsewhere z p = false) : Steady ez s0 (s.sweepZone z ps) := by
  unfold State.sweepZone
  refine pairEvaluate (verify (sweepFold z _ (hd.filter _) (Steady.foldl (fun t x ht => retireRecord ht _ _) _ h) ?_) _ hz) _ _
  intro p hp j y hj hy hpy
  obtain ⟨h1, h2⟩ := mem_retireFold hj
  have h3 := List.mem_filter.1 hp
  have h4 := he p h3.1
  unfold State.recordedElsewhere at h4
  rw [List.any_eq_false] at h4
  have h5 := h4 (j, y) h1
  have h6 := h3.2
  rw [Bool.not_eq_true', List.any_eq_false] at h6
  have h7 := h6 (j, y) h1
  simp only [hpy, decide_true, Bool.true_and, bne_iff_ne, ne_eq, not_not] at h5
  rw [OccRec.sound, Bool.and_eq_true, Bool.not_eq_true'] at hy
  simp [hpy, h5, hy.1] at h7

theorem sweepTests (h : Steady ez s0 s) (z : Nat) (hez : ez = some z) (ps : List Nat) (hd : ps.Nodup) :
    Steady ez s0 (s.sweepTests z ps).1 := by
  unfold State.sweepTests
  split
  · exact h
  · split
    · exact h
    · rename_i he
      refine iteFst _ h ?_
      have hz := settle (sweepZone h z hez ps hd (fun p hp => by simpa using List.find?_eq_none.1 he p hp))
      dsimp only
      split
      · exact hz
      · exact recompute hz _

theorem sweepList_nodup {v : List Byte} {ps : List Nat} (e : State.sweepList v = some ps) : ps.Nodup := by
  unfold State.sweepList at e
  split at e
  · cases e
  · dsimp only at e
    split at e
    · rename_i hc; cases e; exact hc.2.2
    · cases e

/-- A sweep verifies only the zone that its key names (R91). -/
theorem sweepClear (h : Steady ez s0 s) (r : Req) (he : ez = keyIn 1 1 31 r) : Steady ez s0 (State.sweepClear s r).1 := by
  unfold State.sweepClear
  split
  · rename_i hk _
    split
    · exact h
    · rename_i hps
      refine iteFst _ ?_ h
      split
      · exact h
      · refine iteFst _ h ?_
        exact iteFst _ h (sweepTests h _ (he.trans hk) _ (sweepList_nodup hps))
  · exact h

/-! ## AgentTable.lean -/

@[simp] theorem unconfigure (h : Steady ez s0 s) (a : Nat) :
    Steady ez s0 (State.unconfigure s a) := by
  simp [State.unconfigure, h]

@[simp] theorem configure (h : Steady ez s0 s) (a : Nat) :
    Steady ez s0 (State.configure s a) := by
  simp (maxDischargeDepth := 40) [State.configure, h]

@[simp] theorem topChanged (h : Steady ez s0 s) (a : Nat) :
    Steady ez s0 (State.topChanged s a) := by
  simp (maxDischargeDepth := 40) [State.topChanged, h]

@[simp] theorem storeAgent (h : Steady ez s0 s) (a : Nat) (c : AgentCfg) :
    Steady ez s0 (State.storeAgent s a c) := by
  simp (maxDischargeDepth := 40) [State.storeAgent, h]

@[simp] theorem lookupAgent (h : Steady ez s0 s) (r : Req) :
    Steady ez s0 (State.lookupAgent s r).1 := by
  unfold State.lookupAgent
  split <;> simp [h]

@[simp] theorem listAgent (h : Steady ez s0 s) (r : Req) :
    Steady ez s0 (State.listAgent s r).1 := by
  unfold State.listAgent
  (repeat' split) <;> simp [h]

@[simp] theorem amendAgent (h : Steady ez s0 s) (r : Req) :
    Steady ez s0 (State.amendAgent s r).1 := by
  unfold State.amendAgent
  dsimp only
  (repeat' split) <;> simp (maxDischargeDepth := 40) [h]

@[simp] theorem storeLogic (h : Steady ez s0 s) (a : Nat) (c : LogicCfg) (wasSuspect : Bool) :
    Steady ez s0 (State.storeLogic s a c wasSuspect) := by
  simp (maxDischargeDepth := 40) [State.storeLogic, h]

@[simp] theorem lookupLogic (h : Steady ez s0 s) (r : Req) :
    Steady ez s0 (State.lookupLogic s r).1 := by
  unfold State.lookupLogic
  split <;> simp [h]

@[simp] theorem listLogic (h : Steady ez s0 s) (r : Req) :
    Steady ez s0 (State.listLogic s r).1 := by
  unfold State.listLogic
  (repeat' split) <;> simp [h]

@[simp] theorem amendLogic (h : Steady ez s0 s) (r : Req) :
    Steady ez s0 (State.amendLogic s r).1 := by
  unfold State.amendLogic
  dsimp only
  (repeat' split) <;> simp (maxDischargeDepth := 40) [h]

/-! ## AlarmTable.lean -/

@[simp] theorem lookupRoute (h : Steady ez s0 s) (r : Req) :
    Steady ez s0 (State.lookupRoute s r).1 := by
  unfold State.lookupRoute
  split <;> simp [h]

@[simp] theorem listRoute (h : Steady ez s0 s) (r : Req) :
    Steady ez s0 (State.listRoute s r).1 := by
  unfold State.listRoute
  (repeat' split) <;> simp [h]

@[simp] theorem amendLimit (h : Steady ez s0 s) (r : Req) :
    Steady ez s0 (State.amendLimit s r).1 := by
  unfold State.amendLimit
  refine iteFst _ h ?_
  split
  · exact h
  · split
    · exact h
    · rename_i n _
      have h1 := setAlm h { s.alm with limit := n, limitSuspect := false, limitOk := true } id
      exact iteFst _ (ite _ (endSuspect h1 _ _) h1) h
  · exact h

@[simp] theorem amendEntry (h : Steady ez s0 s) (k : Nat) (r : Req) :
    Steady ez s0 (State.amendEntry s k r).1 := by
  unfold State.amendEntry
  dsimp only
  refine iteFst _ h ?_
  split
  · exact h
  · rename_i c _
    have h1 := setAlm h { s.alm with routes := s.alm.routes.setIfInBounds k { cfg := c } } id
    exact iteFst _ h (ite _ (endSuspect h1 _ _) h1)

@[simp] theorem amendRoute (h : Steady ez s0 s) (r : Req) :
    Steady ez s0 (State.amendRoute s r).1 := by
  unfold State.amendRoute
  (repeat' split) <;> simp [h]

@[simp] theorem lookupAlarm (h : Steady ez s0 s) (r : Req) :
    Steady ez s0 (State.lookupAlarm s r).1 := by
  unfold State.lookupAlarm
  split <;> simp [h]

@[simp] theorem listAlarm (h : Steady ez s0 s) (r : Req) :
    Steady ez s0 (State.listAlarm s r).1 := by
  unfold State.listAlarm
  (repeat' split) <;> simp [h]

theorem nextRecord_mem {u : AlarmUnit} {n : Nat} {a : AlarmRec} (e : u.nextRecord = some (n, a)) :
    (n, a) ∈ u.recs := by
  unfold AlarmUnit.nextRecord at e
  have key : ∀ (l : List (Nat × AlarmRec)) (b : Option (Nat × AlarmRec)) x,
      l.foldl (fun best p => if u.presentable p.2 then
        match best with
        | none => some p
        | some q => if p.2.cls < q.2.cls || (p.2.cls = q.2.cls && p.2.raisedAt < q.2.raisedAt) then some p else best
        else best) b = some x → x ∈ l ∨ b = some x := by
    intro l
    induction l with
    | nil => intro b x h; exact .inr h
    | cons p l ih =>
      intro b x h
      rcases ih _ _ h with h | h
      · exact .inl (List.mem_cons_of_mem _ h)
      · dsimp only at h
        split at h
        · split at h
          · cases h; exact .inl (by simp)
          · split at h
            · cases h; exact .inl (by simp)
            · exact .inr h
        · exact .inr h
  rcases key _ _ _ e with h | h
  · exact h
  · cases h

@[simp] theorem nextNotice (h : Steady ez s0 s) (r : Req) : Steady ez s0 (s.nextNotice r).1 := by
  unfold State.nextNotice
  refine iteFst _ h ?_
  split
  · exact h
  · rename_i hn
    exact setAlm h _ (fun g => g.put_same (nextRecord_mem hn) rfl rfl)

@[simp] theorem tellDoor (h : Steady ez s0 s) (r : AlarmRec) :
    Steady ez s0 (State.tellDoor s r) := by
  unfold State.tellDoor
  split <;> simp [h]

theorem acknowledged_good {u : AlarmUnit} {n : Nat} {a : AlarmRec} (hm : u.recs.find n = some a)
    (g : AlarmsGood u.recs) : AlarmsGood (State.acknowledged u n a).recs := by
  unfold State.acknowledged
  split
  · exact AlarmUnit.remove_good _ g
  · exact g.put_same (Table.mem_of_find hm) rfl rfl

theorem tellDoor_alm (s : State) (a : AlarmRec) : (s.tellDoor a).alm = s.alm := by
  unfold State.tellDoor
  split <;> rfl

@[simp] theorem acknowledge (h : Steady ez s0 s) (r : Req) : Steady ez s0 (s.acknowledge r).1 := by
  unfold State.acknowledge
  split
  · exact h
  · split
    · exact h
    · rename_i hm
      refine iteFst _ h ?_
      exact setAlm (tellDoor h _) _ (fun g => acknowledged_good hm (tellDoor_alm s _ ▸ g))

@[simp] theorem restore (h : Steady ez s0 s) (r : Req) :
    Steady ez s0 (State.restore s r).1 := by
  unfold State.restore
  split
  · exact h
  · split
    · exact h
    · rename_i hm
      refine iteFst _ h ?_
      exact iteFst _ h (setAlm h _ (fun g => AlarmUnit.endRecord_good (Table.mem_of_find hm) g))

@[simp] theorem setMask (h : Steady ez s0 s) (r : Req) :
    Steady ez s0 (State.setMask s r).1 := by
  unfold State.setMask
  refine iteFst _ ?_ h
  split
  · exact h
  · exact setAlm h _ id

@[simp] theorem restartAlarmUnit (h : Steady ez s0 s)  :
    Steady ez s0 (State.restartAlarmUnit s) := by
  unfold State.restartAlarmUnit
  refine setAlm h _ (fun g => g.map State.restartedAlarm ?_ ?_) <;> intro r <;> unfold State.restartedAlarm <;> split <;> rfl

/-! ## StationTable.lean -/

@[simp] theorem lookupStation (h : Steady ez s0 s) (r : Req) :
    Steady ez s0 (State.lookupStation s r).1 := by
  unfold State.lookupStation
  split <;> simp [h]

@[simp] theorem listStation (h : Steady ez s0 s) (r : Req) :
    Steady ez s0 (State.listStation s r).1 := by
  unfold State.listStation
  (repeat' split) <;> simp [h]

@[simp] theorem rewriteStation (h : Steady ez s0 s) (k : Nat) (old : StationRec) (c : StationCfg) :
    Steady ez s0 (State.rewriteStation s k old c) := by
  simp (maxDischargeDepth := 40) [State.rewriteStation, h]

@[simp] theorem amendTests (h : Steady ez s0 s) (k : Nat) (old : StationRec) (c : StationCfg) :
    Steady ez s0 (State.amendTests s k old c).1 := by
  unfold State.amendTests
  (repeat' split) <;> simp [h]

@[simp] theorem insertStation (h : Steady ez s0 s) (r : Req) :
    Steady ez s0 (State.insertStation s r).1 := by
  unfold State.insertStation
  dsimp only
  (repeat' split) <;> simp (maxDischargeDepth := 40) [h]

@[simp] theorem amendStation (h : Steady ez s0 s) (r : Req) :
    Steady ez s0 (State.amendStation s r).1 := by
  unfold State.amendStation
  (repeat' split) <;> simp [h]

@[simp] theorem voidExchange (h : Steady ez s0 s) (k : Nat) :
    Steady ez s0 (State.voidExchange s k) := by
  unfold State.voidExchange
  (repeat' split) <;> first | (with_reducible exact h) | exact setLink h _ id

@[simp] theorem dropStation (h : Steady ez s0 s) (k : Nat) (q : StationRec) :
    Steady ez s0 (State.dropStation s k q) := by
  unfold State.dropStation
  have h1 : Steady ez s0 (if s.serves k q = true then s.endServing q.link q.cfg else s) := ite _ (endServing h _ _) h
  dsimp only
  generalize (if s.serves k q = true then s.endServing q.link q.cfg else s) = t at h1 ⊢
  have h2 := withdraw (voidExchange (setLink h1 { t.link with
    stations := t.link.stations.del k, safetyLane := t.link.safetyLane.filter (· != k),
    doorLane := t.link.doorLane.filter (· != k) } (fun g => Table.wf_del _ g)) k) (.station k)
  exact ite _ (endSuspect h2 _ _) h2

@[simp] theorem retireStation (h : Steady ez s0 s) (r : Req) :
    Steady ez s0 (State.retireStation s r).1 := by
  unfold State.retireStation
  (repeat' split) <;> simp [h]

/-! ## Operations.lean -/

@[simp] theorem freeze (h : Steady ez s0 s) (r : Req) :
    Steady ez s0 (State.freeze s r).1 := by
  unfold State.freeze
  split
  · exact h
  · split
    · exact h
    · rename_i hz
      exact putZone_same h hz rfl

@[simp] theorem thawOne (h : Steady ez s0 s) (e : WaitEntry) :
    Steady ez s0 (State.thawOne s e) := by
  unfold State.thawOne
  have h1 := setAdm h { s.adm with waits := s.adm.waits.erase e } id id
  dsimp only
  split
  · exact conclude (decideEntry h1 _ _ _ _ _)
  · exact conclude (decideEntry (resolve h1 _) _ _ _ _ _)

theorem thawFold (l : List WaitEntry) (n : Nat) (h : Steady ez s0 s) :
    Steady ez s0 (l.foldl State.thawNext (s, n)).1 := by
  induction l generalizing s n with
  | nil => exact h
  | cons e l ih =>
    rw [List.foldl_cons, State.thawNext]
    split
    · exact ih _ (thawOne h e)
    · exact ih _ h

@[simp] theorem thaw (h : Steady ez s0 s) (r : Req) :
    Steady ez s0 (State.thaw s r).1 := by
  unfold State.thaw
  split
  · exact h
  · split
    · exact h
    · rename_i q hz
      exact thawFold _ 0 (putZone_same h hz (r := { q with freeze := .thawed }) rfl)

@[simp] theorem hoursOverride (h : Steady ez s0 s) (r : Req) :
    Steady ez s0 (State.hoursOverride s r).1 := by
  unfold State.hoursOverride
  refine iteFst _ ?_ h
  split
  · split
    · exact h
    · rename_i z o _ _ _ q hz
      refine iteFst _ h ?_
      exact evaluateHours (putZone_same h hz (r := { q with cfg := { q.cfg with override := o } }) rfl) _
  · exact h

@[simp] theorem remoteRelease (h : Steady ez s0 s) (r : Req) :
    Steady ez s0 (State.remoteRelease s r).1 := by
  unfold State.remoteRelease
  split
  · exact h
  · split
    · exact h
    · refine iteFst _ h ?_
      refine iteFst _ h ?_
      split <;> rename_i hr
      · exact decided (fst_of hr (releaseRequest h _ _)) _ _
      · exact h
      · exact h

@[simp] theorem lockout (h : Steady ez s0 s) (b : Bool) (r : Req) :
    Steady ez s0 (State.lockout b s r).1 := by
  unfold State.lockout
  (repeat' split) <;> simp [h]

@[simp] theorem isolate (h : Steady ez s0 s) (r : Req) :
    Steady ez s0 (State.isolate s r).1 := by
  unfold State.isolate
  split
  · exact h
  · rename_i a _
    split
    · exact h
    · split
      · exact h
      · dsimp only
        apply settle
        apply raiseAgent
        apply changeAgent
        exact h

@[simp] theorem deisolate (h : Steady ez s0 s) (r : Req) :
    Steady ez s0 (State.deisolate s r).1 := by
  unfold State.deisolate
  split
  · exact h
  · rename_i a _
    have h1 := reevaluate (settle (endAlarm (changeAgent h a (fun q => { q with isolated := false })) .isolated (.agent a))) a
    refine iteFst _ ?_ (iteFst _ ?_ ?_)
    · exact h
    · exact h
    · exact h1

@[simp] theorem ventAgent (h : Steady ez s0 s) (a : Nat) :
    Steady ez s0 (State.ventAgent s a) := by
  simp (maxDischargeDepth := 40) [State.ventAgent, h]

@[simp] theorem ventClear (h : Steady ez s0 s) (r : Req) :
    Steady ez s0 (State.ventClear s r).1 := by
  unfold State.ventClear
  dsimp only
  (repeat' split) <;> simp (maxDischargeDepth := 40) [h]

@[simp] theorem statusRequest (h : Steady ez s0 s) (r : Req) :
    Steady ez s0 (State.statusRequest s r).1 := by
  unfold State.statusRequest
  split <;> simp [h]

@[simp] theorem lookupIn (h : Steady ez s0 s) (t : Tbl) (r : Req) :
    Steady ez s0 (State.lookupIn t s r).1 := by
  unfold State.lookupIn
  split <;> simp [h]

@[simp] theorem listIn (h : Steady ez s0 s) (t : Tbl) (r : Req) :
    Steady ez s0 (State.listIn t s r).1 := by
  unfold State.listIn
  split <;> simp [h]

@[simp] theorem insertIn (h : Steady ez s0 s) (t : Tbl) (r : Req) :
    Steady ez s0 (State.insertIn t s r).1 := by
  unfold State.insertIn
  split <;> simp [h]

@[simp] theorem amendIn (h : Steady ez s0 s) (t : Tbl) (r : Req) :
    Steady ez s0 (State.amendIn t s r).1 := by
  unfold State.amendIn
  split <;> simp [h]

@[simp] theorem retireIn (h : Steady ez s0 s) (t : Tbl) (r : Req) :
    Steady ez s0 (State.retireIn t s r).1 := by
  unfold State.retireIn
  split <;> simp [h]

end Sys2Proof.Machine.Steady
end

