-- ==== Sys2Proof/Laws/Requests.lean ====
section
/-! SUPPORT. The Host Port's operations: what a write transaction does to the port, what a request answers, and how the
numbers of a request read back. -/

namespace Sys2Proof.Machine

namespace State

/-- A port in IDLE or ANSWERED takes a write transaction (R168). -/
theorem takeWrite_taken {s : State} (h : s.portTakes = true) : s.takeWrite = some s.writeTaken := by
  unfold portTakes at h
  unfold takeWrite writeTaken
  cases hp : s.host.port <;> simp_all

/-- A port in BUSY or STARTING discards it (R168). -/
theorem takeWrite_none {s : State} (h : s.portTakes = false) : s.takeWrite = none := by
  unfold portTakes at h
  unfold takeWrite
  cases hp : s.host.port <;> simp_all

theorem repeatsField_false {r : Req} (h : (ids r.fields).Nodup) : repeatsField r = false := by
  simp [repeatsField, h]

/-- Tables in which everything agrees with its check value are read without effect (R181). -/
theorem readTables_intact {s : State} (h : s.intact = true) : s.readTables = s := by simp [readTables, h]

/-- Whether the items agree is no matter of the Host Port. -/
@[simp] theorem intact_setHost (s : State) (u : HostUnit) : (s.setHost u).intact = s.intact := rfl
@[simp] theorem intact_writeTaken (s : State) : s.writeTaken.intact = s.intact := rfl

/-- A part in which every item agrees is asked as the write transaction leaves it. -/
theorem asked_intact {s : State} (h : s.intact = true) : s.asked = s.writeTaken := readTables_intact (s := s.writeTaken) h

/-- A request that is only read (R170). -/
theorem serveRead_taken {s : State} {r : Req} (f : Owner) (h : s.portTakes = true) (hr : (ids r.fields).Nodup) :
    s.serveRead r f = (f s.asked r).1.respond r.tag (f s.asked r).2 := by
  simp [serveRead, takeWrite_taken h, repeatsField_false hr, asked]

/-- A request that may change records (R170). -/
theorem serveWrite_taken {s : State} {r : Req} (f : Owner) (h : s.portTakes = true) (hr : (ids r.fields).Nodup) :
    s.serveWrite r f = (followed (f s.asked r)).respond r.tag (f s.asked r).2 := by
  simp [serveWrite, takeWrite_taken h, repeatsField_false hr, asked]

/-- A request that its owner takes with OK. -/
theorem serveWrite_ok {s : State} {r : Req} {f : Owner} {t : State} {a : Answer} (h : s.portTakes = true)
    (hr : (ids r.fields).Nodup) (hf : f s.asked r = (t, a)) (ha : a.status = .ok) :
    s.serveWrite r f = t.answeredWith r.tag a := by
  rw [serveWrite_taken f h hr, hf]
  simp [followed, ha, answeredWith]

/-- A request that its owner refuses, changing nothing. -/
theorem serveWrite_no {s : State} {r : Req} {f : Owner} {c : Status} (h : s.portTakes = true)
    (hr : (ids r.fields).Nodup) (hf : f s.asked r = (s.asked, refusedWith c)) (hc : c ≠ .ok) :
    s.serveWrite r f = s.asked.answeredNo r.tag c := by
  rw [serveWrite_taken f h hr, hf]
  simp [followed, refusedWith, hc, answeredNo]

/-- A request that its owner takes with OK and fields. -/
theorem serveWrite_okWith {s : State} {r : Req} {f : Owner} {t : State} {fs : List Field} (h : s.portTakes = true)
    (hr : (ids r.fields).Nodup) (hf : f s.asked r = (t, okWith fs)) :
    s.serveWrite r f = t.answeredOk r.tag fs := serveWrite_ok h hr hf rfl

/-- A request with no field repeats none. -/
theorem ids_nil : (ids ([] : List Field)).Nodup := List.nodup_nil

/-- A request with one field repeats none. -/
theorem ids_one (f : Field) : (ids [f]).Nodup := by simp [ids]

/-- A table named by its code is found again (R184). -/
@[simp] theorem tableOf_code (t : Tbl) : tableOf (BitVec.ofNat 8 (tblCode t)) = some t := by cases t <;> rfl

/-! ## A part with no agent has nothing to settle -/

theorem readGate_noAgents {s : State} (h : s.NoAgents) (a : Nat) : s.readGate a = s := by
  simp [readGate, testGate, h a]

/-- A mask of no bits takes nothing new. -/
theorem blend_zero (old new : BitVec 32) : blend old new 0#32 = old := by
  have h : ~~~(0#32) = BitVec.allOnes 32 := by decide
  simp only [blend, h, BitVec.and_allOnes, BitVec.and_zero, BitVec.or_zero]

theorem rereadAgent_noAgents {s : State} (h : s.NoAgents) (m : BitVec 32) (a : Nat) : rereadAgent m s a = s := by
  have hm : m &&& s.followedMask a = 0#32 := by simp [followedMask, h a]
  simp [rereadAgent, hm, blend_zero]

theorem settleRound_noAgents {s : State} (h : s.NoAgents) (m : BitVec 32) : settleRound m s = s := by
  have h1 : ∀ l : List Nat, l.foldl (fun s a => rereadAgent m s a) s = s := by
    intro l; induction l with
    | nil => rfl
    | cons a l ih => simp only [List.foldl_cons, rereadAgent_noAgents h, ih]
  have h2 : ∀ l : List Nat, l.foldl (fun s a => s.readGate a) s = s := by
    intro l; induction l with
    | nil => rfl
    | cons a l ih => simp only [List.foldl_cons, readGate_noAgents h, ih]
  unfold settleRound
  rw [h1, h2]

theorem settleLoop_noAgents {s : State} (h : s.NoAgents) (n : Nat) (m : BitVec 32) : settleLoop (n + 1) m s = s := by
  unfold settleLoop
  simp [settleRound_noAgents h]

/-- With no agent configured, nothing settles (R107, R114). -/
theorem settle_noAgents {s : State} (h : s.NoAgents) : s.settle = s := settleLoop_noAgents h 31 derivedMask

end State

/-! ## Numbers of a request -/

/-- One byte holds its number. -/
theorem num_byte {k : Nat} (h : k < 256) : num 1 (toBE 1 k) = some k := by
  simp [num, toBE, ofBE, BitVec.toNat_ofNat, Nat.mod_eq_of_lt h]

theorem numIn_byte {lo hi k : Nat} (hl : lo ≤ k) (hh : k ≤ hi) (h : hi < 256) : numIn 1 lo hi (toBE 1 k) = some k := by
  simp [numIn, num_byte (Nat.lt_of_le_of_lt hh h), hl, hh]

/-- Two bytes hold their number. -/
theorem num_two {k : Nat} (h : k < 65536) : num 2 (toBE 2 k) = some k := by
  have : k / 256 < 256 := by omega
  simp [num, toBE, ofBE, BitVec.toNat_ofNat, Nat.shiftRight_eq_div_pow]
  omega

theorem numIn_two {lo hi k : Nat} (hl : lo ≤ k) (hh : k ≤ hi) (h : hi < 65536) : numIn 2 lo hi (toBE 2 k) = some k := by
  simp [numIn, num_two (Nat.lt_of_le_of_lt hh h), hl, hh]

/-- Four bytes hold their number. -/
theorem num_four {k : Nat} (h : k < 4294967296) : num 4 (toBE 4 k) = some k := by
  simp [num, toBE, ofBE, BitVec.toNat_ofNat, Nat.shiftRight_eq_div_pow]
  omega

theorem numIn_four {lo hi k : Nat} (hl : lo ≤ k) (hh : k ≤ hi) (h : hi < 4294967296) :
    numIn 4 lo hi (toBE 4 k) = some k := by
  simp [numIn, num_four (Nat.lt_of_le_of_lt hh h), hl, hh]

/-- The key of an operational request reads back. -/
theorem opKey_keyReq {tag : Byte} {lo hi k : Nat} (hl : lo ≤ k) (hh : k ≤ hi) (h : hi < 256) :
    State.opKey lo hi (keyReq tag k) = some k := by
  simp [State.opKey, keyReq, keyAlone, keyIn, numIn_byte hl hh h]

end Sys2Proof.Machine
end

