-- ==== Sys2Proof/Laws/Starts.lean ====
section
/-! SUPPORT. The parts of a warm restart that leave the clock and the Host Port alone are steady. -/

namespace Sys2Proof.Machine.Steady

variable {ez : Option Nat} {s0 s : State}

theorem restartDoors (h : Steady ez s0 s) : Steady ez s0 s.restartDoors :=
  setDoor h _ (Table.wf_map _ (fun _ => rfl))

theorem restartAdmission (h : Steady ez s0 s) : Steady ez s0 s.restartAdmission := by
  unfold State.restartAdmission
  exact setOcc (setAdm h { s.adm with waits := [] } id id) _ (Table.wf_map _ (fun _ => rfl)) id
    (VerifiedFrom.map _ (f := fun _ r => State.restartedZone r) (fun _ r hv => by unfold State.restartedZone at hv; split at hv <;> exact hv))

theorem restartOccupancy (h : Steady ez s0 s) : Steady ez s0 s.restartOccupancy := by
  unfold State.restartOccupancy
  exact takeAllDeadlines (evaluateAllHours h)

end Sys2Proof.Machine.Steady
end

