-- ==== Sys2Proof/Tests/Slice0.lean ====
section
/-! SUPPORT. Small tests. Expected values come from the rules named, worked out by hand. -/

namespace Sys2Proof.Tests.Slice0

-- Evaluating a whole step of the machine nests deeper than the default allows.
set_option maxRecDepth 20000

open Sys2Proof Sys2Proof.Machine

/-! ## Helpers -/

/-- The state after a command; the state itself where the command would stop. -/
def after (i : Instr) (s : State) : State :=
  match exec i s with
  | .next t => t
  | .fault _ => s
  | .refused _ => s

/-- The status of the response that a request leaves. -/
def status (i : Instr) (s : State) : Option Status := (after i s).host.buffer.map (fun p => p.status)

/-- The fields of that response. -/
def fields (i : Instr) (s : State) : Option (List Field) := (after i s).host.buffer.map (fun p => p.fields)

def zoneA : ZoneRec := { cfg := { parent := 0 }, hours := .after, freeze := .thawed }
def doorA : DoorRec := { cfg := { inner := 1, station := 1 }, state := .secured }
def stationA : StationRec :=
  { cfg := { kind := .door, bound := 3 }, link := .answering, desired := .door 0 .none, echo := some 0 }

/-- Zone 1 open, thawed and AFTER, with door 3 into it at station 1. -/
def site : State := ((State.reset.putZone 1 zoneA).putDoor 3 doorA).putStation 1 stationA

/-- The site with person 9 (credential 77) in it, in slot 0. -/
def siteA : State :=
  (site.putPerson 9 { cfg := { credential := 77 } }).putOcc 0
    { person := 9, zone := 1, entered := 0, zoneEntered := 0, basis := .host }

/-- The site with another door 3. -/
def withDoor (r : DoorRec) : State := site.putDoor 3 r

/-- The site at a later running second. -/
def later (s : State) (n : Nat) : State := s.setRet { s.ret with now := n }

/-- The site with the calendar set to day 0, minute 0. -/
def withClock (s : State) : State := s.setRet { s.ret with calendar := some { day := 0, minute := 0, second := 0 } }

/-- An agent with its deadline at 0. -/
def agentA : AgentRec := { cfg := { top := some 1 }, state := .countdown, deadline := some 0, t0 := some 0 }

/-- A check-in alarm of person 9 in place 0. -/
def alarmA : AlarmRec :=
  { kind := some .checkinMissed, subject := some (.person 9), raisedAt := 0, lastRaised := 0, cls := 0 }

/-! ## Well-formedness (R184, R170, 00_scope.md) -/

theorem test_wf_key_too_long : (Instr.freeze { tag := 0#8, key := List.replicate 6 0#8 }).wellFormed = false := by
  decide
theorem test_wf_value_too_long :
    (Instr.freeze { tag := 0#8, fields := [fld 1 (List.replicate 65 0#8)] }).wellFormed = false := by decide
theorem test_wf_too_many_fields :
    (Instr.freeze { tag := 0#8, fields := List.replicate 256 (fld 1 []) }).wellFormed = false := by decide
theorem test_wf_no_table : (Instr.lookup { tag := 0#8 }).wellFormed = false := by decide
theorem test_wf_unknown_table : (Instr.list { tag := 0#8, table := 12#8 }).wellFormed = false := by decide
theorem test_wf_known_frame : (Instr.unknownRequest [0x10#8, 7#8, 0#8, 1#8, 1#8, 0#8]).wellFormed = false := by decide
theorem test_wf_numbers :
    [Instr.leadExpiry 48, .exitDue 48, .dwellDeadline 256, .countdownDeadline 8].all (fun i => !i.wellFormed) = true := by
  decide
theorem test_wf_damage :
    [Damage.person 0 { credential := 1 }, .person 1 { credential := 4294967296 }, .grant 1 { person := 65536, zones := [] },
     .zone 32 { parent := 0 }, .zone 1 { parent := 32 }, .door 48 { inner := 1, station := 1 },
     .cls 0 { lead := 32 }, .occupancy 256 { person := 1, zone := 1, entered := 0, zoneEntered := 0, basis := .day },
     .agent 0 { db := 128 }, .logic 0 { alertSel := 32 }, .route 0 { cls := 4 }, .routeLimit 64, .alarm 64,
     .station 97 { kind := .door, bound := 0 }, .holdSet 4].all (fun d => !(Instr.resetLine [d]).wellFormed) = true := by
  decide
theorem test_wf_good :
    [Instr.freeze (keyReq 1#8 1), .lookup (tableReq 1#8 .zone 1 1 []), .unknownRequest [1#8], .leadExpiry 47,
     .dwellDeadline 255, .countdownDeadline 7, .resetLine [.calendar]].all Instr.wellFormed = true := by decide

/-! ## Frames (R160, R184, R186) -/

/-- The check value of the nine ASCII digits "123456789" by the polynomial, start value and order of R160. -/
theorem test_crc_digits : crc [0x31#8, 0x32#8, 0x33#8, 0x34#8, 0x35#8, 0x36#8, 0x37#8, 0x38#8, 0x39#8] = 0x29B1#16 := by
  decide
/-- FREEZE of zone 1 with tag 7: code 10H, tag, no table, one key byte, no field. -/
theorem test_frame_freeze : commandOfFrame [0x10#8, 7#8, 0#8, 1#8, 1#8, 0#8] = .freeze (keyReq 7#8 1) := by decide
/-- INSERT into table 1 of person 300 with the credential 5 in field 2. -/
theorem test_frame_insert :
    commandOfFrame [3#8, 9#8, 1#8, 2#8, 1#8, 44#8, 1#8, 2#8, 4#8, 0#8, 0#8, 0#8, 5#8] =
      .insert (tableReq 9#8 .person 2 300 [fld 2 (toBE 4 5)]) := by decide
theorem test_frame_code_unknown : commandOfFrame [99#8, 7#8, 0#8, 0#8, 0#8] = .unknownRequest [99#8, 7#8, 0#8, 0#8, 0#8] := by
  decide

/-! ## Commands: one step each -/

theorem test_lookup_unconfigured : status (.lookup (tableReq 1#8 .zone 1 1 [])) State.reset = some .notFound := by
  decide
/-- The image of a class after reset shows its reset values (R18). -/
theorem test_lookup_class_lead :
    (fields (.lookup (tableReq 1#8 .cls 1 7 [])) State.reset).map (fun fs => fs.take 3) =
      some [fldN 1 1 7, fldN 2 1 5, fldN 3 2 50] := by decide
theorem test_list_zone_zero : fields (.list { tag := 1#8, table := 4#8 }) State.reset = some [fldN 1 1 0] := by
  decide
theorem test_list_end : status (.list (tableReq 1#8 .zone 1 0 [])) State.reset = some .empty := by decide
theorem test_insert_person : (after (.insert (tableReq 1#8 .person 2 300 [fld 2 (toBE 4 5)])) State.reset).person? 300 =
    some { cfg := { credential := 5 } } := by decide
theorem test_insert_credential_taken :
    status (.insert (tableReq 1#8 .person 2 300 [fld 2 (toBE 4 77)])) siteA = some .duplicate := by decide
theorem test_amend_clamps : ((after (.amend (tableReq 1#8 .cls 1 2 [fld 3 (toBE 2 9)])) State.reset).classRec 2).cfg.strike = 10 := by
  decide
theorem test_retire_person_inside : status (.retire (tableReq 1#8 .person 2 9 [])) siteA = some .inZone := by decide
theorem test_freeze_quiet : (after (.freeze (keyReq 1#8 1)) site).zone? 1 = some { zoneA with freeze := .held } := by
  decide
theorem test_freeze_zone_zero : status (.freeze (keyReq 1#8 0)) site = some .badValue := by decide
theorem test_thaw : fields (.thaw (keyReq 1#8 1)) site = some [fldN 21 1 0, fldN 240 1 0] := by decide
theorem test_sweep_not_held :
    status (.sweepClear { tag := 1#8, key := [1#8], fields := [fld 1 []] }) site = some .notHeld := by decide
theorem test_sweep_verifies :
    ((after (.sweepClear { tag := 1#8, key := [1#8], fields := [fld 1 (toBE 2 9)] })
      (siteA.putZone 1 { zoneA with freeze := .held })).zone? 1).map (fun r => r.verified) = some true := by
  decide
theorem test_hours_override :
    fields (.hoursOverride { tag := 1#8, key := [1#8], fields := [fldN 1 1 1] }) (withClock site) = some [fldN 16 1 0] := by
  decide
theorem test_remote_release :
    ((after (.remoteRelease (keyReq 1#8 3)) site).door? 3).map (fun r => (r.state, r.indication)) =
      some (.releasing, .grant) := by decide
theorem test_lockout_on :
    ((after (.lockoutOn (keyReq 1#8 3)) site).door? 3).map (fun r => r.lockout) = some true := by decide
theorem test_lockout_off :
    ((after (.lockoutOff (keyReq 1#8 3)) (withDoor { doorA with lockout := true })).door? 3).map (fun r => r.lockout) =
      some false := by decide
theorem test_isolate_unconfigured : status (.isolate (keyReq 1#8 0)) site = some .wrongState := by decide
theorem test_isolate : ((after (.isolate (keyReq 1#8 0)) (site.putAgent 0 agentA)).agent 0).isolated = true := by
  decide
theorem test_deisolate :
    ((after (.deisolate (keyReq 1#8 0)) (site.putAgent 0 { agentA with isolated := true })).agent 0).isolated = false := by
  decide
/-- The soak time is 60 min, the reset value of R106. -/
theorem test_vent_clear_waits :
    status (.ventClear (keyReq 1#8 0))
      (later (site.putAgent 0 { agentA with state := .discharged, dischargeTime := some 0 }) 3599) = some .wrongState := by
  decide
theorem test_vent_clear_taken :
    ((after (.ventClear (keyReq 1#8 0))
      (later (site.putAgent 0 { agentA with state := .discharged, dischargeTime := some 0 }) 3600)).agent 0).state =
      .spent := by decide
theorem test_next_notice : ((after (.nextNotice (bareReq 1#8)) State.reset).alm.recs.find 0).map (fun r => r.state) =
    some .notified := by decide
theorem test_acknowledge : fields (.acknowledge (keyReq 1#8 0)) State.reset = some [fldN 9 1 2] := by decide
theorem test_restore_not_latching : status (.restore (keyReq 1#8 0)) State.reset = some .wrongState := by decide
theorem test_set_mask : (after (.setMask { tag := 1#8, fields := [fldN 1 1 10] }) State.reset).alm.mask = 10#4 := by
  decide
theorem test_set_clock : (after (.setClock { tag := 1#8, fields := [fldN 1 2 3, fldN 2 2 4, fldN 3 1 5] }) State.reset).ret.calendar =
    some { day := 3, minute := 4, second := 5 } := by decide
theorem test_set_clock_ends_unset :
    (after (.setClock { tag := 1#8, fields := [fldN 1 2 3, fldN 2 2 4, fldN 3 1 5] }) State.reset).alm.recs.find 0 =
      some { clockUnsetRecord with ended := true } := by decide
theorem test_status_standby : (fields (.status (bareReq 1#8)) State.reset).map (fun fs => fs.take 1) = some [fldN 1 1 0] := by
  decide
theorem test_commission : (after (.commission (bareReq 1#8)) State.reset).ret.active = true := by decide
theorem test_ack_restart : ((after (.ackRestart (bareReq 1#8)) State.reset).host.buffer).map (fun p => p.resetSeen) =
    some false := by decide
theorem test_restart_warm : (after (.restart (bareReq 1#8)) siteA).door? 3 = some { doorA with state := .unknown } := by
  decide
/-- REQUESTED becomes HELD at a warm restart (R81). -/
theorem test_restart_holds : ((after (.restart (bareReq 1#8)) (site.putZone 1 { zoneA with freeze := .requested })).zone? 1).map
    (fun r => r.freeze) = some .held := by
  decide
theorem test_unknown_request : status (.unknownRequest [99#8, 7#8]) State.reset = some .unknownRequest := by decide
theorem test_overrun_shown :
    ((after (.status (bareReq 1#8)) (after .hostWriteOverrun State.reset)).host.buffer).map (fun p => p.overrun) =
      some true := by decide
/-- EMPTY is status 1; with NOTICE asserted and the reset seen the flags are 2 + 4 (R169, R184). -/
theorem test_host_read_empty : (after .hostRead State.reset).host.line = [0#8, 1#8, 6#8, 0#8] := by decide
theorem test_poll_first : (after .poll site).link.exchange = some { address := 1 } := by decide
theorem test_good_report_again :
    ((after (.goodReport (writeReport 1 { number := 2, echo := 0, status := .zone, events := [] }))
      ((State.reset.putStation 1 { cfg := { kind := .zone, bound := 1 }, desired := .zone .off }).setLink
        { (State.reset.putStation 1 { cfg := { kind := .zone, bound := 1 }, desired := .zone .off }).link with
          exchange := some { address := 1 } })).station? 1).map (fun r => (r.link, r.lastReport)) =
      some (.answering, some 2) := by decide
theorem test_third_miss_is_silence :
    ((after .replyWindowExpiry ((site.putStation 1 { stationA with missed := 2 }).setLink
      { (site.putStation 1 { stationA with missed := 2 }).link with exchange := some { address := 1 } })).station? 1).map
        (fun r => r.link) = some .silent := by decide
theorem test_lead_expiry :
    ((after (.leadExpiry 3) (withDoor { doorA with state := .releasing, cycle := some { leadEnd := some 0 } })).door? 3).map
      (fun r => r.state) = some .released := by decide
theorem test_strike_timer :
    (after (.strikeTimerExpiry 3) (withDoor { doorA with state := .released, cycle := some { strikeEnd := some 0 } })).door? 3 =
      some doorA := by decide
theorem test_held_open :
    ((after (.heldOpenExpiry 3) (withDoor { doorA with state := .opened, cycle := some { heldEnd := some 0 } })).door? 3).map
      (fun r => (r.state, r.cycle.bind (fun c => c.heldEnd))) = some (.held, some 3000) := by decide
theorem test_relock_hold :
    (after (.relockHoldExpiry 3) (withDoor { doorA with state := .relocking, cycle := some { relockEnd := some 0 } })).door? 3 =
      some doorA := by decide
/-- The reset interlock wait limit is 10 s (R18). -/
theorem test_interlock_timeout :
    ((after (.interlockTimeout 3) (later (withDoor { doorA with
      state := .interlockWait, cycle := some { passages := [{ dir := .entry, arrival := 0 }] } }) 10)).door? 3).map
      (fun r => (r.state, r.decision.code)) = some (.secured, some .interlockTimeout) := by decide
theorem test_exit_due :
    ((after (.exitDue 3) (withDoor { doorA with state := .releasing, cycle := some { exitDue := some 0 } })).door? 3).map
      (fun r => r.state) = some .released := by decide
theorem test_indication_return :
    ((after (.indicationReturn 3) (withDoor { doorA with indication := .deny, indEnd := some 0 })).door? 3).map
      (fun r => r.indication) = some .none := by decide
theorem test_pair_window :
    ((after (.pairWindowExpiry 3) (later (withDoor { doorA with
      pairWait := some { person := 9, start := 0, window := 20 } }) 20)).door? 3).map (fun r => r.decision.code) =
      some (some .pairTimeout) := by decide
theorem test_wait_expired :
    (after .waitExpired (later (site.setAdm { site.adm with
      waits := [{ credential := none, door := 3, mode := .normal, arrival := 0 }] }) 8)).adm.waits = [] := by
  decide
theorem test_dwell_deadline :
    ((after (.dwellDeadline 0) (siteA.changeOcc 0 (fun r => { r with dwell := some 0 }))).occ? 0).map
      (fun r => (r.overdue, r.dwell)) = some (true, some 0) := by decide
theorem test_checkin_deadline :
    ((after (.checkinDeadline 0) (siteA.changeOcc 0 (fun r => { r with checkin := some 0 }))).occ? 0).map
      (fun r => (r.missing, r.checkin)) = some (true, none) := by decide
theorem test_pair_grace_deadline :
    ((after (.pairGraceDeadline 0) (siteA.changeOcc 0 (fun r => { r with pairGrace := some 0, alone := true }))).occ? 0).map
      (fun r => (r.alone, r.pairGrace)) = some (true, none) := by decide
/-- An occupied zone holds the release (R126). -/
theorem test_countdown_occupied : ((after (.countdownDeadline 0) (siteA.putAgent 0 agentA)).agent 0).state = .occupiedHold := by
  decide
/-- An empty zone with closed doors is released (R125). -/
theorem test_countdown_clear :
    ((after (.countdownDeadline 0) ((site.putAgent 0 agentA).changeZone 1 (fun r => { r with verified := true }))).agent
      0).flag = true := by decide
theorem test_confirmation :
    ((after (.confirmationDeadline 0) (site.putAgent 0
      { agentA with state := .discharge, echoed := true, confirmBy := some 0 })).agent 0).state = .discharged := by
  decide
/-- The last second of a week wraps, and the day number rises (R182). -/
theorem test_calendar_wraps :
    (after .calendarAdvance (State.reset.setRet { State.reset.ret with
      calendar := some { day := 6, minute := 10079, second := 59 } })).ret.calendar =
      some { day := 7, minute := 0, second := 0 } := by decide
theorem test_check_sweep :
    ((after (.recordCheckSweep []) (State.reset.putPerson 9 { cfg := { credential := 1 }, checkOk := false })).person? 9).map
      (fun r => r.suspect) = some true := by decide
theorem test_reset_line_keeps_persons : ((after (.resetLine []) siteA).person? 9).isSome = true := by decide
theorem test_supply_dip_cold : (after (.mainSupplyDip false []) siteA).door.doors = [] := by decide
theorem test_supply_restored_warm : (after (.mainSupplyRestored true []) siteA).occ.zones.keys = [1] := by
  decide
/-- Detector worked out from R110 with the reset thresholds 16, 400, 700 and hysteresis 20. -/
theorem test_detector :
    (detect {} 400 false false = { fault := false, overRange := false, alert := true, fire := false }) ∧
    (detect {} 380 true false).alert = true ∧ (detect {} 379 true false).alert = false ∧
    (detect {} 15 true true).fire = false ∧ (detect {} 1023 false false).fire = true := by decide
/-- The part has no command words (log entry 12). -/
theorem test_decode_none : decodeTableWord 16 0 = none := by decide

/-! ## Witnesses: a concrete state and operands meet the hypotheses of each statement, clause by clause and at the
ends of each range -/

/-- The port holds a response. -/
def answered : State := State.reset.setHost { State.reset.host with
  port := .answered
  buffer := some { tag := 1#8, status := .ok, overrun := false, notice := true, resetSeen := true, clamped := false,
                   fields := [] } }
def busy : State := State.reset.setHost { State.reset.host with port := .busy }
def starting : State := State.reset.setHost { State.reset.host with port := .starting }
def zoneHeldA : ZoneRec := { zoneA with freeze := .held }
/-- The site with its zone HELD and person 9 in it. -/
def heldSite : State := siteA.putZone 1 zoneHeldA
def waitA : WaitEntry := { credential := some 77, door := 3, mode := .normal, arrival := 0 }
/-- A vestibule of doors 3 and 4. -/
def pair3 : DoorRec := { cfg := { inner := 1, station := 1, partner := some 4 }, state := .secured }
def pair4 : DoorRec := { cfg := { inner := 1, station := 2, partner := some 3 }, state := .secured }
def vestibule (r q : DoorRec) : State := (site.putDoor 3 r).putDoor 4 q
def cycleA : Cycle :=
  { leadEnd := some 0, strikeEnd := some 0, heldEnd := some 0, relockEnd := some 0, exitDue := some 0 }
def entryA : Passage := { dir := .entry, person := some 9, arrival := 0 }
def exitA : Passage := { dir := .exit, person := some 9, arrival := 0 }
def grantA : GrantRec := { cfg := { person := 9, zones := [1] } }
/-- Zones 1 and 31, the ends of the range. -/
def twoZones : State := site.putZone 31 zoneA
def suspectZone : ZoneRec := { zoneA with suspect := true }
/-- The port takes a write and nothing fails its check value, so that a request finds the part as it is. -/
def ready (s : State) : Bool := s.portTakes && s.intact && s.asked.intact

/-! ### The queue, the frames and the whole part -/

theorem test_meets_IdleTick : State.reset.pending = [] := by decide
theorem test_meets_FrameRoundTrip :
    [Instr.freeze (keyReq 0#8 255), .lookup (tableReq 255#8 .station 1 96 []), .setMask { tag := 1#8, fields := [fldN 1 1 0] },
     .restart (bareReq 1#8)].all (fun i => i.wellFormed && (codeOf i).isSome) = true := by decide
theorem test_meets_ReportRoundTrip_zone : 0 < 256 ∧ reportFits .zone { number := 7, echo := 7, status := .zone, events := [] } :=
  ⟨by decide, by decide, by decide, by decide, by simp, trivial⟩
theorem test_meets_ReportRoundTrip_door : 255 < 256 ∧ reportFits .door
    { number := 0, echo := 0, status := .door true false, events := [⟨255, 4294967295, 255⟩, ⟨0, 0, 0⟩] } :=
  ⟨by decide, by decide, by decide, by decide, by simp, trivial⟩
theorem test_meets_ReportRoundTrip_agent : reportFits .agent
    { number := 0, echo := 0, status := .agent 0 1023 true false false true false true, events := [] } :=
  ⟨by decide, by decide, by decide, by simp, by decide⟩
theorem test_meets_ReportRoundTrip_crc : (0#8 : Byte) ≠ 255#8 := by decide

/-! ### Invariants -/

theorem test_rising_siteA : siteA.TablesRising :=
  ⟨by decide, by decide, by decide, by decide, by decide, by decide, by decide⟩
theorem test_duress_siteA : siteA.DuressFirst := fun n r h =>
  (by decide : ∀ p ∈ siteA.alm.recs, p.2.kind = some .duress → p.2.cls = 0) (n, r) h
theorem test_sound_site : siteA.Sound := by
  refine ⟨⟨test_rising_siteA, by decide, trivial⟩, ?_, ?_, test_duress_siteA⟩
  · intro i j x y hi hj _ _ _
    have h : siteA.occ.recs.map (·.1) = [0] := by decide
    have hi := List.mem_map_of_mem (f := Prod.fst) hi
    have hj := List.mem_map_of_mem (f := Prod.fst) hj
    rw [h] at hi hj
    simp_all
  · intro i j x y hi hj _ _ _ _
    have h : siteA.alm.recs.map (·.1) = [0] := by decide
    have hi := List.mem_map_of_mem (f := Prod.fst) hi
    have hj := List.mem_map_of_mem (f := Prod.fst) hj
    rw [h] at hi hj
    simp_all
theorem test_meets_StepKeepsSound : siteA.Sound ∧ step siteA = .next siteA.idle := ⟨test_sound_site, rfl⟩

/-- Door 3 releases with the right, door 4 waits, and the command to come is a poll. -/
def lawful : State := (vestibule { pair3 with state := .released, right := true, cycle := some cycleA }
  { pair4 with state := .interlockWait, cycle := some cycleA }).setPending [.poll]
theorem test_meets_StepKeepsDoorLaws : lawful.TablesRising ∧ lawful.CyclesFit ∧ lawful.PairsLawful ∧
    (∀ i ∈ lawful.pending.head?, undamaging i = true) ∧ step lawful = .next (after .poll (lawful.setPending [])) := by
  refine ⟨⟨by decide, by decide, by decide, by decide, by decide, by decide, by decide⟩, ?_, ?_, ?_, rfl⟩
  · intro d r h
    exact (by decide : ∀ x ∈ lawful.door.doors, State.cycleFits x.2 = true ∧ (x.2.right = true → State.mayHold x.2.state = true))
      (d, r) h
  · intro d p r q _ hd hp
    have h : ∀ x ∈ lawful.door.doors, ∀ y ∈ lawful.door.doors, lawful.partnerOf x.1 = some y.1 →
        (State.releases x.2 = true → x.2.right = true ∧ State.releases y.2 = false) ∧
        ¬ (x.2.right = true ∧ y.2.right = true) := by decide
    exact h (d, r) (Table.mem_of_find hd) (p, q) (Table.mem_of_find hp) ‹_›
  · intro i hi; cases hi; rfl

/-- An ENTRY passage and a pair wait stand at a door into zone 31. -/
def doorB : DoorRec :=
  { cfg := { inner := 31, station := 2 }, state := .released, cycle := some { passages := [entryA] },
    pairWait := some { person := 9, start := 0, window := 20 } }
/-- Zone 1 is held and zone 31 is not. -/
def heldApart : State := (twoZones.putZone 1 zoneHeldA).putDoor 4 doorB
theorem test_meets_StepKeepsHeldEmpty : heldApart.TablesRising ∧ heldApart.HeldHasNone ∧ heldApart.zoneHeld 1 = true ∧
    heldApart.inFlight 31 = 2 ∧ (∀ i ∈ heldApart.pending.head?, undamaging i = true) ∧
    step heldApart = .next heldApart.idle := by
  refine ⟨⟨by decide, by decide, by decide, by decide, by decide, by decide, by decide⟩, ?_, by decide, by decide, ?_, rfl⟩
  · intro z hz
    by_cases h31 : z = 31
    · subst h31; exact absurd hz (by decide)
    · have hd : heldApart.door.doors = [(3, doorA), (4, doorB)] := by decide
      by_cases h1 : z = 1
      · subst h1; decide
      · simp [State.inFlight, State.reservations, hd, doorA, doorB, Ne.symm h31, Ne.symm h1]
  · intro i hi; cases hi

/-- Person 9 is in the zone, has an ENTRY passage at door 3 and a pair wait at door 4. -/
def personAt : State := (siteA.putDoor 3 { doorA with state := .released, cycle := some { passages := [entryA, exitA] } }).putDoor
  4 { doorA with pairWait := some { person := 9, start := 0, window := 20 } }
theorem test_meets_StepKeepsPersons : personAt.TablesRising ∧ personAt.PersonsExist ∧ step personAt = .next personAt.idle := by
  refine ⟨⟨by decide, by decide, by decide, by decide, by decide, by decide, by decide⟩, ⟨?_, ?_, ?_⟩, rfl⟩
  · intro i r h _
    exact (by decide : ∀ x ∈ personAt.occ.recs, (personAt.person? x.2.person).isSome = true) (i, r) h
  · intro d r c x p h hc hx hp
    have a : ∀ y ∈ personAt.door.doors, ∀ c ∈ y.2.cycle, ∀ x ∈ c.passages, ∀ p ∈ State.entrant x,
      (personAt.person? p).isSome = true := by decide
    exact a (d, r) h c hc x hx p hp
  · intro d r w h hw
    have a : ∀ y ∈ personAt.door.doors, ∀ w ∈ y.2.pairWait, (personAt.person? w.person).isSome = true := by decide
    exact a (d, r) h w hw

/-- Agent 0 counts down with its deadline at its bound; the others are UNCONFIGURED. -/
def counting : State := site.putAgent 0 { agentA with deadline := some 180, bound := some 180 }
theorem test_meets_StepKeepsTimes : counting.TablesRising ∧ counting.DuressFirst ∧ counting.TimesFit ∧
    step counting = .next counting.idle ∧
    (counting.agent 0).state = .countdown ∧ (counting.idle.agent 0).state = .countdown ∧
    (counting.agent 0).kind = .opening ∧ (counting.idle.agent 0).kind = .opening := by
  refine ⟨⟨by decide, by decide, by decide, by decide, by decide, by decide, by decide⟩, fun n r h =>
    (by decide : ∀ p ∈ counting.alm.recs, p.2.kind = some .duress → p.2.cls = 0) (n, r) h,
    fun a => ?_, rfl, by decide, by decide, by decide, by decide⟩
  by_cases h : a = 0
  · subst h
    exact ⟨fun _ => ⟨0, 180, 180, by decide, by decide, by decide, by decide⟩, fun h => absurd h (by decide),
      fun h => absurd h (by decide)⟩
  · have hz : counting.agent a = {} := by
      show (((Vector.replicate 8 ({} : AgentRec)).setIfInBounds 0 _)[a]?).getD {} = _
      rw [Vector.getElem?_setIfInBounds_ne (by omega), Vector.getElem?_replicate]
      split <;> rfl
    rw [hz]
    exact ⟨fun h => (by cases h), fun h => (by cases h), fun h => (by cases h)⟩
theorem test_meets_StepKeepsChecks : siteA.checksAgree = true ∧ (∀ i ∈ siteA.pending.head?, undamaging i = true) ∧
    step siteA = .next siteA.idle ∧ siteA.ret.markerCheck = true ∧ siteA.TablesRising :=
  ⟨by decide, fun i hi => (by cases hi), rfl, by decide, test_rising_siteA⟩
theorem test_meets_VerifiedOnlyBySweep :
    let i := Instr.sweepClear { tag := 1#8, key := [1#8], fields := [fld 1 (toBE 2 9)] }
    exec i heldSite = .next (after i heldSite) ∧ heldSite.zone? 1 = some zoneHeldA ∧ zoneHeldA.verified = false ∧
      ((after i heldSite).zone? 1).map (fun r => r.verified) = some true := by
  refine ⟨rfl, by decide, rfl, by decide⟩

/-! ### The end of a command, and the reading of the tables -/

theorem test_meets_FinishFollowsOwners : siteA.NoAgents := by
  intro a
  show (((Vector.replicate 8 ({} : AgentRec))[a]?).getD { cfg := {} }).state = _
  rw [Vector.getElem?_replicate]
  split <;> rfl
theorem test_meets_FinishFollowsOwners_serves :
    siteA.serves 1 stationA = true ∧ siteA.serves 2 stationA = false ∧ siteA.station? 1 = some stationA ∧
    siteA.serves 1 { stationA with cfg := ⟨.zone, 1⟩ } = true ∧
    (site.putAgent 7 { agentA with cfg := { agentA.cfg with station := some 96 } }).serves 96
      { stationA with cfg := ⟨.agent, 7⟩ } = true ∧
    (withDoor { doorA with state := .released, cycle := some cycleA }).serves 1 stationA = true := by decide
/-- Zone 1 lies under agent 0 in COUNTDOWN, and under an agent that is not in a release. -/
theorem test_meets_FinishFollowsOwners_sounder :
    (siteA.putAgent 0 agentA).coveringAgent 1 = some 0 ∧ agentA.state = .countdown ∧
    (siteA.putAgent 0 { agentA with state := .normal }).coveringAgent 1 = some 0 ∧ siteA.coveringAgent 1 = none := by decide
/-- Door 3 fails its check value. -/
def failing : State := withDoor { doorA with checkOk := false }
theorem test_meets_FailedChecksFound : siteA.intact = true ∧ failing.intact = false ∧ failing.occ.zones.wf = true := by decide
/-- Zone 1, person 9, grant 1 and the alarm record at place 0 fail their check values. -/
theorem test_meets_FailedChecksFound_records :
    let s := ((siteA.putZone 1 { zoneA with checkOk := false }).putPerson 9 { cfg := { credential := 77 }, checkOk := false }
      ).putGrant 1 { cfg := { person := 9, zones := [1] }, checkOk := false }
    s.zone? 1 = some { zoneA with checkOk := false } ∧ s.alm.recs.wf = true ∧
    s.person? 9 = some { cfg := { credential := 77 }, checkOk := false } ∧
    s.grant? 1 = some { cfg := { person := 9, zones := [1] }, checkOk := false } ∧ (0 < 60 ∧ 59 < 60) ∧
    s.alm.recs.find 0 = some clockUnsetRecord ∧
    (s.alm.fail 0 0).recs.find 0 = none := by decide
/-- The stored parent of the suspect zone 1 is damaged to itself, which does not lead to zone 0 (R14). -/
theorem test_damaged_suspect_zone :
    let s := site.putZone 1 suspectZone
    ((s.damageOne (.zone 1 { zoneA.cfg with parent := 1 })).zone? 1).map (fun r => r.orphan) = some true ∧
    ((s.damageOne (.zone 1 { zoneA.cfg with parent := 0 })).zone? 1).map (fun r => r.orphan) = some false := by decide
/-- A failed door is suspect and told of when it is read (R41). -/
theorem test_failed_door_found : (failing.readTables.door? 3).map (fun r => r.suspect) = some true ∧
    failing.readTables.alm.recs.any (fun p => p.2.kind = some .recordSuspect && p.2.subject = some (.record .door 3)) = true := by
  decide

/-! ### The Host Port -/

theorem test_meets_HostTransactions : answered.host.port = .answered ∧ answered.host.buffer.isSome = true ∧
    [State.reset, busy, starting].all (fun s => s.host.port != .answered) = true := by decide
theorem test_meets_HostTransactions_discard : (codeOf (.freeze (keyReq 1#8 1))).isSome = true ∧
    (∃ f, Instr.unknownRequest [] = .unknownRequest f) ∧ busy.portTakes = false ∧ starting.portTakes = false :=
  ⟨by decide, ⟨[], rfl⟩, by decide, by decide⟩
theorem test_meets_HostTransactions_unknown : State.reset.portTakes = true ∧ answered.portTakes = true ∧
    ([] : List Byte).length < 2 ∧ [1#8].length < 2 := by decide
theorem test_meets_HostTransactions_repeated :
    let r : Req := { tag := 1#8, table := 4#8, fields := [fld 1 [], fld 1 []] }
    codeOf (.insert r) = some (3, r) ∧ (isRecordCode 3 = true → (tableOf r.table).isSome = true) ∧
      ¬ (ids r.fields).Nodup ∧ codeOf (.freeze r) = some (16, r) ∧ State.reset.portTakes = true := by decide
theorem test_meets_ReadRequests_tables :
    tableOf (tableReq 1#8 .zone 1 1 []).table ≠ some .person ∧ tableOf (tableReq 1#8 .zone 1 1 []).table ≠ some .grant := by
  decide
theorem test_meets_ReadRequests :
    ready twoZones = true ∧ twoZones.asked.zone? 1 = some zoneA ∧ twoZones.asked.zone? 31 = some zoneA ∧
    twoZones.asked.occ.zones.wf = true := by decide
theorem test_meets_ReadRequests_next : ∀ y, 1 < y → y < 31 → twoZones.asked.zone? y = none := by
  intro y h1 h2
  show Table.find [(1, zoneA), (31, zoneA)] y = none
  simp [Table.find, show ¬ y = 1 by omega, show ¬ y = 31 by omega]
theorem test_meets_ReadRequests_end : ∀ y, 31 < y → twoZones.asked.zone? y = none := by
  intro y h
  show Table.find [(1, zoneA), (31, zoneA)] y = none
  simp [Table.find, show ¬ y = 1 by omega, show ¬ y = 31 by omega]

/-! ### Records -/

theorem test_meets_PersonAndGrantRecords : ready siteA = true ∧ siteA.asked.person? 1 = none ∧
    siteA.asked.person? 65535 = none ∧ (∀ p ∈ siteA.asked.adm.persons, p.2.cfg.credential ≠ 1) ∧
    (∀ p ∈ siteA.asked.adm.persons, p.2.cfg.credential ≠ 4294967295) ∧
    siteA.asked.adm.persons.length < Config.maxPersons := by decide
theorem test_meets_PersonAndGrantRecords_grant :
    let s := (site.putGrant 1 grantA).putGrant 65535 grantA
    ready s = true ∧ s.asked.grant? 1 = some grantA ∧ s.asked.grant? 65535 = some grantA ∧
    { doorA with cycle := some cycleA }.cycle = some cycleA := by decide
theorem test_meets_FixedTablesAmend :
    let u := State.reset.asked
    ready State.reset = true ∧ (u.classRec 0).suspect = false ∧ (u.classRec 7).suspect = false ∧
    (u.alm.routeRec 1).suspect = false ∧ (u.alm.routeRec 31).suspect = false ∧ u.alm.limitSuspect = false ∧
    (u.logicRec 0).suspect = false ∧ (u.logicRec 7).suspect = false := by decide
/-- The suspect route limit, at both ends of its range. -/
def limitFails : State := State.reset.setAlm { State.reset.alm with limitSuspect := true }
theorem test_meets_FixedTablesAmend_limit : ready limitFails = true ∧ limitFails.asked.alm.limitSuspect = true ∧
    (1 ≤ 1 ∧ 32 ≤ 32 ∧ 1 ≤ 32) := by decide
/-- A suspect record answers SUSPECT to every AMEND that does not rewrite it (R174). -/
theorem test_suspect_limit : status (.amend (tableReq 1#8 .route 1 32 [fldN 2 1 0])) limitFails = some .suspect := by decide
/-- Slot 0 is taken and slot 1 free, and person 10 is recorded nowhere. -/
theorem test_meets_OccupancyRequests :
    let s := heldSite.putPerson 65535 { cfg := { credential := 78 } }
    ready s = true ∧ (s.asked.person? 65535).isSome = true ∧ s.asked.zone? 1 = some zoneHeldA ∧
    (∀ q ∈ s.asked.occ.recs, q.2.person ≠ 65535) ∧ s.asked.occ? 1 = none ∧ (∀ j < 1, (s.asked.occ? j).isSome = true) := by
  decide
theorem test_meets_OccupancyRequests_amend : (siteA.asked.occ? 0).map (fun r => r.dwell) = some none ∧
    siteA.asked.occ? 255 = none ∧
    ((siteA.changeOcc 0 (fun r => { r with dwell := some 5 })).asked.occ? 0).map (fun r => (r.dwell, r.suspect)) =
      some (some 5, false) ∧ ¬ 6 ≤ siteA.asked.now ∧ ¬ 6 ≤ 5 := by decide
/-- A suspect record: its deadline is not looked at (R174). -/
theorem test_meets_OccupancyRequests_suspect :
    let s := siteA.changeOcc 0 (fun r => { r with suspect := true })
    ready s = true ∧ (s.asked.occ? 0).map (fun r => r.suspect) = some true ∧
    status (.amend (tableReq 1#8 .occupancy 1 0 [fld 4 (toBE 4 0)])) s = some .suspect := by decide
theorem test_meets_OccupancyRequests_retire : siteA.asked.zoneHeld 1 = false ∧ heldSite.asked.zoneHeld 1 = true ∧
    (heldSite.asked.occ? 0).map (fun r => r.zone) = some 1 := by decide
/-- Zone 31 is free and zone 1 sound; zone 2 is suspect. -/
theorem test_meets_ZoneRecords :
    let s := site.putZone 2 suspectZone
    ready s = true ∧ s.asked.zone? 31 = none ∧ s.asked.zone? 0 = none ∧ s.asked.zone? 1 = some zoneA ∧
    s.asked.zone? 2 = some suspectZone ∧ s.asked.coveringAgent 1 = none := by decide
theorem test_meets_DoorRecords : ready heldSite = true ∧ heldSite.asked.door? 0 = none ∧ heldSite.asked.door? 47 = none ∧
    heldSite.asked.zone? 1 = some zoneHeldA ∧ heldSite.asked.door? 3 = some doorA ∧ doorA.cfg.cls ≠ 7 := by decide
/-- Doors 0 and 47 into the zones 1 and 2, of which 1 is the parent of 2. -/
theorem test_meets_DoorRecords_pair :
    let q : DoorRec := { cfg := { inner := 2, station := 5 }, state := .secured }
    let s := ((site.putZone 2 { zoneA with cfg := { parent := 1 } }).putDoor 47 q).putDoor 0 doorA
    ready s = true ∧ s.asked.door? 0 = some doorA ∧ s.asked.door? 47 = some q ∧ doorA.cfg.partner = none ∧
    s.asked.vestibule doorA.cfg.inner q.cfg.inner = true ∧ State.idleDoor q = true := by decide
def busyAgent : State := (site.putAgent 7 { agentA with cfg := { top := some 1, station := some 96 } }).putStation 96
  { stationA with cfg := ⟨.agent, 7⟩ }
theorem test_meets_StationRecords : ready busyAgent = true ∧ busyAgent.asked.station? 2 = none ∧
    busyAgent.asked.station? 96 = some { stationA with cfg := ⟨.agent, 7⟩ } ∧
    State.inRelease (busyAgent.asked.agent 7).state = true ∧ busyAgent.asked.zone? 1 = some zoneA ∧
    busyAgent.asked.station? 1 = some stationA ∧ stationA.serving = none ∧ busyAgent.asked.serves 1 stationA = true ∧
    busyAgent.asked.door? 3 = some doorA ∧ busyAgent.asked.door? 47 = none ∧ stationA.cfg = ⟨.door, 3⟩ := by
  decide
/-- Damage turns the record of door 3's station to zone 1: door 3, which it served, is told of the silence (R157, R166). -/
theorem test_damaged_station_tells_door :
    let s := site.syncServing.damageOne (.station 1 ⟨.zone, 1⟩)
    (site.syncServing.station? 1).map (fun r => r.serving) = some (some ⟨.door, 3⟩) ∧
    (site.syncServing.door? 3).map (fun r => r.state) = some .secured ∧
    (s.readTables.door? 3).map (fun r => r.state) = some .unknown ∧
    (s.readTables.station? 1).map (fun r => (r.serving, r.link)) = some (none, .silent) := by decide
theorem test_meets_StationRecords_told :
    let st : StationRec := { stationA with serving := some ⟨.door, 3⟩, suspect := true }
    busyAgent.asked.serves 1 st = false ∧ st.serving = some ⟨.door, 3⟩ := by decide
theorem test_meets_StationRecords_amend :
    let st : StationRec := { stationA with cfg := ⟨.zone, 1⟩ }
    (site.putStation 96 st).asked.station? 96 = some st ∧ st.suspect = false ∧
    (site.putStation 96 st).asked.zone? 1 = some zoneA ∧ ready (site.putStation 96 st) = true := by decide
theorem test_meets_AgentRecords :
    let s := (counting.putAgent 6 { agentA with state := .fault }).putAgent 5 { agentA with suspect := true }
    ready s = true ∧ (s.asked.agent 0).state = .countdown ∧ (s.asked.agent 7).state = .unconfigured ∧
    (s.asked.agent 7).cfg.top = none ∧ (s.asked.agent 6).cfg.top.isSome = true ∧ (s.asked.agent 6).state = .fault ∧
    (s.asked.agent 5).suspect = true ∧ (s.asked.agent 7).suspect = false := by decide

/-! ### Zones -/

/-- Person 9 waits at door 3 while its zone is held. -/
def waiting : State := heldSite.setAdm { heldSite.adm with waits := [waitA] }
theorem test_meets_FreezeThawAndHours : ready twoZones = true ∧ (twoZones.asked.zone? 31).isSome = true ∧
    twoZones.asked.zone? 30 = none ∧ ready waiting = true ∧ waiting.asked.zone? 1 = some zoneHeldA ∧
    waiting.asked.adm.waits.filter (fun e => (waiting.asked.door? e.door).map (fun d => d.cfg.inner) = some 1) = [waitA] ∧
    waitA.credential = some 77 := by decide
theorem test_meets_SweepClearTakes : ready heldSite = true ∧ State.sweepList (toBE 2 9) = some [9] ∧
    heldSite.asked.zone? 1 = some zoneHeldA ∧
    (∀ p ∈ [9], (heldSite.asked.person? p).isSome = true ∧ heldSite.asked.recordedElsewhere 1 p = false) ∧
    (heldSite.asked.sweptIn 1 [9]).length ≤ heldSite.asked.freeSlots + (heldSite.asked.sweptOut 1 [9]).length ∧
    State.sweepList [] = some [] ∧
    (heldSite.asked.sweptIn 1 []).length ≤ heldSite.asked.freeSlots + (heldSite.asked.sweptOut 1 []).length := by decide
/-- Zone 1 is AFTER while its one window is the whole week. -/
def dayZone : ZoneRec := { zoneA with cfg := { zoneA.cfg with windows := [(0, 0)] } }
theorem test_meets_DayTurn :
    ((withClock siteA).putZone 1 dayZone).zone? 1 = some dayZone ∧ dayZone.suspect = false ∧ dayZone.hours = .after ∧
    computeHours ((withClock siteA).putZone 1 dayZone).ret.calendar dayZone.cfg = .day ∧
    (siteA.occ? 0).map (fun x => x.zone) = some 1 := by decide
theorem test_meets_WindowArithmetic :
    (0 < 1 ∧ 1 < 10079) ∧ (1 < 2 ∧ 2 < 10079) ∧ dayZone.cfg.override = .schedule ∧ (withClock siteA).ret.calendar.isSome = true ∧
    (withClock siteA).grantMatches grantA 9 1 = true := by decide

/-! ### Doors -/

theorem test_meets_DoorRequests :
    let s := (site.putDoor 47 doorA).putDoor 0 { doorA with suspect := true }
    ready s = true ∧ s.asked.door? 47 = some doorA ∧ doorA.state = .secured ∧ s.asked.partnerOf 47 = none ∧
    s.asked.zone? doorA.cfg.inner = some zoneA ∧ zoneA.entry = .opened ∧ zoneA.freeze = .thawed ∧
    (s.asked.door? 0).isSome = true ∧ s.asked.door? 1 = none := by decide
/-- With a lead of 0 the other clause applies. -/
theorem test_meets_DoorRequests_lead :
    ((site.putClass 0 { cfg := { lead := 0 } }).classVals doorA).lead = 0 ∧ (site.classVals doorA).lead = 5 := by decide
/-- In each state the door is read as it is, and its timer is reached. -/
theorem test_meets_DoorTimers :
    [DoorState.releasing, .released, .relocking, .opened, .held].all (fun st =>
      let r : DoorRec := { doorA with state := st, cycle := some cycleA, indication := .deny, indEnd := some 0 }
      (withDoor r).readTables.door? 3 = some r && (withDoor r).door? 3 = some r &&
      (withDoor r).readTables.reached cycleA.leadEnd && (withDoor r).readTables.reached cycleA.strikeEnd &&
      (withDoor r).readTables.reached cycleA.relockEnd && cycleA.heldEnd = some 0 &&
      (withDoor r).readTables.reached r.indEnd) = true := by decide
/-- An exit and an entry wait; the entry's limit of 10 s is reached at second 10. -/
def waitCycle : Cycle :=
  { passages := [{ dir := .exit, arrival := 0 }, { dir := .entry, arrival := 0 }, { dir := .entry, arrival := 1 }] }
theorem test_meets_DoorTimers_limit :
    waitCycle.passages = [{ dir := .exit, arrival := 0 }] ++ { dir := .entry, arrival := 0 } :: [{ dir := .entry, arrival := 1 }] ∧
    0 * 10 + waitCycle.vals.limit * 100 ≤ (later site 10).readTables.nowCs ∧
    (∀ y ∈ [({ dir := .exit, arrival := 0 } : Passage)],
      y.dir = .exit ∨ (later site 10).nowCs < y.arrival * 10 + waitCycle.vals.limit * 100) ∧
    (withDoor { doorA with state := .interlockWait, cycle := some waitCycle }).readTables.door? 3 =
      some { doorA with state := .interlockWait, cycle := some waitCycle } ∧
    (withDoor { doorA with state := .forced, cycle := some { waitCycle with waiting := true } }).readTables.door? 3 =
      some { doorA with state := .forced, cycle := some { waitCycle with waiting := true } } := by decide
theorem test_meets_DoorTimers_due :
    let r := { pair3 with state := .interlockWait, cycle := some cycleA }
    let s := vestibule r { pair4 with state := .opened }
    s.readTables.door? 3 = some r ∧ s.readTables.partnerOf 3 = some 4 ∧ cycleA.exitDue = some 0 ∧ 0 ≤ s.readTables.nowCs ∧
    (withDoor { doorA with state := .interlockWait, cycle := some cycleA }).readTables.partnerOf 3 = none ∧
    (withDoor { doorA with state := .releasing, cycle := some cycleA }).readTables.door? 3 =
      some { doorA with state := .releasing, cycle := some cycleA } := by decide
theorem test_meets_DoorContacts : site.door? 3 = some doorA ∧ doorA.state = .secured ∧
    [DoorState.releasing, .released, .relocking, .opened, .held, .forced].all (fun st =>
      (withDoor { doorA with state := st, cycle := some cycleA }).door? 3 =
        some { doorA with state := st, cycle := some cycleA }) = true ∧
    (withDoor { doorA with state := .relocking, cycle := some cycleA }).partnerOf 3 = none := by decide
/-- An opening while the door waits, alone and beside a partner; a reopening without the right beside a partner in
RELEASING. -/
theorem test_meets_DoorContacts_pair :
    let r := { pair3 with state := .interlockWait, cycle := some cycleA }
    let q := { pair4 with state := .releasing, right := true, cycle := some cycleA }
    let t := { r with state := .relocking }
    (withDoor { r with cfg := doorA.cfg }).partnerOf 3 = none ∧ (vestibule r q).partnerOf 3 = some 4 ∧
    (vestibule r q).door? 3 = some r ∧ (vestibule r q).door? 4 = some q ∧ (vestibule t q).door? 3 = some t ∧
    (vestibule t q).partnerOf 3 = some 4 ∧ t.right = false := by decide
/-- A closing in FORCED of the cycle of the opening, and of a waiting cycle that is empty, due and not yet due. -/
theorem test_meets_DoorContacts_forced :
    let f := fun (c : Cycle) => { doorA with state := .forced, cycle := some c }
    let w : Cycle := { waiting := true, passages := [exitA], exitDue := some 1 }
    (withDoor (f cycleA)).door? 3 = some (f cycleA) ∧ cycleA.waiting = false ∧
    (withDoor (f { w with passages := [] })).door? 3 = some (f { w with passages := [] }) ∧
    (withDoor (f w)).fallsDue w.exitDue = false ∧ (withDoor (f { w with exitDue := some 0 })).fallsDue (some 0) = true ∧
    ((withDoor (f cycleA)).closing 3).2 = true ∧ ((withDoor (f w)).closing 3).2 = false := by decide
/-- The contact of a waiting door opens: FORCED, with its waiting cycle (R31). -/
theorem test_opening_while_waiting :
    (((withDoor { doorA with state := .interlockWait, cycle := some waitCycle }).opening 3).door? 3).map
      (fun r => (r.state, r.cycle.map (fun c => c.waiting))) = some (.forced, some true) := by decide
theorem test_meets_ArbiterGives_unpaired :
    let r := { doorA with state := .interlockWait, cycle := some cycleA }
    (withDoor r).partnerOf 3 = none ∧ (withDoor r).door? 3 = some r ∧ (withDoor doorA).door? 3 = some doorA := by decide
/-- Door 3 waits beside a secured door, both wait, and neither does. -/
theorem test_meets_ArbiterGives :
    let r := { pair3 with state := .interlockWait, cycle := some cycleA }
    (vestibule r pair4).partnerOf 3 = some 4 ∧ (vestibule r pair4).door? 3 = some r ∧ (vestibule r pair4).door? 4 = some pair4 ∧
    pair4.state = .secured ∧ pair4.right = false ∧ (vestibule pair3 pair4).door? 3 = some pair3 ∧
    (vestibule r { pair4 with state := .interlockWait, cycle := some { cycleA with began := 1 } }).door? 4 =
      some { pair4 with state := .interlockWait, cycle := some { cycleA with began := 1 } } := by decide

/-! ### Admission and occupancy -/

/-- The zone with room for four persons, its pair rule as given. -/
def roomZone (pair : Bool) : ZoneRec := { zoneA with cfg := { zoneA.cfg with capacity := 4, pairRule := pair } }
/-- The commissioned site with person 9 outside, and a grant into the zone. -/
def outside : State := (((site.putPerson 9 { cfg := { credential := 77 } }).putGrant 1 grantA).putZone 1 (roomZone false)).setRet
  { site.ret with active := true, calendar := some { day := 0, minute := 0, second := 0 } }
def dayOutside : State := outside.putZone 1 { roomZone false with hours := .day }
theorem test_meets_EntryChecks : site.zone? doorA.cfg.inner = some zoneA ∧
    outside.person? 9 = some { cfg := { credential := 77 } } := by decide
/-- Each outcome of the checks: a refusal, a diversion, a passage. -/
theorem test_meets_EntryDecisions :
    outside.door? 3 = some doorA ∧ State.isRepeat { doorA with cycle := some { passages := [entryA] } } 9 = true ∧
    State.isRepeat doorA 9 = false ∧ outside.zone? doorA.cfg.inner = some (roomZone false) ∧
    (outside.entryChecks doorA .unknown 1).2 = .refused .unknownCredential none ∧
    ((outside.putZone 1 zoneHeldA).entryChecks doorA (.person 9) 1).2 = .diverted ∧
    (dayOutside.entryChecks doorA (.person 9) 1).2 = .passed 9 none none ∧
    dayOutside.pairRuleApplies doorA 9 = false ∧ (dayOutside.releaseRequest 3 [entryA]).2 = .taken := by decide
/-- The pair rule applies in an empty AFTER zone, and a second person meets the wait it begins. -/
theorem test_meets_EntryDecisions_pair :
    let s := outside.putZone 1 (roomZone true)
    let w : PairWait := { person := 8, start := 0, window := 20 }
    (s.entryChecks doorA (.person 9) 1).2 = .passed 9 (some 1) none ∧ s.pairRuleApplies doorA 9 = true ∧
    ((s.putDoor 3 { doorA with pairWait := some w }).entryChecks { doorA with pairWait := some w } (.person 9) 2).2 =
      .passed 9 (some 1) none ∧
    State.isRepeat { doorA with pairWait := some w } 9 = false := by decide
/-- A cycle that lists four passages has no place for a fifth (R20). -/
theorem test_meets_EntryDecisions_full :
    let r : DoorRec := { doorA with state := .released, cycle := some { passages := [exitA, exitA, exitA, exitA] } }
    ((dayOutside.putDoor 3 r).entryChecks r (.person 9) 1).2 = .passed 9 none none ∧
    ((dayOutside.putDoor 3 r).releaseRequest 3 [entryA]).2 = .full := by decide
theorem test_meets_ExitsReleased :
    State.exitListed { doorA with cycle := some { passages := [exitA] } } (some 9) = true ∧
    State.exitListed doorA (some 9) = false ∧ State.exitListed doorA none = false ∧ site.door? 3 = some doorA ∧
    site.partnerOf 3 = none ∧ (withDoor { doorA with state := .unknown }).door? 3 = some { doorA with state := .unknown } ∧
    { doorA with state := .held, cycle := some cycleA }.cycle = some cycleA ∧ cycleA.passages.length < 4 := by decide
/-- A release request of two entries, and doors that are relocking with and without the right, secured in a pair, and in
INTERLOCK_WAIT with three and with four passages. -/
theorem test_meets_ExitsReleased_states :
    let r := { pair3 with state := .relocking, cycle := some cycleA }
    let c : Cycle := { passages := [exitA, entryA, entryA, exitA] }
    [entryA, entryA] ≠ [] ∧ (∀ y ∈ [entryA, entryA], y.dir = .entry) ∧ exitA.dir = .exit ∧
    (vestibule r pair4).door? 3 = some r ∧ r.right = false ∧ (vestibule pair3 pair4).partnerOf 3 = some 4 ∧
    pair3.state = .secured ∧ (vestibule { r with right := true } pair4).door? 3 = some { r with right := true } ∧
    (withDoor { doorA with state := .interlockWait, cycle := some c }).door? 3 =
      some { doorA with state := .interlockWait, cycle := some c } ∧
    c.passages.length + [exitA].length = 5 ∧ (c.passages.drop 1).length + [exitA].length = 4 ∧
    (c.passages.drop 1).length + [entryA, entryA].length = 5 := by decide
theorem test_meets_CompletionMovesRecords :
    site.recordOf 9 = none ∧ site.suspectRecordOf 9 = none ∧ site.occ? 0 = none ∧
    (siteA.recordOf 9).map (fun x => (x.1, x.2.zone)) = some (0, 1) ∧
    (siteA.zoneOrder 1).map (fun x => (x.1, x.2.suspect)) = [(0, false)] ∧ site.occupants 1 ≠ 1 ∧
    (withDoor { doorA with state := .released, cycle := some cycleA }).door? 3 =
      some { doorA with state := .released, cycle := some cycleA } := by decide
/-- Person 9 is recorded in zone 1, which is the inner zone, the outer zone and neither; a suspect record names person 9;
and a passage carries a grant that has uses left. -/
theorem test_meets_CompletionMovesRecords_places :
    let t := siteA.changeOcc 0 (fun r => { r with suspect := true })
    let s := site.putGrant 1 { cfg := { grantA.cfg with uses := some 2 } }
    (siteA.recordOf 9).map (fun x => (x.1, x.2.zone, x.2.suspect)) = some (0, 1, false) ∧ (1 : Nat) ≠ 2 ∧
    t.recordOf 9 = none ∧ t.suspectRecordOf 9 ≠ none ∧ entryA.dir = .entry ∧ exitA.dir = .exit ∧ entryA.grant = none ∧
    ((s.testGrant 1).grant? 1).map (fun g => (g.cfg.uses, g.suspect)) = some (some 2, false) := by decide
/-- An entry by the grant lowers its uses, and one whose person is recorded elsewhere moves the record too (R59, R86). -/
theorem test_entry_uses_grant :
    let s := (siteA.putGrant 1 { cfg := { grantA.cfg with uses := some 2 } }).putZone 31 zoneA
    let t := s.applyPassage 31 0 { entryA with grant := some 1 }
    (t.grant? 1).map (fun g => g.cfg.uses) = some (some 1) ∧ (t.occ? 0).map (fun r => r.zone) = some 31 := by decide
/-- Zone 1 turns from DAY to AFTER with person 9 in it, by DAY, with and without a dwell deadline and a matching grant. -/
def evening (d : Option Nat) (g : GrantRec) : State :=
  (((withClock siteA).putZone 1 { zoneA with hours := .day, cfg := { zoneA.cfg with pairRule := true } }).changeOcc 0
    (fun r => { r with basis := .day, dwell := d })).putGrant 1 g
theorem test_meets_AfterTurn :
    let s := evening none grantA
    (s.zone? 1).map (fun r => (r.suspect, r.hours, computeHours s.ret.calendar r.cfg)) = some (false, .day, .after) ∧
    (s.occ? 0).map (fun x => (x.zone, x.basis, x.dwell)) = some (1, .day, none) ∧
    ((siteA.changeOcc 0 (fun r => { r with basis := .day })).occ? 0).map (fun x => (x.basis, x.overdue, x.suspect)) =
      some (.day, false, false) ∧ zoneA.hours = .after ∧ dayZone.suspect = false ∧
    computeHours none zoneA.cfg = zoneA.hours := by decide
theorem test_meets_AfterTurn_pair :
    let two := siteA.putOcc 1 { person := 8, zone := 1, entered := 0, zoneEntered := 1, basis := .host }
    let lone := siteA.putPerson 9 { cfg := { credential := 77, loneWork := true } }
    siteA.occupants 1 = 1 ∧ two.occupants 1 = 2 ∧ site.occupants 1 ≠ 1 ∧
    (siteA.zoneOrder 1).map (fun x => (x.1, x.2.suspect)) = [(0, false)] ∧ (roomZone true).cfg.pairRule = true ∧
    (roomZone true).hours = .after ∧ (roomZone true).suspect = false ∧
    ((siteA.testPerson 9).person? 9).map (fun q => q.cfg.loneWork) = some false ∧
    ((lone.testPerson 9).person? 9).map (fun q => (q.suspect, q.cfg.loneWork)) = some (false, true) := by decide
/-- The search at the turn is made for each DAY-basis record (R57): a grant that fails its check value is found, and a
dwell deadline that the record holds stays. Without a grant the record takes the after-hours grace, of 0 min here. -/
theorem test_turn_searches :
    let s := (evening (some 5) { grantA with checkOk := false }).evaluateHours 1
    (s.grant? 1).map (fun g => g.suspect) = some true ∧ (s.occ? 0).map (fun x => x.dwell) = some (some 5) ∧
    (((evening none { grantA with suspect := true }).evaluateHours 1).occ? 0).map (fun x => x.dwell.isSome) = some true := by
  decide
/-- A waiting door, a releasing one, and one with a pair wait, into zone 1, and the wait list. -/
theorem test_meets_ZoneCloses :
    let r := { doorA with state := .interlockWait, cycle := some waitCycle }
    let w : PairWait := { person := 9, start := 0, window := 20 }
    (withDoor r).door? 3 = some r ∧
    (withDoor { r with state := .releasing }).door? 3 = some { r with state := .releasing } ∧
    (withDoor { doorA with pairWait := some w }).door? 3 = some { doorA with pairWait := some w } ∧
    waitA.credential = some 77 ∧ ({ waitA with credential := none } : WaitEntry).credential = none := by decide
/-- A zone under an agent in COUNTDOWN is EGRESS_ONLY, and the entries that wait at its door are refused (R37, R109). -/
theorem test_zone_closes_refuses :
    let s := (withDoor { doorA with state := .interlockWait, cycle := some { waitCycle with passages := [entryA] } }).putAgent 0
      agentA
    (s.syncEntries.zone? 1).map (fun r => r.entry) = some .egressOnly ∧
    (s.syncEntries.door? 3).map (fun r => (r.state, r.decision.code)) = some (.secured, some .zoneClosed) := by decide
def recordA : OccRec := { person := 50, zone := 1, entered := 0, zoneEntered := 0, basis := .host }
/-- Every slot holds a record. -/
def fullTable : State := site.setOcc { site.occ with recs := (List.range 256).map (fun i => (i, recordA)) }
theorem test_find_listed (i : Nat) (l : List Nat) (h : i ∈ l) :
    (Table.find (l.map (fun n => (n, recordA))) i).isSome = true := by
  induction l with
  | nil => cases h
  | cons a l ih =>
    simp only [List.map_cons, Table.find]
    split
    · rfl
    · exact ih ((List.mem_cons.mp h).resolve_left ‹_›)
theorem test_meets_CompletionMovesRecords_full : ∀ i < 256, (fullTable.occ? i).isSome = true :=
  fun i h => test_find_listed i _ (List.mem_range.mpr h)
theorem test_meets_WaitsAndDeadlines :
    let s := siteA.changeOcc 0 (fun r => { r with dwell := some 0, checkin := some 0, pairGrace := some 0 })
    (s.readTables.occ? 0).map (fun r => (r.zone, r.suspect, r.overdue, r.dwell)) = some (1, false, false, some 0) ∧
    s.readTables.zone? 1 = some zoneA ∧ zoneA.hours = .after ∧ 0 ≤ s.readTables.now ∧
    ((siteA.changeOcc 0 (fun r => { r with overdue := true })).readTables.occ? 0).map (fun r => r.overdue) = some true := by
  decide
theorem test_meets_WaitsAndDeadlines_waits :
    (withDoor { doorA with pairWait := some { person := 9, start := 0, window := 20 } }).readTables.door? 3 =
      some { doorA with pairWait := some { person := 9, start := 0, window := 20 } } ∧
    0 * 10 + 20 * 100 ≤ (later site 20).readTables.nowCs ∧ (later waiting 8).readTables.adm.waits = waitA :: [] ∧
    waitA.arrival * 10 + 800 ≤ (later waiting 8).readTables.nowCs ∧ waitA.credential = some 77 := by decide

/-! ### Agents -/

theorem test_meets_AgentRequests :
    let s := (counting.putAgent 7 { agentA with state := .discharged, dischargeTime := some 0 }).putAgent 6
      { agentA with isolated := true }
    ready s = true ∧ (s.asked.agent 0).state ≠ .unconfigured ∧ (s.asked.agent 0).isolated = false ∧
    (s.asked.agent 6).isolated = true ∧ (s.asked.agent 1).state = .unconfigured ∧ (s.asked.agent 7).dischargeTime = some 0 ∧
    ¬ (later s 3600).asked.now < 0 + (s.agent 7).cfg.soak * 60 ∧ (later s 3599).asked.now < 0 + (s.agent 7).cfg.soak * 60 := by
  decide
theorem test_meets_AgentDeadlines :
    let s := (site.putAgent 0 agentA).putAgent 7 { agentA with state := .discharge, echoed := true, confirmBy := some 0 }
    (s.readTables.agent 0).deadline = some 0 ∧ (s.readTables.agent 0).state = .countdown ∧ 0 ≤ s.readTables.now ∧
    (s.readTables.agent 7).state = .discharge ∧ (s.readTables.agent 7).echoed = true ∧
    (s.readTables.agent 7).confirmBy = some 0 ∧ (siteA.putAgent 0 agentA).occClear 0 = false ∧
    ((site.putAgent 0 agentA).changeZone 1 (fun r => { r with verified := true })).occClear 0 = true := by decide
/-- The clauses of R110 at the boundaries of the reset thresholds. -/
theorem test_meets_LogicEvaluates_channel :
    (1022 : Nat) ≤ 1022 ∧ (1023 : Nat) ≤ 1023 ∧ (detect {} 15 true true).fault = true ∧
    (detect {} 1023 false false).overRange = true ∧ (detect {} 16 false false).fault = false ∧
    (detect { floor := 1022 } 1022 false false).fault = false ∧
    (379 + 20 < 400 ∧ 380 < 400 ∧ 400 ≤ 380 + 20) ∧ (679 + 20 < 700 ∧ 680 < 700 ∧ 700 ≤ 680 + 20) := by decide
theorem test_meets_LogicEvaluates : (⟨20, .or, 0, 3⟩ : Term).target < 32 ∧ (⟨31, .eqv, 31, 31⟩ : Term).target < 32 := by decide
theorem test_meets_InputsEvaluate :
    [{ agentA with state := .normal, alertOut := true, releaseOut := true }, { agentA with state := .alert },
     { agentA with isolated := true, releaseOut := true }, { agentA with state := .normal, releaseOut := true },
     { agentA with state := .normal, alertOut := true, suspect := true }].all (fun q =>
       (site.putAgent 0 q).agent 0 = q && !q.cw.getLsbD 6) = true := by decide
/-- Person 9 stands in the covered zone 1, whose path to the top is itself. -/
theorem test_meets_EgressDeadline :
    let s := siteA.putAgent 0 { agentA with bound := some 180, deadline := some 180 }
    s.zone? 1 = some zoneA ∧ s.effectiveTop 0 = some 1 ∧ s.covers 0 1 = true ∧ (s.agent 0).t0 = some 0 ∧
    (s.agent 0).deadline = some 180 ∧ (s.agent 0).state = .countdown ∧ (s.agent 0).kind = .opening ∧
    (s.agent 0).suspect = false ∧ s.now < min 180 (min (0 + 180) (max (0 + 30) (s.now + (s.egressTime 0).2 + 15))) ∧
    min 180 (min (0 + 180) (max (0 + 30) ((later s 180).now + ((later s 180).egressTime 0).2 + 15))) ≤ (later s 180).now := by
  decide
theorem test_meets_ReleaseBegins : ((site.putAgent 7 { agentA with state := .normal }).agent 7).cw.getLsbD 7 = false ∧
    ((site.putAgent 7 { agentA with cw := setBit agentA.cw 7 true }).agent 7).cw.getLsbD 7 = true ∧
    site.zone? 1 = some zoneA := by decide
/-- The gate is open at an empty verified zone with its door secured, and shut with person 9 inside. -/
theorem test_meets_HoldAndGate :
    let hold : AgentRec := { agentA with state := .occupiedHold }
    let flag : AgentRec := { agentA with state := .discharge, flag := true }
    let clear := site.changeZone 1 (fun r => { r with verified := true })
    ((clear.putAgent 0 hold).gateOpen 0 = true ∧ (siteA.putAgent 0 hold).gateOpen 0 = false ∧
    (siteA.putAgent 0 flag).gateOpen 0 = false ∧ (clear.putAgent 0 flag).gateOpen 0 = true) ∧
    (siteA.putAgent 0 flag).agent 0 = flag ∧ (siteA.putAgent 7 { flag with echoed := true }).agent 7 = { flag with echoed := true } ∧
    (siteA.putAgent 0 hold).agent 0 = hold := by decide
/-- ABORT clears beside each of what R124 asks of, and at a suspect agent. -/
theorem test_meets_HoldAndGate_abort :
    let held : AgentRec := { agentA with state := .abortHeld }
    [held, { held with releaseOut := true }, { held with releaseOut := true, isolated := true, alertOut := true },
     { held with suspect := true }].all (fun q => (siteA.putAgent 7 q).agent 7 = q) = true ∧
    held.cw.getLsbD 6 = false ∧ (setBit held.cw 6 true).getLsbD 6 = true := by decide
theorem test_abort_cleared_releases :
    (((site.putAgent 0 { agentA with state := .abortHeld, releaseOut := true }).abortCleared 0).agent 0).state =
      .countdown := by decide
theorem test_abort_cleared_normal :
    (((site.putAgent 0 { agentA with state := .abortHeld }).abortCleared 0).agent 0).state = .normal := by decide
theorem test_meets_AgentReportTaken :
    [{ agentA with state := .unconfigured }, { agentA with state := .discharge }, { agentA with state := .abortHeld },
     { agentA with state := .spent }, { agentA with state := .fault, spentMark := true }, { agentA with state := .fault },
     { agentA with state := .normal }, { agentA with state := .discharged }, { agentA with suspect := true }].all (fun q =>
       (site.putAgent 7 q).agent 7 = q && !q.echoed) = true := by decide
/-- A report with the value 15 at the first channel, below its floor of 16: C1_FAULT, and DETECTOR_FAULT (R110, R111). -/
theorem test_report_detector_fault :
    let x : State.AgentReport := { v1 := 15, v2 := 100, manual := false, abort := false, spareA := false, spareB := false,
                                   ready := false, pressure := false }
    let s := (site.putAgent 0 { agentA with state := .normal }).takeBits 0 x false false
    (s.agent 0).cw.getLsbD 2 = true ∧
    s.alm.recs.any (fun p => p.2.kind = some .detectorFault && p.2.subject = some (.agent 0)) = true := by decide

/-! ### Alarms -/

/-- Every ordinary place holds an acknowledged record of class 3, raised in turn. -/
def fullAlarms (st : AlarmState) : AlarmUnit :=
  { recs := (List.range 60).map (fun n =>
      (n, { kind := some .isolated, subject := some (.agent n), raisedAt := n, lastRaised := n, cls := 3, state := st })) }
theorem test_meets_RaisePlaces :
    State.reset.alm.openRecord .clockUnset (.zone 0) = some (0, clockUnsetRecord) ∧
    State.reset.alm.openRecord .doorHeld (.door 3) = none ∧ State.reset.alm.recs.find 1 = none ∧
    (∀ m < 1, (State.reset.alm.recs.find m).isSome = true) ∧
    { State.reset.alm with limit := 13 }.limitInForce ≤ kindNum .doorHeld ∧ kindNum .doorHeld < State.reset.alm.limitInForce ∧
    (State.reset.alm.routeRec 13).suspect = false := by decide
theorem test_meets_RaisePlaces_full :
    (fullAlarms .acknowledged).openRecord .doorHeld (.door 3) = none ∧ (fullAlarms .acknowledged).recs.wf = true ∧
    (∀ n < 60, ((fullAlarms .acknowledged).recs.find n).isSome = true) ∧
    ((fullAlarms .acknowledged).victim ((fullAlarms .acknowledged).routeTaken .doorHeld).cls).map (fun x => x.1) = some 0 ∧
    (∀ n < 60, ((fullAlarms .raised).recs.find n).isSome = true) ∧
    (fullAlarms .raised).victim ((fullAlarms .raised).routeTaken .doorHeld).cls = none := by decide
/-- Places 0 and 63 with a record in each state that the rules tell apart. -/
def alarms : State := State.reset.setAlm { State.reset.alm with
  recs := [(0, { alarmA with state := .acknowledged }), (5, { alarmA with ended := true, subject := some (.person 8) }),
           (6, { alarmA with kind := some .doorHeld, subject := some (.door 3) }),
           (62, { alarmA with kind := none, subject := none }), (63, { alarmA with latching := true })] }
theorem test_meets_AlarmEnds : alarms.alm.openRecord .checkinMissed (.person 9) = some (0, { alarmA with state := .acknowledged }) ∧
    alarms.alm.openRecord .checkinMissed (.person 8) = some (5, { alarmA with ended := true, subject := some (.person 8) }) ∧
    alarms.alm.openRecord .doorHeld (.door 3) = some (6, { alarmA with kind := some .doorHeld, subject := some (.door 3) }) ∧
    alarms.alm.openRecord .doorHeld (.door 4) = none ∧ alarms.alm.recs.wf = true := by decide
theorem test_meets_NextNoticePresents_empty :
    let s := after (.nextNotice (bareReq 1#8)) State.reset
    ready s = true ∧ ∀ p ∈ s.asked.alm.recs, s.asked.alm.presentable p.2 = false := by decide
/-- Two presentable records: the lower class wins. -/
def twoAlarms : State := State.reset.setAlm { State.reset.alm with recs := [(0, clockUnsetRecord), (5, alarmA)] }
theorem test_meets_NextNoticePresents :
    ready twoAlarms = true ∧ twoAlarms.asked.alm.recs.wf = true ∧ twoAlarms.asked.alm.recs.find 5 = some alarmA ∧
    twoAlarms.asked.alm.presentable alarmA = true ∧
    ∀ m b, twoAlarms.asked.alm.recs.find m = some b → twoAlarms.asked.alm.presentable b = true → m ≠ 5 →
      alarmA.cls < b.cls ∨ (alarmA.cls = b.cls ∧
        (alarmA.raisedAt < b.raisedAt ∨ (alarmA.raisedAt = b.raisedAt ∧ 5 < m))) := by
  refine ⟨by decide, by decide, by decide, by decide, fun m b hb _ hm => ?_⟩
  have hb : Table.find [(0, clockUnsetRecord), (5, alarmA)] m = some b := hb
  simp only [Table.find] at hb
  repeat' split at hb
  all_goals simp_all
  subst hb
  decide
theorem test_meets_AlarmRequests : ready alarms = true ∧ (alarms.asked.alm.recs.find 0).isSome = true ∧
    alarms.asked.alm.recs.find 1 = none ∧ (alarms.asked.alm.recs.find 62).map (fun a => a.kind) = some none ∧
    alarms.asked.alm.recs.find 63 = some { alarmA with latching := true } ∧ (255 : Nat) ≤ 255 ∧ ¬ (16 : Nat) ≤ 15 ∧
    alarms.alm.openRecord .checkinMissed (.person 9) = some (0, { alarmA with state := .acknowledged }) ∧
    isMomentary .checkinMissed = false := by decide

/-! ### Stations -/

theorem test_meets_PollSends : site.readTables.refreshLanes.link.exchange = none ∧
    site.readTables.refreshLanes.chosen = some (1, .rotation) ∧
    site.readTables.refreshLanes.station? 1 = some stationA ∧ site.link.stations.wf = true ∧
    flagIn stationA.desired = false ∧ site.rotationNext = some 1 ∧
    State.reset.readTables.refreshLanes.chosen = none ∧ stationA.suspect = false ∧ site.link.rotation < 1 := by decide
/-- A station whose check value fails leaves the door lane as the tables are read, and is not polled (R166). -/
theorem test_poll_leaves_suspect :
    let st : StationRec := { stationA with echo := none, checkOk := false }
    let s := site.putStation 1 st
    (after .poll (s.setLink { s.link with doorLane := [1] })).link.exchange = none := by decide
/-- A flag set with the gate shut, and the lanes of safety and doors. -/
theorem test_meets_PollSends_flag :
    let s := busyAgent.putAgent 7 { agentA with state := .discharge, flag := true }
    let l := fun (a d : List Nat) => s.setLink { s.link with safetyLane := a, doorLane := d }
    (s.agent 7).flag = true ∧ s.gateOpen 7 = false ∧ (s.agent 7).echoed = false ∧
    (l [96] []).link.safetyLane = 96 :: [] ∧ (l [] [1]).link.safetyLane = [] ∧ (l [] [1]).link.doorLane = 1 :: [] ∧
    (l [] [1]).link.rotationTurn = false := by decide
def zoneStation : StationRec :=
  { cfg := { kind := .zone, bound := 1 }, desired := .zone .off, sent := some (.zone .off, 0), lastReport := some 1 }
def polled (a : Nat) (st : StationRec) (s : State) : State :=
  (s.putStation a st).setLink { (s.putStation a st).link with exchange := some { address := a } }
/-- A new report, and the last one again. -/
theorem test_meets_GoodReportDelivers :
    let s := polled 1 zoneStation State.reset
    s.readTables.link.exchange = some { address := 1 } ∧ s.readTables.station? 1 = some zoneStation ∧
    s.readTables.serves 1 zoneStation = true ∧
    readReport .zone 1 (writeReport 1 { number := 2, echo := 0, status := .zone, events := [⟨1, 77, 0⟩] }) =
      some { number := 2, echo := 0, status := .zone, events := [⟨1, 77, 0⟩] } ∧
    readReport .zone 1 (writeReport 1 { number := 1, echo := 0, status := .zone, events := [] }) =
      some { number := 1, echo := 0, status := .zone, events := [] } ∧ zoneStation.suspect = false := by decide
/-- A door station that answers, one that returns to an UNKNOWN door, and one that serves nothing. -/
theorem test_meets_GoodReportDelivers_door :
    let p : Report := { number := 2, echo := 0, status := .door true false, events := [] }
    let s := polled 1 stationA site
    s.readTables.link.exchange = some { address := 1 } ∧ s.readTables.station? 1 = some stationA ∧
    s.readTables.serves 1 stationA = true ∧ stationA.link = .answering ∧ s.readTables.door? 3 = some doorA ∧
    readReport .door 1 (writeReport 1 p) = some p ∧
    (polled 1 { stationA with link := .silent } (withDoor { doorA with state := .unknown })).readTables.door? 3 =
      some { doorA with state := .unknown } ∧
    (polled 2 stationA site).readTables.serves 2 stationA = false ∧
    (polled 2 stationA site).readTables.station? 2 = some stationA := by decide
theorem test_meets_GoodReportDelivers_agent :
    let p : Report := { number := 2, echo := 0, status := .agent 0 1023 true false true false true false, events := [] }
    let st : StationRec := { stationA with cfg := ⟨.agent, 7⟩ }
    (polled 96 st busyAgent).readTables.station? 96 = some st ∧ (polled 96 st busyAgent).readTables.serves 96 st = true ∧
    readReport .agent 96 (writeReport 96 p) = some p := by decide
/-- A credential resolved to a person recorded here and elsewhere, one of nobody, and a suspect one. -/
theorem test_meets_EventsDelivered :
    siteA.door? 3 = some doorA ∧ siteA.resolve 77 = (siteA, .person 9) ∧ (siteA.resolve 1).2 = .unknown ∧
    ((siteA.putPerson 9 { cfg := { credential := 77 }, suspect := true }).resolve 77).2 = .suspect ∧
    (siteA.recordOf 9).map (fun x => (x.1, x.2.zone)) = some (0, 1) ∧ (1 : Nat) ≠ 31 ∧
    ([⟨1, 77, 1⟩, ⟨2, 77, 0⟩, ⟨4, 77, 0⟩, ⟨5, 77, 0⟩, ⟨6, 77, 0⟩] : List Event).all (fun e => e.credential ≠ 0) = true := by
  decide
theorem test_meets_EventsDelivered_records :
    let s := site.putPerson 9 { cfg := { credential := 77 } }
    let t := siteA.changeOcc 0 (fun r => { r with suspect := true })
    s.recordOf 9 = none ∧ s.suspectRecordOf 9 = none ∧ (s.resolve 77).2 = .person 9 ∧
    t.recordOf 9 = none ∧ (t.suspectRecordOf 9).isSome = true ∧ (t.resolve 77).2 = .person 9 := by decide
/-- The check-in of a missing person in their zone (R94). -/
theorem test_checkin_found :
    ((State.deliverEvent .zone 1 (siteA.changeOcc 0 (fun r => { r with missing := true })) ⟨4, 77, 0⟩).occ? 0).map
      (fun r => r.missing) = some false := by decide
theorem test_meets_WindowMisses :
    [0, 1, 2].all (fun n =>
      (polled 1 { zoneStation with missed := n } State.reset).readTables.station? 1 = some { zoneStation with missed := n }) = true ∧
    (polled 1 { zoneStation with link := .silent, missed := 3 } State.reset).readTables.link.exchange = some { address := 1 } ∧
    (site.setLink { site.link with exchange := some { address := 1, void := true } }).readTables.link.exchange =
      some { address := 1, void := true } := by decide
/-- Stations 1 and 5 of zone 1, whose outputs are not delivered. Station 1 is polled. -/
def twoStations : State :=
  polled 1 { zoneStation with link := .answering }
    ((State.reset.putZone 1 zoneA).putStation 5 { zoneStation with link := .answering })
/-- Station 5 joins the door lane by what the reply brings, and then the station polled as its exchange ends (R163). -/
theorem test_lane_order : twoStations.exchangeOver.link.doorLane = [5, 1] := by decide
/-- The station of a waiting door falls silent: the entry is refused and the door UNKNOWN (R38). -/
theorem test_door_silent :
    (((withDoor { doorA with state := .interlockWait, cycle := some { waitCycle with passages := [entryA] } }).doorSilent 3).door?
      3).map (fun r => (r.state, r.decision.code, r.cycle)) = some (.unknown, some .doorUnavailable, none) := by decide

/-! ### Time, the checks and the starts -/

theorem test_meets_ClockAndPartRequests : ready State.reset = true ∧ (65535 ≤ 65535 ∧ 10079 ≤ 10079 ∧ ¬ 10080 ≤ 10079) ∧
    59 ≤ 59 ∧ ¬ 60 ≤ 59 := by decide
/-- A valid marker, and one whose check value is damaged. -/
theorem test_meets_StartsByMarker : siteA.portTakes = true ∧ siteA.intact = true ∧ siteA.ret.marker = true ∧
    siteA.ret.markerCheck = true ∧ (siteA.applyDamages [.markerCheck]).ret.markerCheck = false := by decide
theorem test_meets_WarmRestartLeaves : siteA.TablesRising ∧ siteA.DuressFirst ∧ (siteA.warmRestart.door? 3).isSome = true ∧ (siteA.warmRestart.zone? 1).isSome = true ∧
    (siteA.warmRestart.station? 1).isSome = true :=
  ⟨test_rising_siteA, test_duress_siteA, by decide, by decide, by decide⟩
theorem test_meets_CalendarAdvances :
    (later State.reset 4294967295).readTables.ret.now = Config.secondsTop ∧
    (later State.reset 4294967294).readTables.ret.now < Config.secondsTop ∧ State.reset.readTables.ret.calendar = none ∧
    (withClock State.reset).readTables.ret.calendar = some { day := 0, minute := 0, second := 0 } ∧
    ((withClock State.reset).setRet { State.reset.ret with
      calendar := some { day := 65535, minute := 10079, second := 59 } }).readTables.ret.calendar =
        some { day := 65535, minute := 10079, second := 59 } := by decide
/-- The sweep's next item agrees, is a person that fails, a grant that fails, and a door that fails. -/
theorem test_meets_CheckSweepFinds :
    let at' := fun (p : Nat × Nat) (s : State) => s.setRet { s.ret with sweep := p }
    let bad := siteA.putPerson 9 { cfg := { credential := 77 }, checkOk := false }
    let badGrant := siteA.putGrant 65535 { grantA with checkOk := false }
    siteA.sweepNext = some (0, 9) ∧ siteA.itemFails (0, 9) = false ∧
    bad.sweepNext = some (0, 9) ∧ bad.itemFails (0, 9) = true ∧
    bad.person? 9 = some { cfg := { credential := 77 }, checkOk := false } ∧
    (at' (1, 0) badGrant).sweepNext = some (1, 65535) ∧ badGrant.itemFails (1, 65535) = true ∧
    badGrant.grant? 65535 = some { grantA with checkOk := false } ∧
    (at' (3, 0) failing).sweepNext = some (3, 3) ∧ failing.itemFails (3, 3) = true ∧ (failing.door? 3).isSome = true := by
  decide
/-- The visited item fails in each other table: zone, class, station, agent, logic table, route limit, alarm record,
occupancy record, calendar, class mask, hold set. -/
theorem test_meets_CheckSweepFinds_tables :
    let visits := fun (p : Nat × Nat) (s : State) =>
      (s.setRet { s.ret with sweep := p }).sweepNext = some p && s.itemFails p
    (visits (2, 1) (siteA.putZone 1 { zoneA with checkOk := false }) &&
    visits (4, 7) (siteA.putClass 7 { siteA.classRec 7 with checkOk := false }) &&
    visits (10, 1) (siteA.putStation 1 { stationA with checkOk := false }) &&
    visits (6, 7) (siteA.putAgent 7 { agentA with checkOk := false }) &&
    visits (7, 0) (siteA.putLogic 0 { siteA.logicRec 0 with checkOk := false }) &&
    visits (8, 32) (siteA.setAlm { siteA.alm with limitOk := false }) &&
    visits (9, 0) (siteA.setAlm { siteA.alm with recs := [(0, { clockUnsetRecord with checkOk := false })] }) &&
    visits (5, 0) (siteA.changeOcc 0 (fun r => { r with checkOk := false })) &&
    visits (11, 0) (siteA.setRet { siteA.ret with calendarOk := false }) &&
    visits (12, 0) (siteA.setAlm { siteA.alm with maskOk := false }) &&
    visits (13, 3) (siteA.setAlm { siteA.alm with holdsBad := 8#4 })) = true := by decide
/-- A sweep visit that raises reads the alarm records, the route limit and the entry of RECORD_SUSPECT (R137, R138, R153). -/
theorem test_sweep_reads_for_raise :
    let s := siteA.setAlm { siteA.alm with
      limitOk := false, maskOk := false, mask := 5#4,
      routes := siteA.alm.routes.setIfInBounds 18 { siteA.alm.routeRec 18 with checkOk := false } }
    let t := s.readForRaise
    (t.alm.limitSuspect, t.alm.mask, (t.alm.routeRec 18).suspect) = (true, 0#4, true) ∧
    t.alm.recs.any (fun p => p.2.subject = some (.record .route 18)) = true := by decide
theorem test_meets_CheckSweepFinds_limit :
    { siteA.alm with limit := 18 }.limitInForce ≤ 18 ∧ 18 < siteA.alm.limitInForce ∧
    18 < { siteA.alm with limit := 19 }.limitInForce := by decide
theorem test_meets_CheckSweepFinds_damage : siteA.door? 3 = some doorA ∧ siteA.zone? 1 = some zoneA ∧
    siteA.person? 9 = some { cfg := { credential := 77 } } := by decide
theorem test_meets_TimersNotDue : site.readTables.door? 0 = none ∧ site.readTables.occ? 255 = none ∧
    (site.readTables.agent 7).state = .unconfigured ∧ site.readTables.adm.waits = [] ∧
    site.readTables.link.exchange = none := by decide
/-- A configured door, record and agent whose timers do not run, and ones that run and end one centisecond, or one second,
later. -/
theorem test_meets_TimersNotDue_yet :
    let r : DoorRec := { doorA with state := .releasing, cycle := some { cycleA with leadEnd := some 1, exitDue := some 1 } }
    let s := (withDoor r).setRet { site.ret with base := 0 }
    let t := (siteA.changeOcc 0 (fun r => { r with dwell := some 1, checkin := none })).putAgent 0
      { agentA with deadline := some 1, bound := some 1 }
    site.readTables.door? 3 = some doorA ∧ doorA.state = .secured ∧ s.readTables.door? 3 = some r ∧
    s.readTables.reached (some 1) = false ∧ s.readTables.fallsDue (some 1) = false ∧
    (t.readTables.occ? 0).map (fun r => (t.readTables.passed r.dwell, t.readTables.passed r.checkin)) = some (false, false) ∧
    (t.readTables.agent 0).state = .countdown ∧ t.readTables.passed (t.readTables.agent 0).deadline = false := by decide

end Sys2Proof.Tests.Slice0
end

/-! ## The window arithmetic (R55) -/

namespace Sys2Proof.Machine

/-- The plain window of R55. -/
theorem inWindow_of_lt {s e : Nat} (h : s < e) (m : Nat) : inWindow s e m = true ↔ s ≤ m ∧ m < e := by
  simp [inWindow, h]

/-- The window of R55 that runs over the end of the week. -/
theorem inWindow_of_gt {s e : Nat} (h : e < s) (m : Nat) : inWindow s e m = true ↔ s ≤ m ∨ m < e := by
  simp [inWindow, h, Nat.lt_asymm h]

/-- The window of R55 that is the whole week. -/
@[simp] theorem inWindow_self (s m : Nat) : inWindow s s m = true := by
  simp [inWindow]

/-- How many of the first `n` minutes a plain window holds: `e - s` of them once `n` has reached its end. -/
theorem length_filter_inWindow_range {s e : Nat} (h : s < e) (n : Nat) :
    ((List.range n).filter (inWindow s e)).length = min n e - min n s := by
  induction n with
  | zero => simp
  | succ n ih =>
    rw [List.range_succ, List.filter_append, List.length_append, ih]
    cases hn : inWindow s e n with
    | true =>
      have hin := (inWindow_of_lt h n).1 hn
      rw [List.filter_singleton, hn, cond_true, List.length_singleton]
      omega
    | false =>
      have hout := mt (inWindow_of_lt h n).2 (Bool.eq_false_iff.1 hn)
      rw [List.filter_singleton, hn, cond_false, List.length_nil]
      omega

/-- Going round the week from `s` one meets `e` and then `f`, `f` perhaps being `s` again: the windows from `s` to `e`
and from `e` to `f` meet at `e` and do not go round twice. -/
def InTurn (s e f : Nat) : Prop :=
  (s < e ∧ e < f) ∨ (e < f ∧ f < s) ∨ (f < s ∧ s < e) ∨ (s ≠ e ∧ f = s)

/-- Two windows that meet make up the window from the start of the one to the end of the other, and share no minute.
The order of the three ends says which of the three windows wrap. -/
theorem inWindow_join {s e f : Nat} (h : InTurn s e f) (m : Nat) :
    (inWindow s f m = true ↔ inWindow s e m = true ∨ inWindow e f m = true) ∧
    ¬ (inWindow s e m = true ∧ inWindow e f m = true) := by
  rcases h with ⟨hse, hef⟩ | ⟨hef, hfs⟩ | ⟨hfs, hse⟩ | ⟨hne, rfl⟩
  · rw [inWindow_of_lt hse, inWindow_of_lt hef, inWindow_of_lt (hse.trans hef)]
    omega
  · rw [inWindow_of_gt (hef.trans hfs), inWindow_of_lt hef, inWindow_of_gt hfs]
    omega
  · rw [inWindow_of_lt hse, inWindow_of_gt (hfs.trans hse), inWindow_of_gt hfs]
    omega
  · rw [iff_true_left (inWindow_self f m)]
    rcases Nat.lt_or_gt_of_ne hne with hlt | hgt
    · rw [inWindow_of_lt hlt, inWindow_of_gt hlt]
      omega
    · rw [inWindow_of_gt hgt, inWindow_of_lt hgt]
      omega

/-- By its schedule a zone is DAY exactly in the minutes of its windows (R4). -/
theorem computeHours_schedule {c : ZoneCfg} (h : c.override = .schedule) (k : Calendar) :
    computeHours (some k) c = .day ↔ ∃ w ∈ c.windows, inWindow w.1 w.2 k.minute = true := by
  simp [computeHours, h]

/-- What a match of a grant asks for while the calendar is set (R57). -/
theorem State.grantMatches_iff {s : State} {k : Calendar} (hk : s.ret.calendar = some k) (g : GrantRec) (p z : Nat) :
    s.grantMatches g p z = true ↔ g.cfg.person = p ∧ g.suspect = false ∧ z ∈ g.cfg.zones ∧ (s.zone? z).isSome = true ∧
      validOn g.cfg k.day = true ∧ inWindow g.cfg.wStart g.cfg.wEnd k.minute = true ∧ g.cfg.uses ≠ some 0 := by
  cases hu : g.cfg.uses with
  | none => simp [grantMatches, hk, hu, and_assoc]
  | some n => simp [grantMatches, hk, hu, and_assoc, Nat.pos_iff_ne_zero]

/-- Settles O27: each clause is a law of `inWindow`, or says where the zone's hours and a grant's match use it. -/
theorem windowArithmetic : Obligations.WindowArithmetic := by
  refine ⟨fun _ _ m h => inWindow_of_lt h m, fun _ _ m h => inWindow_of_gt h m, inWindow_self, ?week,
    fun _ _ _ m h => inWindow_join h m, fun k _ h => computeHours_schedule h k, ?grants⟩
  case week => exact length_filter_inWindow_range (by decide) 10080
  case grants =>
    intro s g p z k hk hmatch
    obtain ⟨_, _, _, _, _, hwindow, _⟩ := (State.grantMatches_iff hk g p z).1 hmatch
    exact hwindow

end Sys2Proof.Machine

/-! ## The turn from AFTER to DAY (R97) -/

namespace Sys2Proof

/-- What the turn of zone `z` to DAY leaves of a record: one in the zone loses its check-in and pair-grace deadlines. -/
def OccRec.turnedDay (z : Nat) (x : OccRec) : OccRec :=
  if x.zone = z then { x with checkin := none, pairGrace := none } else x

@[simp] theorem OccRec.zone_turnedDay (z : Nat) (x : OccRec) : (x.turnedDay z).zone = x.zone := by
  unfold turnedDay
  split <;> rfl

end Sys2Proof

namespace Sys2Proof.Machine

namespace State

/-! ### turnDay -/

@[simp] theorem turnDay_alm (s : State) (z : Nat) : (s.turnDay z).alm = s.alm := rfl
@[simp] theorem turnDay_door (s : State) (z : Nat) : (s.turnDay z).door = s.door := rfl
@[simp] theorem zone?_turnDay (s : State) (z y : Nat) : (s.turnDay z).zone? y = s.zone? y := rfl

/-- The turn works record by record and keeps every slot. -/
theorem turnDay_recs (s : State) (z : Nat) :
    (s.turnDay z).occ.recs = s.occ.recs.map (fun p => (p.1, p.2.turnedDay z)) := by
  refine List.map_congr_left fun p _ => ?_
  unfold OccRec.turnedDay
  split <;> rfl

@[simp] theorem occ?_turnDay (s : State) (z i : Nat) :
    (s.turnDay z).occ? i = (s.occ? i).map (OccRec.turnedDay z) := by
  rw [occ?, turnDay_recs]
  exact Table.find_map s.occ.recs (fun _ => OccRec.turnedDay z) i

/-- No record leaves its zone, so every count stays (R84). -/
@[simp] theorem occupants_turnDay (s : State) (z y : Nat) : (s.turnDay z).occupants y = s.occupants y := by
  simp [occupants, turnDay_recs, List.filter_map, Function.comp_def]

/-! ### What the hours and the dwell deadline read -/

/-- The count of a zone is one of the records alone (R84). -/
@[simp] theorem occupants_putZone (s : State) (z y : Nat) (r : ZoneRec) :
    (s.putZone z r).occupants y = s.occupants y := rfl

/-- The reservations are those of the doors alone (R84). -/
theorem reservations_congr {s t : State} (h : s.door = t.door) (y : Nat) : s.reservations y = t.reservations y := by
  simp only [reservations, h]

/-- A zone is AFTER by its record. -/
theorem isAfter_of_zone? {s : State} {z : Nat} {r : ZoneRec} (h : s.zone? z = some r) :
    s.isAfter z = decide (r.hours = .after) := by
  simp [isAfter, h]

/-- A dwell deadline outside AFTER is held: no taking of it does anything (R92). -/
theorem takeDwell_of_not_after {s : State} {i : Nat} {x : OccRec} (hx : s.occ? i = some x)
    (hz : s.isAfter x.zone = false) : s.takeDwell i = s := by
  simp [takeDwell, hx, hz]

/-- A sound AFTER zone whose windows say DAY is stored DAY, and then its records turn (R5, R97). -/
theorem evaluateHours_turnDay {s : State} {z : Nat} {r : ZoneRec} (hr : s.zone? z = some r)
    (hsound : r.suspect = false) (hafter : r.hours = .after) (hday : computeHours s.ret.calendar r.cfg = .day) :
    s.evaluateHours z = (s.putZone z { r with hours := .day }).turnDay z := by
  simp [evaluateHours, hr, hsound, hafter, hday]

end State

/-- Settles O26: the evaluation stores the zone as DAY and turns its records, and each clause is read from the two. -/
theorem dayTurn : Obligations.DayTurn := by
  intro s z r hr hsound hafter hday
  rw [State.evaluateHours_turnDay hr hsound hafter hday]
  have hzone : ((s.putZone z { r with hours := .day }).turnDay z).zone? z = some { r with hours := .day } := by simp
  refine ⟨hzone, fun y hy => by simp [hy], fun i => ?records, rfl, rfl,
    fun y => ⟨by simp, State.reservations_congr rfl y⟩, fun i x hx hin => ?held⟩
  case records => exact State.occ?_turnDay _ z i
  case held =>
    have hnot : ((s.putZone z { r with hours := .day }).turnDay z).isAfter x.zone = false := by
      rw [hin, State.isAfter_of_zone? hzone]
      rfl
    exact State.takeDwell_of_not_after hx hnot

end Sys2Proof.Machine

/-! ## The times of an agent (R117): a counterexample -/

namespace Sys2Proof.Machine

/-- A logic table whose last term writes bit 10, which is a derived input and no scratch bit: the evaluation that reads the
inputs again finds the release output risen. No AMEND stores such a target (R113), and the premises of `StepKeepsTimes` do
not exclude it. -/
def strayLogic : LogicRec :=
  { cfg := { terms := [⟨25, .or, 24, 24⟩, ⟨24, .or, 17, 17⟩, ⟨10, .and, 25, 17⟩] } }

/-- An agent in an opening countdown whose deadline is now. -/
def dueAgent : AgentRec := { state := .countdown, t0 := some 0, deadline := some 0, bound := some 0 }

/-- The part after a cold start with that agent, that logic table, and a warm restart in its queue. -/
def strayRestart : State := ((State.reset.putAgent 0 dueAgent).putLogic 0 strayLogic).setPending [.resetLine []]

theorem strayRestart_agent (a : Nat) : strayRestart.agent a = if a = 0 then dueAgent else {} := by
  show ((State.reset.putAgent 0 dueAgent).agent a) = _
  rw [State.agent_putAgent]
  by_cases h : a = 0
  · simp [h]
  · rw [if_neg (by tauto), if_neg h]
    show ((Vector.replicate 8 ({} : AgentRec))[a]?).getD {} = _
    rw [Vector.getElem?_replicate]
    split <;> rfl

theorem strayRestart_timesFit : strayRestart.TimesFit := by
  intro a
  rw [strayRestart_agent]
  split
  · exact ⟨fun _ => ⟨0, 0, 0, rfl, rfl, rfl, le_refl 0⟩, fun h => (by cases h), fun h => (by cases h)⟩
  · exact ⟨fun h => (by cases h), fun h => (by cases h), fun h => (by cases h)⟩

theorem strayRestart_rising : strayRestart.TablesRising :=
  ⟨by decide, by decide, by decide, by decide, by decide, by decide, by decide⟩

theorem strayRestart_duress : strayRestart.DuressFirst := fun n r h =>
  (by decide : ∀ p ∈ strayRestart.alm.recs, p.2.kind = some .duress → p.2.cls = 0) (n, r) h

/-- The restart brings the agent to NORMAL, and the settling at its end begins a new opening countdown, of 30 s. -/
theorem strayRestart_restarts :
    let r := (strayRestart.setPending []).start.agent 0
    r.state = .countdown ∧ r.kind = .opening ∧ r.deadline = some 30 := by
  decide +kernel

/-- Refutes O10: at a warm restart a countdown ends and, with a logic table that writes a derived input, another opening
countdown of the same agent begins in the same step, with a later deadline. -/
theorem not_stepKeepsTimes : ¬ Obligations.StepKeepsTimes := by
  intro h
  obtain ⟨hstate, hkind, hdl⟩ := strayRestart_restarts
  obtain ⟨_, hlater⟩ := h strayRestart (strayRestart.setPending []).start strayRestart_rising strayRestart_duress
    strayRestart_timesFit rfl
  have hbefore : strayRestart.agent 0 = dueAgent := strayRestart_agent 0
  obtain ⟨dl, dl', h0, h1, hle⟩ := hlater 0 (by rw [hbefore]; rfl) hstate (by rw [hbefore]; rfl) hkind
  rw [hbefore] at h0
  rw [hdl] at h1
  cases h0
  cases h1
  omega

end Sys2Proof.Machine

/-! ## What every command keeps of the tables and the clock -/

namespace Sys2Proof.Machine

/-- Membership after a change of one slot. -/
theorem mem_change {α : Type} {t : Table α} {k i : Nat} {f : α → α} {x : α} (h : (i, x) ∈ t.change k f) :
    ∃ y, (i, y) ∈ t ∧ (x = y ∨ i = k ∧ x = f y) := by
  obtain ⟨⟨j, y⟩, hj, e⟩ := List.mem_map.1 h
  split at e
  · rename_i hk
    cases e
    exact ⟨y, hj, .inr ⟨hk, rfl⟩⟩
  · cases e
    exact ⟨x, hj, .inl rfl⟩

/-- A change of one alarm record that keeps its kind and subject. -/
theorem AlarmsGood.change {t : Table AlarmRec} (k : Nat) (f : AlarmRec → AlarmRec) (hk : ∀ r, (f r).kind = r.kind)
    (hs : ∀ r, (f r).subject = r.subject) (h : AlarmsGood t) : AlarmsGood (t.change k f) := by
  have hkeep : ∀ {i x}, (i, x) ∈ t.change k f → ∃ y, (i, y) ∈ t ∧ x.kind = y.kind ∧ x.subject = y.subject := by
    intro i x hx
    obtain ⟨y, hy, rfl | ⟨_, rfl⟩⟩ := mem_change hx
    exacts [⟨x, hy, rfl, rfl⟩, ⟨y, hy, hk y, hs y⟩]
  refine ⟨Table.wf_change _ _ h.rising, ?_⟩
  intro i j x y hi hj oi oj hkind hsub
  obtain ⟨x', hx, kx, sx⟩ := hkeep hi
  obtain ⟨y', hy, ky, sy⟩ := hkeep hj
  exact h.one i j x' y' hx hy oi oj (kx ▸ ky ▸ hkind) (sx ▸ sy ▸ hsub)

/-- A damaged occupancy record is not sound, whoever its content names. -/
theorem RecsGood.damaged {t : Table OccRec} (k : Nat) (w : OccRec) (h : RecsGood t) :
    RecsGood (t.change k (fun r => { w with suspect := r.suspect, checkOk := r.suspect })) := by
  have hkeep : ∀ {i x}, (i, x) ∈ t.change k (fun r => { w with suspect := r.suspect, checkOk := r.suspect }) →
      x.sound = true → (i, x) ∈ t := by
    intro i x hx hsound
    obtain ⟨y, hy, rfl | ⟨_, rfl⟩⟩ := mem_change hx
    · exact hy
    · exact absurd hsound (by cases y.suspect <;> simp [OccRec.sound])
  refine ⟨Table.wf_change _ _ h.rising, ?_⟩
  intro i j x y hi hj sx sy hxy
  exact h.one i j x y (hkeep hi sx) (hkeep hj sy) sx sy hxy

/-- What every command does to the tables and the clock: each table keeps its canonical form, one sound record a person
(R83) and one open alarm a kind and subject (R138), the clock stays legal (R182), and no zone but `e` becomes verified
(R91). The Host Port and the clock may change, which a steady operation leaves alone. -/
structure Orderly (e : Option Nat) (s t : State) : Prop where
  doors    : s.door.doors.wf = true → t.door.doors.wf = true
  persons  : s.adm.persons.wf = true → t.adm.persons.wf = true
  grants   : s.adm.grants.wf = true → t.adm.grants.wf = true
  zones    : s.occ.zones.wf = true → t.occ.zones.wf = true
  stations : s.link.stations.wf = true → t.link.stations.wf = true
  recs     : RecsGood s.occ.recs → RecsGood t.occ.recs
  alarms   : AlarmsGood s.alm.recs → AlarmsGood t.alm.recs
  verified : VerifiedFrom e s.occ.zones t.occ.zones
  clock    : s.ClockLegal → t.ClockLegal

theorem State.clockLegal_congr {s t : State} (h : t.ret = s.ret) (hs : s.ClockLegal) : t.ClockLegal :=
  ⟨h ▸ hs.seconds, h ▸ hs.calendar⟩

/-- A steady operation is orderly. -/
theorem Steady.orderly {e : Option Nat} {s t : State} (h : Steady e s t) : Orderly e s t :=
  ⟨h.doors, h.persons, h.grants, h.zones, h.stations, h.recs, h.alarms, h.verified, State.clockLegal_congr h.ret⟩

namespace Orderly

variable {e : Option Nat} {s0 s t : State}

theorem refl (s : State) : Orderly e s s := (Steady.refl s).orderly

theorem trans {a b c : State} (h : Orderly e a b) (k : Orderly e b c) : Orderly e a c where
  doors := k.doors ∘ h.doors
  persons := k.persons ∘ h.persons
  grants := k.grants ∘ h.grants
  zones := k.zones ∘ h.zones
  stations := k.stations ∘ h.stations
  recs := k.recs ∘ h.recs
  alarms := k.alarms ∘ h.alarms
  verified := h.verified.trans k.verified
  clock := k.clock ∘ h.clock

/-- A steady operation follows. -/
theorem steady (h : Orderly e s0 s) (k : Steady e s t) : Orderly e s0 t := h.trans k.orderly

theorem foldl {α : Type} {f : State → α → State} (hf : ∀ t x, Orderly e t (f t x)) (l : List α) (h : Orderly e s0 s) :
    Orderly e s0 (l.foldl f s) := by
  induction l generalizing s with
  | nil => exact h
  | cons x l ih => exact ih (h.trans (hf s x))

/-! ### The blocks that a steady operation leaves alone -/

theorem setHost (h : Orderly e s0 s) (u : HostUnit) : Orderly e s0 (s.setHost u) :=
  ⟨h.doors, h.persons, h.grants, h.zones, h.stations, h.recs, h.alarms, h.verified,
    fun hs => State.clockLegal_congr (s := s) rfl (h.clock hs)⟩

theorem setFree (h : Orderly e s0 s) (n : Nat) : Orderly e s0 (s.setFree n) :=
  ⟨h.doors, h.persons, h.grants, h.zones, h.stations, h.recs, h.alarms, h.verified,
    fun hs => State.clockLegal_congr (s := s) rfl (h.clock hs)⟩

theorem setPending (h : Orderly e s0 s) (q : List Instr) : Orderly e s0 (s.setPending q) :=
  ⟨h.doors, h.persons, h.grants, h.zones, h.stations, h.recs, h.alarms, h.verified,
    fun hs => State.clockLegal_congr (s := s) rfl (h.clock hs)⟩

theorem setRet (h : Orderly e s0 s) (u : RetentionUnit) (hn : s.ret.now ≤ Config.secondsTop → u.now ≤ Config.secondsTop)
    (hc : State.calendarLegal s.ret.calendar → State.calendarLegal u.calendar) : Orderly e s0 (s.setRet u) where
  doors := h.doors
  persons := h.persons
  grants := h.grants
  zones := h.zones
  stations := h.stations
  recs := h.recs
  alarms := h.alarms
  verified := h.verified
  clock := fun hs => ⟨hn (h.clock hs).seconds, hc (h.clock hs).calendar⟩

/-! ### Checks.lean -/

theorem markZone (h : Orderly e s0 s) (k : Nat) : Orderly e s0 (s.markZone k) :=
  h.steady ((Steady.refl s).changeZone k _ (.inr (fun _ hv => by split at hv <;> exact hv)))

theorem markZones (h : Orderly e s0 s) : Orderly e s0 s.markZones :=
  foldl (fun t k => (refl t).markZone k) _ h

/-- Failing several records in turn. -/
theorem failEach_good (now : Nat) (l : List (Nat × AlarmRec)) {u : AlarmUnit} (h : AlarmsGood u.recs) :
    AlarmsGood (l.foldl (fun v p => v.fail now p.1) u).recs := by
  induction l generalizing u with
  | nil => exact h
  | cons p l ih => exact ih (AlarmUnit.fail_good now p.1 h)

/-- The tests of the alarm records. -/
theorem readAlarms (h : Orderly e s0 s) : Orderly e s0 s.readAlarms :=
  h.steady ((Steady.refl s).setAlm _ (failEach_good _ _))

/-- A record that fails is no sound one. -/
theorem sound_of_testedOcc {r : OccRec} (h : (State.testedOcc r).sound = true) : State.testedOcc r = r := by
  unfold State.testedOcc at h ⊢
  split
  · rfl
  · rename_i hc
    simp [hc, OccRec.sound] at h

theorem markFailed (h : Orderly e s0 s) : Orderly e s0 s.markFailed := by
  have h1 : Orderly e s (s.setAlm (State.testedAlarms s.alm s.now)).markZones :=
    markZones ((Steady.refl s).setAlm (State.testedAlarms s.alm s.now) (failEach_good _ _)).orderly
  unfold State.markFailed
  dsimp only
  generalize (s.setAlm (State.testedAlarms s.alm s.now)).markZones = s1 at h1 ⊢
  refine (h.trans h1).trans ⟨Table.wf_map _ (fun _ => rfl), id, id, id, Table.wf_map _ (fun _ => rfl), fun g => ?recs, id,
    VerifiedFrom.refl _, fun hs => ⟨hs.seconds, ?calendar⟩⟩
  case recs =>
    exact g.map (fun p => (p.1, State.testedOcc p.2)) (fun _ => rfl)
      (fun p hp => congrArg OccRec.person (sound_of_testedOcc hp)) (fun p hp => (sound_of_testedOcc hp) ▸ hp)
  case calendar =>
    have hc := hs.calendar
    cases hok : s1.ret.calendarOk <;> simp_all [State.calendarLegal]

theorem readTables (h : Orderly e s0 s) : Orderly e s0 s.readTables := by
  unfold State.readTables
  split
  · exact h
  · exact (markFailed h).steady ((((Steady.refl _).tellFailed s).syncEntries.conclude.recomputeFor _).finish)

theorem raiseSuspect (h : Orderly e s0 s) (t : Tbl) (n : Nat) : Orderly e s0 (s.raiseSuspect t n) :=
  h.steady ((Steady.refl s).raiseSuspect t n)

/-- An Alarm Unit with the same records. -/
theorem setAlm_recs (h : Orderly e s0 s) {u : AlarmUnit} (hu : u.recs = s.alm.recs) : Orderly e s0 (s.setAlm u) :=
  h.steady ((Steady.refl s).setAlm _ (hu ▸ id))

theorem readRoute_recs (u : AlarmUnit) (k : Kind) : (State.readRoute u k).recs = u.recs := by
  unfold State.readRoute
  split <;> rfl

theorem routeFailed_recs (u : AlarmUnit) (k : Nat) : (State.routeFailed u k).recs = u.recs := by
  unfold State.routeFailed
  split <;> rfl

theorem readForRaise (h : Orderly e s0 s) : Orderly e s0 s.readForRaise := by
  have h1 : Orderly e s0 (s.setAlm (State.readRoute (State.testedLimit s.readAlarms.alm) .recordSuspect)) :=
    setAlm_recs (readAlarms h) (readRoute_recs _ _)
  unfold State.readForRaise
  dsimp only
  (repeat' split) <;> simp only [h1, raiseSuspect]

theorem readZones (h : Orderly e s0 s) : Orderly e s0 s.readZones :=
  (markZones h).steady ((Steady.refl _).tellTable _ _)

theorem itemFailed (h : Orderly e s0 s) (i : Nat × Nat) : Orderly e s0 (s.itemFailed i) := by
  have hr := readForRaise h
  unfold State.itemFailed
  split
  · exact hr.steady ((Steady.refl _).testPerson _)
  · exact hr.steady ((Steady.refl _).testGrant _)
  · exact readZones hr
  · exact raiseSuspect (hr.steady ((Steady.refl _).changeDoor _ _)) _ _
  · exact raiseSuspect (hr.steady ((Steady.refl _).putClass _ _)) _ _
  · exact raiseSuspect (hr.steady ((Steady.refl _).changeAgent _ _)) _ _
  · exact raiseSuspect (hr.steady ((Steady.refl _).putLogic _ _)) _ _
  · exact raiseSuspect (readForRaise (setAlm_recs h (routeFailed_recs _ _))) _ _
  · exact readAlarms h
  · exact readAlarms h
  · exact readAlarms h
  · exact readTables h

theorem sweepStep (h : Orderly e s0 s) : Orderly e s0 s.sweepStep := by
  unfold State.sweepStep
  split
  · exact h
  · have h1 := fun u => setRet h { s.ret with sweep := u } id id
    dsimp only
    split
    · unfold State.visitEnds
      split
      · exact (itemFailed (h1 _) _).steady (Steady.refl _).syncServing.syncEntries.finish
      · exact itemFailed (h1 _) _
    · exact h1 _

/-- Damage replaces the content of an item, and leaves no occupancy record sound that it was not. -/
theorem damageOne (h : Orderly e s0 s) (d : Damage) : Orderly e s0 (s.damageOne d) := by
  refine h.trans ?_
  have r := Steady.refl (e := e) s
  cases d with
  | person k c => unfold State.damageOne; dsimp only; split; exacts [refl s, (r.putPerson _ _).orderly]
  | grant k c => unfold State.damageOne; dsimp only; split; exacts [refl s, (r.putGrant _ _).orderly]
  | zone k c => exact (r.changeZone k (State.damagedZone s.occ.zones k c) (.inr fun _ hv => hv)).orderly
  | door k c => exact (r.changeDoor _ _).orderly
  | cls k c => exact (r.putClass _ _).orderly
  | occupancy k x => exact (r.setOcc { s.occ with recs := s.occ.recs.change k (fun r => { x with suspect := r.suspect, checkOk := r.suspect }) }
      id (fun g => g.damaged k x) (VerifiedFrom.refl _)).orderly
  | agent k c => exact (r.changeAgent k (fun r => { r with cfg := c, checkOk := r.suspect })).orderly
  | logic k c => exact (r.putLogic _ _).orderly
  | route k c => exact setAlm_recs (refl s) rfl
  | routeLimit n => exact setAlm_recs (refl s) rfl
  | alarm k => exact (r.setAlm { s.alm with recs := s.alm.recs.change k (fun r => { r with checkOk := false }) }
      (fun g => g.change k (fun r => { r with checkOk := false }) (fun _ => rfl) (fun _ => rfl))).orderly
  | station k c => exact (r.changeStation _ _).orderly
  | calendar => exact setRet (refl s) _ id id
  | classMask => exact setAlm_recs (refl s) rfl
  | holdSet c => exact setAlm_recs (refl s) rfl
  | marker => exact setRet (refl s) _ id id
  | markerCheck => exact setRet (refl s) _ id id

theorem applyDamages (h : Orderly e s0 s) (ds : List Damage) : Orderly e s0 (s.applyDamages ds) :=
  foldl (fun t d => damageOne (refl t) d) ds h

/-! ### Starts and time -/

theorem fullCheck (h : Orderly e s0 s) : Orderly e s0 s.fullCheck :=
  (markFailed h).steady (((Steady.refl _).testPersons _).foldl (fun _ k ht => ht.testGrant k) _ |>.tellFailed _)

theorem warmRestart (h : Orderly e s0 s) : Orderly e s0 s.warmRestart := by
  have h1 : Orderly e s0 s.fullCheck.restartDoors.restartAdmission.restartLink.restartAlarmUnit.restartOccupancy.restartRelease :=
    (fullCheck h).steady
      ((Steady.refl _).restartDoors.restartAdmission.restartLink.restartAlarmUnit.restartOccupancy.restartRelease)
  unfold State.warmRestart
  generalize s.fullCheck.restartDoors.restartAdmission.restartLink.restartAlarmUnit.restartOccupancy.restartRelease = t at h1 ⊢
  have h2 : Orderly e s0 t.restartClock := by
    have hr := setRet h1 { t.ret with base := 0, sweep := (0, 0) } id id
    unfold State.restartClock
    dsimp only
    split
    · exact hr.steady (Steady.refl _).raiseClockUnset
    · exact hr
  exact (setHost h2 _).steady (Steady.refl _).finish

/-- A cold start leaves tables that are empty but for the one alarm record. -/
theorem coldStart (s : State) : Orderly e s s.coldStart where
  doors := fun _ => rfl
  persons := fun _ => rfl
  grants := fun _ => rfl
  zones := fun _ => rfl
  stations := fun _ => rfl
  recs := fun _ => ⟨rfl, fun _ _ _ _ h => absurd h List.not_mem_nil⟩
  alarms := fun _ => ⟨rfl, fun i j x y hi hj _ _ _ _ => by
    cases List.mem_singleton.1 hi
    cases List.mem_singleton.1 hj
    rfl⟩
  verified := fun _ _ _ hq => by cases hq
  clock := fun _ => ⟨Nat.zero_le _, trivial⟩

theorem start (h : Orderly e s0 s) : Orderly e s0 s.start := by
  unfold State.start
  split
  · exact warmRestart h
  · exact h.trans (coldStart s)

theorem loseLive (h : Orderly e s0 s) : Orderly e s0 s.loseLive := by
  unfold State.loseLive
  refine setRet (h.steady ?_) _ id id
  exact (((Steady.refl s).restartDoors.setAdm { s.adm with waits := [] } id id).restartLink).setRel _

theorem supplyStart (h : Orderly e s0 s) (retained : Bool) (ds : List Damage) :
    Orderly e s0 (s.supplyStart retained ds) := by
  unfold State.supplyStart
  split
  · exact start (applyDamages (loseLive h) ds)
  · exact start (setRet h _ id id)

/-- The calendar stays in its ranges as a second passes (R182). -/
theorem calendarLegal_nextSecond {c : Calendar} (h : State.calendarLegal (some c)) :
    State.calendarLegal (some (State.nextSecond c).1) := by
  obtain ⟨hday, hminute, hsecond⟩ := h
  unfold State.nextSecond
  split
  · exact ⟨hday, hminute, by dsimp only; omega⟩
  · refine ⟨?_, ?_, by simp⟩ <;> dsimp only <;> split_ifs <;> omega

theorem secondLater (h : Orderly e s0 s) : Orderly e s0 (s.setRet (State.secondLater s.ret)) := by
  refine setRet h _ (fun hn => ?_) (fun hc => ?_) <;> unfold State.secondLater <;> dsimp only <;> split
  · assumption
  · exact hn
  · cases hk : s.ret.calendar with
    | none => trivial
    | some c => exact calendarLegal_nextSecond (hk ▸ hc)
  · exact hc

theorem advanceCalendar (h : Orderly e s0 s) : Orderly e s0 s.advanceCalendar := by
  have hs := secondLater h
  unfold State.advanceCalendar
  dsimp only
  split
  · exact hs.steady (Steady.refl _).evaluateAllHours
  · exact hs

theorem idle (h : Orderly e s0 s) : Orderly e s0 s.idle :=
  (readTables (setRet h { s.ret with base := State.baseLater s.ret.base } id id)).steady (Steady.refl _).refreshLanes

/-! ### The Host Port -/

theorem takeWrite (h : Orderly e s0 s) {u : State} (hu : s.takeWrite = some u) : Orderly e s0 u := by
  unfold State.takeWrite at hu
  split at hu <;> cases hu <;> exact setHost h _

theorem followed {x : State × Answer} (h : Orderly e s0 x.1) : Orderly e s0 (State.followed x) := by
  unfold State.followed
  split
  · exact h.steady (Steady.refl _).syncEntries.finish
  · exact h

theorem serveRead (h : Orderly e s0 s) {r : Req} {f : State.Owner} (hf : ∀ u, Orderly e u (f u r).1) :
    Orderly e s0 (s.serveRead r f) := by
  unfold State.serveRead
  split
  · exact setHost h _
  · rename_i u hu
    split
    · exact setHost (takeWrite h hu) _
    · exact setHost ((readTables (takeWrite h hu)).trans (hf _)) _

theorem serveWrite (h : Orderly e s0 s) {r : Req} {f : State.Owner} (hf : ∀ u, Orderly e u (f u r).1) :
    Orderly e s0 (s.serveWrite r f) := by
  unfold State.serveWrite
  split
  · exact setHost h _
  · rename_i u hu
    split
    · exact setHost (takeWrite h hu) _
    · exact setHost (followed ((readTables (takeWrite h hu)).trans (hf _))) _

theorem byTable (h : Orderly e s0 s) {r : Req} {serve : State → Req → State.Owner → State} {f : Tbl → State.Owner}
    (hf : ∀ t, Orderly e s0 (serve s r (f t))) : Orderly e s0 (s.byTable r serve f) := by
  unfold State.byTable
  split
  · exact hf _
  · split
    · exact setHost h _
    · rename_i u hu
      exact setHost (takeWrite h hu) _

/-- A number that was read in a range lies in it. -/
theorem numIn_le {w lo hi n : Nat} {v : List Byte} (h : numIn w lo hi v = some n) : n ≤ hi := by
  unfold numIn at h
  split at h
  · cases h
  · split at h
    · cases h
      omega
    · cases h

/-- A calendar that a SET_CLOCK carries is in its ranges (R183). -/
theorem calendarLegal_clockIn {fs : List Field} {c : Calendar} (h : State.clockIn fs = some c) :
    State.calendarLegal (some c) := by
  have hle : ∀ {o : Option (List Byte)} {w hi n : Nat}, o.bind (numIn w 0 hi) = some n → n ≤ hi := by
    intro o w hi n ho
    obtain ⟨v, _, hv⟩ := Option.bind_eq_some_iff.1 ho
    exact numIn_le hv
  unfold State.clockIn at h
  split at h
  · split at h
    · rename_i hd hm hx
      cases h
      exact ⟨hle hd, hle hm, hle hx⟩
    · cases h
  · cases h

theorem setClock (s : State) (r : Req) : Orderly e s (s.setClock r).1 := by
  unfold State.setClock
  split
  · split
    · exact refl s
    · rename_i c hc
      refine (setRet (refl s) { s.ret with calendar := some c } id (fun _ => ?_)).steady
        ((Steady.refl _).endAlarm _ _).evaluateAllHours
      exact calendarLegal_clockIn hc
  · exact refl s

theorem commission (s : State) (r : Req) : Orderly e s (s.commission r).1 := by
  unfold State.commission
  split
  · exact setRet (refl s) _ id id
  · exact refl s

theorem ackRestart (s : State) (r : Req) : Orderly e s (s.ackRestart r).1 := by
  unfold State.ackRestart
  split
  · exact setHost (refl s) _
  · exact refl s

theorem refuseFrame (h : Orderly e s0 s) (frame : List Byte) : Orderly e s0 (s.refuseFrame frame) := by
  unfold State.refuseFrame
  split
  · exact setHost h _
  · rename_i u hu
    have h1 := takeWrite h hu
    refine setHost ?_ _
    unfold State.countTag
    split
    · exact h1
    · exact setFree h1 _
    · exact setFree h1 _

theorem restartRequest (h : Orderly e s0 s) (r : Req) : Orderly e s0 (s.restartRequest r) := by
  unfold State.restartRequest
  split
  · exact setHost h _
  · rename_i u hu
    split
    · exact start (takeWrite h hu)
    · exact setHost (takeWrite h hu) _

theorem readTransaction (h : Orderly e s0 s) : Orderly e s0 s.readTransaction := by
  unfold State.readTransaction
  split <;> exact setHost h _

end Orderly

/-- The zone that a command may verify: the one that a SWEEP_CLEAR names (R91). -/
def verifies : Instr → Option Nat
  | .sweepClear r => keyIn 1 1 31 r
  | _ => none

open Orderly in
/-- Every command is orderly, and the one zone that it may verify is the one that a SWEEP_CLEAR names. -/
theorem exec_next_orderly (i : Instr) (s : State) : ∃ t, exec i s = .next t ∧ Orderly (verifies i) s t := by
  have rd : ∀ {e}, Orderly e s s.readTables := readTables (refl s)
  cases i
  case lookup r => exact ⟨_, rfl, byTable (refl s) fun t => serveRead (refl s) fun u => ((Steady.refl u).lookupIn t r).orderly⟩
  case list r => exact ⟨_, rfl, byTable (refl s) fun t => serveRead (refl s) fun u => ((Steady.refl u).listIn t r).orderly⟩
  case insert r => exact ⟨_, rfl, byTable (refl s) fun t => serveWrite (refl s) fun u => ((Steady.refl u).insertIn t r).orderly⟩
  case amend r => exact ⟨_, rfl, byTable (refl s) fun t => serveWrite (refl s) fun u => ((Steady.refl u).amendIn t r).orderly⟩
  case retire r => exact ⟨_, rfl, byTable (refl s) fun t => serveWrite (refl s) fun u => ((Steady.refl u).retireIn t r).orderly⟩
  case freeze r => exact ⟨_, rfl, serveWrite (refl s) fun u => ((Steady.refl u).freeze r).orderly⟩
  case thaw r => exact ⟨_, rfl, serveWrite (refl s) fun u => ((Steady.refl u).thaw r).orderly⟩
  case sweepClear r => exact ⟨_, rfl, serveWrite (refl s) fun u => ((Steady.refl u).sweepClear r rfl).orderly⟩
  case hoursOverride r => exact ⟨_, rfl, serveWrite (refl s) fun u => ((Steady.refl u).hoursOverride r).orderly⟩
  case remoteRelease r => exact ⟨_, rfl, serveWrite (refl s) fun u => ((Steady.refl u).remoteRelease r).orderly⟩
  case lockoutOn r => exact ⟨_, rfl, serveWrite (refl s) fun u => ((Steady.refl u).lockout true r).orderly⟩
  case lockoutOff r => exact ⟨_, rfl, serveWrite (refl s) fun u => ((Steady.refl u).lockout false r).orderly⟩
  case isolate r => exact ⟨_, rfl, serveWrite (refl s) fun u => ((Steady.refl u).isolate r).orderly⟩
  case deisolate r => exact ⟨_, rfl, serveWrite (refl s) fun u => ((Steady.refl u).deisolate r).orderly⟩
  case ventClear r => exact ⟨_, rfl, serveWrite (refl s) fun u => ((Steady.refl u).ventClear r).orderly⟩
  case nextNotice r => exact ⟨_, rfl, serveRead (refl s) fun u => ((Steady.refl u).nextNotice r).orderly⟩
  case acknowledge r => exact ⟨_, rfl, serveWrite (refl s) fun u => ((Steady.refl u).acknowledge r).orderly⟩
  case restore r => exact ⟨_, rfl, serveWrite (refl s) fun u => ((Steady.refl u).restore r).orderly⟩
  case setMask r => exact ⟨_, rfl, serveRead (refl s) fun u => ((Steady.refl u).setMask r).orderly⟩
  case setClock r => exact ⟨_, rfl, serveWrite (refl s) fun u => Orderly.setClock u r⟩
  case status r => exact ⟨_, rfl, serveRead (refl s) fun u => ((Steady.refl u).statusRequest r).orderly⟩
  case commission r => exact ⟨_, rfl, serveRead (refl s) fun u => Orderly.commission u r⟩
  case ackRestart r => exact ⟨_, rfl, serveRead (refl s) fun u => Orderly.ackRestart u r⟩
  case restart r => exact ⟨_, rfl, restartRequest (refl s) r⟩
  case unknownRequest frame => exact ⟨_, rfl, refuseFrame (refl s) frame⟩
  case hostWriteOverrun => exact ⟨_, rfl, setHost (refl s) _⟩
  case hostRead => exact ⟨_, rfl, readTransaction (refl s)⟩
  case poll => exact ⟨_, rfl, rd.steady (Steady.refl _).refreshLanes.pollNext.finish⟩
  case goodReport bytes => exact ⟨_, rfl, rd.steady ((Steady.refl _).reply bytes)⟩
  case replyWindowExpiry => exact ⟨_, rfl, rd.steady (Steady.refl _).windowEnds⟩
  case leadExpiry d => exact ⟨_, rfl, rd.steady ((Steady.refl _).leadEnds d).finish⟩
  case strikeTimerExpiry d => exact ⟨_, rfl, rd.steady ((Steady.refl _).strikeEnds d).finish⟩
  case heldOpenExpiry d => exact ⟨_, rfl, rd.steady ((Steady.refl _).heldOpenEnds d).finish⟩
  case relockHoldExpiry d => exact ⟨_, rfl, rd.steady ((Steady.refl _).relockEnds d).finish⟩
  case interlockTimeout d => exact ⟨_, rfl, rd.steady ((Steady.refl _).interlockTimesOut d).finish⟩
  case exitDue d => exact ⟨_, rfl, rd.steady ((Steady.refl _).exitFallsDue d).finish⟩
  case indicationReturn d => exact ⟨_, rfl, rd.steady ((Steady.refl _).indicationEnds d).finish⟩
  case pairWindowExpiry d => exact ⟨_, rfl, rd.steady ((Steady.refl _).pairWindowEnds d).finish⟩
  case waitExpired => exact ⟨_, rfl, rd.steady (Steady.refl _).waitExpires.finish⟩
  case dwellDeadline i => exact ⟨_, rfl, rd.steady ((Steady.refl _).takeDwell i).finish⟩
  case checkinDeadline i => exact ⟨_, rfl, rd.steady ((Steady.refl _).takeCheckin i).finish⟩
  case pairGraceDeadline i => exact ⟨_, rfl, rd.steady ((Steady.refl _).takePairGrace i).finish⟩
  case countdownDeadline a => exact ⟨_, rfl, rd.steady ((Steady.refl _).takeCountdown a).finish⟩
  case confirmationDeadline a => exact ⟨_, rfl, rd.steady ((Steady.refl _).takeConfirmation a).finish⟩
  case calendarAdvance => exact ⟨_, rfl, (advanceCalendar rd).steady (Steady.refl _).finish⟩
  case recordCheckSweep ds => exact ⟨_, rfl, sweepStep (applyDamages (refl s) ds)⟩
  case resetLine ds => exact ⟨_, rfl, start (applyDamages (refl s) ds)⟩
  case mainSupplyDip b ds => exact ⟨_, rfl, supplyStart (refl s) b ds⟩
  case mainSupplyRestored b ds => exact ⟨_, rfl, supplyStart (refl s) b ds⟩

theorem exec_orderly {i : Instr} {s t : State} (h : exec i s = .next t) : Orderly (verifies i) s t := by
  obtain ⟨u, hu, ho⟩ := exec_next_orderly i s
  rw [h, Host.Outcome.next.injEq] at hu
  exact hu ▸ ho

/-- Every step is orderly. -/
theorem step_orderly {s t : State} (h : step s = .next t) : ∃ e, Orderly e s t := by
  unfold step at h
  split at h
  · cases h
    exact ⟨none, (Orderly.refl s).idle⟩
  · exact ⟨_, ((Orderly.refl s).setPending _).trans (exec_orderly h)⟩

/-- Settles O12: a command other than a SWEEP_CLEAR of the zone leaves no zone verified that was not. -/
theorem verifiedOnlyBySweep : Obligations.VerifiedOnlyBySweep := by
  intro i s t z r r' hexec hr hunverified hr' hverified
  have hnamed : (verifies i) = some z := by
    by_contra hne
    obtain ⟨q, hq, hqv⟩ := (exec_orderly hexec).verified z r' hne hr' hverified
    rw [show s.occ.zones.find z = some r from hr] at hq
    cases hq
    rw [hunverified] at hqv
    cases hqv
  cases i with
  | sweepClear q => exact ⟨q, rfl, hnamed⟩
  | _ => cases hnamed

end Sys2Proof.Machine

/-! ## Laws that every operation keeps, from the edits that it makes

An invariant of the part is closed under the edits that the operations are made of (`Closed`). The operations are walked
through once, in `Kept`, for any such invariant. -/

namespace Sys2Proof.Machine

/-! ### What the edits of a door keep -/

/-- The persons of a door's pending ENTRY passages. -/
def entrants (r : DoorRec) : List (Option Nat) :=
  match r.cycle with
  | none => []
  | some c => (c.passages.filter (fun x => x.dir = .entry)).map (·.person)

/-- The person of a door's pair wait. -/
def waiter (r : DoorRec) : Option Nat := r.pairWait.map (·.person)

/-- The cycle of a door fits its state, and a right it holds too (R19). -/
def Fits (r : DoorRec) : Prop := State.cycleFits r = true ∧ (r.right = true → State.mayHold r.state = true)

/-- A door fits, or `b` says that it is SECURED while its completion has not yet taken its cycle (R24). -/
def NearlyFits (b : Prop) (r : DoorRec) : Prop := Fits r ∨ (b ∧ r.state = .secured ∧ r.right = false)

/-- An edit of a door that adds no ENTRY passage and no pair wait and leaves the configuration. -/
structure Plain (r q : DoorRec) : Prop where
  cfg      : q.cfg = r.cfg
  checkOk  : r.checkOk = true → q.checkOk = true
  entrants : entrants q ⊆ entrants r
  waiter   : waiter q = none ∨ waiter q = waiter r

/-- An edit of a door that gains no right and no release, and keeps the cycle fit to the state. -/
structure Yields (r q : DoorRec) : Prop where
  fits     : ∀ b, NearlyFits b r → NearlyFits b q
  releases : NearlyFits True r → State.releases q = true → State.releases r = true ∧ q.right = r.right
  right    : q.right = true → r.right = true

theorem Plain.refl (r : DoorRec) : Plain r r := ⟨rfl, id, List.Subset.refl _, .inr rfl⟩

theorem Plain.trans {r q w : DoorRec} (h : Plain r q) (k : Plain q w) : Plain r w := by
  refine ⟨k.cfg.trans h.cfg, k.checkOk ∘ h.checkOk, List.Subset.trans k.entrants h.entrants, ?_⟩
  rcases k.waiter with hk | hk
  · exact .inl hk
  · exact hk ▸ h.waiter

/-- An edit of other fields than the state, the right and whether there is a cycle. -/
theorem Yields.of_same {r q : DoorRec} (hs : q.state = r.state) (hr : q.right = r.right)
    (hc : q.cycle.isSome = r.cycle.isSome) : Yields r q := by
  have hfits : Fits r → Fits q := by
    have hn : q.cycle.isNone = r.cycle.isNone := by rw [← Option.not_isSome, ← Option.not_isSome, hc]
    rintro ⟨h1, h2⟩
    refine ⟨?_, by rw [hs, hr]; exact h2⟩
    unfold State.cycleFits at h1 ⊢
    rw [hs, hc, hn]
    exact h1
  refine ⟨fun b h => h.imp hfits (fun ⟨hb, h1, h2⟩ => ⟨hb, hs ▸ h1, hr ▸ h2⟩), fun _ h => ⟨?_, hr⟩, hr ▸ id⟩
  unfold State.releases at h ⊢
  rw [← hs]
  exact h

/-- A door that comes to rest without a cycle and without the right. -/
theorem Yields.of_rest {r q : DoorRec} (hs : q.state = .secured ∨ q.state = .unknown) (hr : q.right = false)
    (hc : q.cycle = none) : Yields r q := by
  refine ⟨fun b _ => .inl ⟨?_, by simp [hr]⟩, fun _ h => ?_, by simp [hr]⟩
  · unfold State.cycleFits
    rcases hs with hs | hs <;> simp [hs, hc]
  · unfold State.releases at h
    rcases hs with hs | hs <;> simp [hs] at h

/-- A door that leaves or keeps its right and takes a state with a cycle that does not release. -/
theorem Yields.of_state {r q : DoorRec} (hq : Fits q) (hrel : State.releases q = false) (hr : q.right = true → r.right = true) :
    Yields r q :=
  ⟨fun _ _ => .inl hq, fun _ h => absurd h (by simp [hrel]), hr⟩

/-! ### Scopes -/

/-- What an invariant is relative to while an operation is under way: the door whose completion has not yet taken its
cycle (R24), and persons whose records are known to exist (R47). -/
structure Scope where
  but   : Option Nat := none
  known : List Nat := []

/-- The scope with one more person known. -/
def Scope.knowing (c : Scope) (p : Nat) : Scope := { c with known := p :: c.known }

/-! ### What the edits of the other tables keep -/

/-- A property of alarm records that depends on kind, class and check value only, and that a new record has. -/
structure Mild (Q : AlarmRec → Prop) : Prop where
  edit  : ∀ {r q : AlarmRec}, q.kind = r.kind → q.cls = r.cls → q.checkOk = r.checkOk → Q r → Q q
  fresh : ∀ {r : AlarmRec}, r.checkOk = true → (r.kind = some .duress → r.cls = 0) → Q r

/-- Every record of an alarm table has the property. -/
def AllAlarms (Q : AlarmRec → Prop) (t : Table AlarmRec) : Prop := ∀ n r, (n, r) ∈ t → Q r

/-- The items of the Alarm Unit beside its records agree with their check values. -/
def RestAgrees (u : AlarmUnit) : Prop :=
  (∀ k < 32, (u.routeRec k).checkOk = true) ∧ u.limitOk = true ∧ u.maskOk = true ∧ u.holdsBad = 0#4

/-- An edit of the Alarm Unit that keeps every mild property of its records, and the agreement of its other items. -/
structure AlmTame (u v : AlarmUnit) : Prop where
  recs : ∀ {Q}, Mild Q → AllAlarms Q u.recs → AllAlarms Q v.recs
  rest : RestAgrees u → RestAgrees v

/-- The records of the Release Unit agree with their check values. -/
def RelAgrees (u : ReleaseUnit) : Prop :=
  (∀ a < 8, ((u.agents[a]?).getD {}).checkOk = true) ∧ (∀ a < 8, ((u.logic[a]?).getD {}).checkOk = true)

/-- The station records agree with their check values. -/
def LinkAgrees (u : LinkUnit) : Prop := ∀ a r, (a, r) ∈ u.stations → r.checkOk = true

/-- The class records agree with their check values. -/
def ClassesAgree (v : Vector ClassRec 8) : Prop := ∀ k < 8, ((v[k]?).getD {}).checkOk = true

/-- An edit of the Admission Unit that loses no person, and keeps the agreement of the records that are not suspect. -/
structure AdmTame (u v : AdmissionUnit) : Prop where
  persons : ∀ p, (u.persons.find p).isSome = true → (v.persons.find p).isSome = true
  agree   : (∀ k r, (k, r) ∈ u.persons → (r.checkOk || r.suspect) = true) →
    ∀ k r, (k, r) ∈ v.persons → (r.checkOk || r.suspect) = true
  grants  : (∀ k r, (k, r) ∈ u.grants → (r.checkOk || r.suspect) = true) →
    ∀ k r, (k, r) ∈ v.grants → (r.checkOk || r.suspect) = true

/-- The check values of the zone records agree. -/
def ZonesAgree (t : Table ZoneRec) : Prop := ∀ z r, (z, r) ∈ t → r.checkOk = true

/-- A zone of a table is HELD, or the number names no zone of it. -/
def heldIn (t : Table ZoneRec) (z : Nat) : Bool := match t.find z with | none => true | some r => r.freeze = .held

/-- Zone records in place of those of `s`: none becomes HELD with an admission in flight (R75). -/
structure ZonesTame (s : State) (t : Table ZoneRec) : Prop where
  held  : ∀ z, heldIn t z = true → heldIn s.occ.zones z = true ∨ s.inFlight z = 0
  agree : ZonesAgree s.occ.zones → ZonesAgree t

/-- Occupancy records in place of those of `s`: a record that is sound is that of a person whom a sound record named, or
of one who is known. -/
structure RecsTame (c : Scope) (s : State) (t : Table OccRec) : Prop where
  sound : ∀ i r, (i, r) ∈ t → r.sound = true →
    r.person ∈ c.known ∨ ∃ j q, (j, q) ∈ s.occ.recs ∧ q.sound = true ∧ q.person = r.person
  agree : (∀ i r, (i, r) ∈ s.occ.recs → r.checkOk = true) → ∀ i r, (i, r) ∈ t → r.checkOk = true

/-- The inner zone of a door is THAWED. -/
def thawedAt (s : State) (r : DoorRec) : Prop := ∃ z, s.zone? r.cfg.inner = some z ∧ z.freeze = .thawed

/-- The passages may be handed over at a door: an ENTRY only while its inner zone is THAWED, and of a person who is
known, if of one. -/
def Admissible (c : Scope) (s : State) (r : DoorRec) (xs : List Passage) : Prop :=
  ∀ x ∈ xs, x.dir = .entry → thawedAt s r ∧ ∀ p, x.person = some p → p ∈ c.known

/-! ### Closed invariants -/

/-- The invariant is closed under the edits that the operations are made of. -/
structure Closed (P : Scope → State → Prop) : Prop where
  alm : ∀ {c s} (u : AlarmUnit), AlmTame s.alm u → P c s → P c (s.setAlm u)
  rel : ∀ {c s} (u : ReleaseUnit), (RelAgrees s.rel → RelAgrees u) → P c s → P c (s.setRel u)
  link : ∀ {c s} (u : LinkUnit), (LinkAgrees s.link → LinkAgrees u) → P c s → P c (s.setLink u)
  ret : ∀ {c s} (u : RetentionUnit), (s.ret.calendarOk = true → u.calendarOk = true) →
    (s.ret.markerCheck = true → u.markerCheck = true) → P c s → P c (s.setRet u)
  host : ∀ {c s} (u : HostUnit), P c s → P c (s.setHost u)
  free : ∀ {c s} (n : Nat), P c s → P c (s.setFree n)
  pending : ∀ {c s} (q : List Instr), P c s → P c (s.setPending q)
  adm : ∀ {c s} (u : AdmissionUnit), AdmTame s.adm u → P c s → P c (s.setAdm u)
  dropPerson : ∀ {b s} (k : Nat), s.heldInPart k = false → P { but := b } s →
    P { but := b } (s.setAdm { s.adm with persons := s.adm.persons.del k })
  zones : ∀ {c s} (t : Table ZoneRec), ZonesTame s t → P c s → P c (s.setOcc { s.occ with zones := t })
  recs : ∀ {c s} (t : Table OccRec), RecsTame c s t → P c s → P c (s.setOcc { s.occ with recs := t })
  classes : ∀ {c s} (v : Vector ClassRec 8), (ClassesAgree s.door.classes → ClassesAgree v) → P c s →
    P c (s.setDoor { s.door with classes := v })
  forget : ∀ {c s} (l : List Nat), l ⊆ c.known → P c s → P { c with known := l } s
  know : ∀ {c s} (p : Nat), (s.person? p).isSome = true → P c s → P (c.knowing p) s
  knowEntrant : ∀ {c s d r} (p : Nat), s.door? d = some r → some p ∈ entrants r → P c s → P (c.knowing p) s
  knowWaiter : ∀ {c s d r} (p : Nat), s.door? d = some r → waiter r = some p → P c s → P (c.knowing p) s
  /-- A door's completion is about to be taken. -/
  await : ∀ {k s} (d : Nat), P { known := k } s → P { but := some d, known := k } s
  /-- A door's completion has been taken. -/
  awaited : ∀ {k s} (d : Nat), (∀ r, s.door? d = some r → r.cycle = none) → P { but := some d, known := k } s →
    P { known := k } s
  takeCycle : ∀ {k s} (d : Nat), P { but := some d, known := k } s → P { known := k } (s.takeCycle d)
  putDoor : ∀ {c s d r} (q : DoorRec), s.door? d = some r → Plain r q → Yields r q → P c s → P c (s.putDoor d q)
  changeDoor : ∀ {c s} (d : Nat) (f : DoorRec → DoorRec), (∀ r, Plain r (f r)) →
    (∀ r, s.door? d = some r → Yields r (f r)) → P c s → P c (s.changeDoor d f)
  mapDoors : ∀ {c s} (f : DoorRec → DoorRec), (∀ r, Plain r (f r)) → (∀ r, Yields r (f r)) → P c s →
    P c (s.setDoor { s.door with doors := s.door.doors.map (fun p => (p.1, f p.2)) })
  /-- A door that closes is SECURED, and its completion takes the cycle. -/
  secure : ∀ {k s d r} (q : DoorRec), s.door? d = some r → Plain r q → q.state = .secured → q.right = false →
    P { but := some d, known := k } s → P { but := some d, known := k } (s.putDoor d q)
  arbitrate : ∀ {c s} (d : Nat), P c s → P c (s.arbitrate d)
  release : ∀ {c s d r} (xs : List Passage), s.door? d = some r → Admissible c s r xs → P c s →
    P c (s.releaseRequest d xs).1
  beginWait : ∀ {c s d r} (w : PairWait), s.door? d = some r → thawedAt s r → w.person ∈ c.known → P c s →
    P c (s.changeDoor d (fun q => { q with pairWait := some w }))
  reopen : ∀ {c s d r}, s.door? d = some r → r.state = .relocking → P c s → P c (s.reopen d r)
  override : ∀ {c s d r}, s.door? d = some r → r.state = .interlockWait → P c s → P c (s.overrideRight d)
  placeDoor : ∀ {c s} (k : Nat) (x : DoorCfg), s.door? k = none → s.zoneHeld x.inner = true →
    (∀ p, x.partner = some p → s.pairRefusal k x.inner p = none) → P c s →
    P c ((s.putDoor k { cfg := x }).repair k none x.partner)
  editDoor : ∀ {c s k q} (x : DoorCfg), s.door? k = some q → s.doorRefusal k q x = none → P c s →
    P c ((s.putDoor k { q with cfg := x, suspect := false, checkOk := true }).repair k q.cfg.partner x.partner)
  dropDoor : ∀ {c s k q}, s.door? k = some q → q.cfg.partner = none → State.idleDoor q = true → P c s →
    P c (s.setDoor { s.door with doors := s.door.doors.del k })

/-- A closed invariant that holds of a state in a scope. -/
structure Kept (P : Scope → State → Prop) (c : Scope) (s : State) : Prop where
  closed : Closed P
  holds  : P c s

end Sys2Proof.Machine

/-! ## The operations of the Alarm Unit keep every mild property of its records -/

namespace Sys2Proof.Machine

theorem Mild.duress : Mild (fun r => r.kind = some .duress → r.cls = 0) where
  edit := fun hk hc _ h hd => hc.trans (h (hk.symm.trans hd))
  fresh := fun _ h => h

theorem Mild.checkOk : Mild (fun r => r.checkOk = true) where
  edit := fun _ _ hc h => hc.trans h
  fresh := fun h _ => h

namespace AllAlarms

variable {Q : AlarmRec → Prop} {t : Table AlarmRec}

theorem put (h : AllAlarms Q t) (n : Nat) {w : AlarmRec} (hw : Q w) : AllAlarms Q (t.put n w) := by
  intro i x hx
  rcases AlarmsGood.mem_put hx with ⟨_, rfl⟩ | hx
  · exact hw
  · exact h i x hx

theorem filter (h : AllAlarms Q t) (p : Nat × AlarmRec → Bool) : AllAlarms Q (t.filter p) :=
  fun i x hx => h i x (List.mem_filter.1 hx).1

theorem find (h : AllAlarms Q t) {n : Nat} {r : AlarmRec} (hr : t.find n = some r) : Q r := h n r (Table.mem_of_find hr)

theorem map (h : AllAlarms Q t) {f : AlarmRec → AlarmRec} (hf : ∀ r, Q r → Q (f r)) :
    AllAlarms Q (t.map (fun p => (p.1, f p.2))) := by
  intro i x hx
  obtain ⟨⟨j, y⟩, hj, e⟩ := List.mem_map.1 hx
  cases e
  exact hf y (h _ y hj)

end AllAlarms

namespace AlmTame

variable {u v w : AlarmUnit}

theorem refl (u : AlarmUnit) : AlmTame u u := ⟨fun _ => id, id⟩

theorem trans (h : AlmTame u v) (k : AlmTame v w) : AlmTame u w := ⟨fun hQ => k.recs hQ ∘ h.recs hQ, k.rest ∘ h.rest⟩

/-- An edit of the records alone. -/
theorem of_recs (hr : ∀ {Q}, Mild Q → AllAlarms Q u.recs → AllAlarms Q v.recs) (h1 : v.routes = u.routes)
    (h2 : v.limitOk = u.limitOk) (h3 : v.maskOk = u.maskOk) (h4 : v.holdsBad = u.holdsBad) : AlmTame u v := by
  refine ⟨hr, fun ⟨g1, g2, g3, g4⟩ => ⟨?_, h2 ▸ g2, h3 ▸ g3, h4 ▸ g4⟩⟩
  unfold AlarmUnit.routeRec at g1 ⊢
  rw [h1]
  exact g1

/-- An edit of the other items alone. -/
theorem of_rest (hr : v.recs = u.recs) (h : RestAgrees u → RestAgrees v) : AlmTame u v := ⟨fun _ => hr ▸ id, h⟩

/-! ### Alarms.lean -/

theorem count (u : AlarmUnit) (now c : Nat) (f : Bool) : AlmTame u (u.count now c f) := by
  unfold AlarmUnit.count
  dsimp only
  split
  · exact of_recs (fun hQ h => h.put _ (hQ.fresh rfl nofun)) rfl rfl rfl rfl
  · rename_i r hr
    exact of_recs (fun hQ h => h.put _ (hQ.edit (r := r) rfl rfl rfl (h.find hr))) rfl rfl rfl rfl

theorem remove (u : AlarmUnit) (n : Nat) : AlmTame u (u.remove n) := of_recs (fun _ h => h.filter _) rfl rfl rfl rfl

/-- The record that a raise makes is a mild one: DURESS has class 0 by every route (R136). -/
theorem newRecord_mild {Q : AlarmRec → Prop} (hQ : Mild Q) (u : AlarmUnit) (now : Nat) (k : Kind) (j : Subject)
    (z p : Option Nat) : Q (u.newRecord now k j z p) := by
  refine hQ.fresh rfl (fun hk => ?_)
  cases hk
  simp [AlarmUnit.newRecord, AlarmUnit.routeTaken]

theorem raiseOne (u : AlarmUnit) (now : Nat) (k : Kind) (j : Subject) (z p : Option Nat) :
    AlmTame u (u.raiseOne now k j z p) := by
  unfold AlarmUnit.raiseOne
  split
  · rename_i n r hr
    obtain ⟨hm, _⟩ := AlarmUnit.openRecord_spec hr
    exact of_recs (fun hQ h => h.put _ (hQ.edit (r := r) rfl rfl rfl (h _ r hm))) rfl rfl rfl rfl
  · split
    · exact of_recs (fun hQ h => h.put _ (newRecord_mild hQ _ _ _ _ _ _)) rfl rfl rfl rfl
    · split
      · rename_i n v _
        refine ((remove u n).trans (count _ now v.cls (v.delivery = .forward))).trans ?_
        exact of_recs (fun hQ h => h.put _ (newRecord_mild hQ _ _ _ _ _ _)) rfl rfl rfl rfl
      · exact count _ _ _ _

theorem raise (u : AlarmUnit) (now : Nat) (k : Kind) (j : Subject) (z p : Option Nat) :
    AlmTame u (u.raise now k j z p) := by
  unfold AlarmUnit.raise
  dsimp only
  split
  · exact (raiseOne _ _ _ _ _ _).trans (raiseOne _ _ _ _ _ _)
  · exact raiseOne _ _ _ _ _ _

/-- A record that is put back as it was, or ended, or removed. -/
theorem endRecord_all {Q : AlarmRec → Prop} (hQ : Mild Q) {u : AlarmUnit} (h : AllAlarms Q u.recs) (n : Nat)
    {r : AlarmRec} (hr : Q r) : AllAlarms Q (u.endRecord n r).recs := by
  unfold AlarmUnit.endRecord
  split
  · exact (remove u n).recs hQ h
  · exact h.put n (hQ.edit (r := r) rfl rfl rfl hr)

theorem endRecord_rest (u : AlarmUnit) (n : Nat) (r : AlarmRec) (h : RestAgrees u) : RestAgrees (u.endRecord n r) := by
  unfold AlarmUnit.endRecord
  split <;> exact h

theorem endRecord {n : Nat} {r : AlarmRec} (hm : (n, r) ∈ u.recs) : AlmTame u (u.endRecord n r) :=
  ⟨fun hQ h => endRecord_all hQ h n (h n r hm), endRecord_rest u n r⟩

theorem endKind (u : AlarmUnit) (k : Kind) (j : Subject) : AlmTame u (u.endKind k j) := by
  unfold AlarmUnit.endKind
  split
  · exact refl u
  · rename_i n r hr
    split
    · exact refl u
    · exact endRecord (AlarmUnit.openRecord_spec hr).1

theorem withdraw (u : AlarmUnit) (j : Subject) : AlmTame u (u.withdraw j) := by
  have hall : ∀ {Q}, Mild Q → ∀ (l : List (Nat × AlarmRec)) (v : AlarmUnit), (∀ q ∈ l, Q q.2) → AllAlarms Q v.recs →
      AllAlarms Q (l.foldl (fun u p => u.endRecord p.1 p.2) v).recs := by
    intro Q hQ l
    induction l with
    | nil => exact fun _ _ h => h
    | cons q l ih =>
      intro v hl h
      exact ih _ (fun x hx => hl x (List.mem_cons_of_mem _ hx)) (endRecord_all hQ h q.1 (hl q List.mem_cons_self))
  have hrest : ∀ (l : List (Nat × AlarmRec)) (v : AlarmUnit), RestAgrees v →
      RestAgrees (l.foldl (fun u p => u.endRecord p.1 p.2) v) := by
    intro l
    induction l with
    | nil => exact fun _ h => h
    | cons q l ih => exact fun v h => ih _ (endRecord_rest v q.1 q.2 h)
  exact ⟨fun hQ h => hall hQ _ u (fun q hq => h q.1 q.2 (List.mem_filter.1 hq).1) h, hrest _ u⟩

theorem fail (u : AlarmUnit) (now n : Nat) : AlmTame u (u.fail now n) := by
  unfold AlarmUnit.fail
  split
  · exact refl u
  · split
    · exact (remove u n).trans (count _ _ _ _)
    · exact of_recs (fun hQ h => h.put _ (hQ.fresh rfl nofun)) rfl rfl rfl rfl

/-! ### Checks.lean -/

theorem failEach (u : AlarmUnit) (now : Nat) (l : List (Nat × AlarmRec)) :
    AlmTame u (l.foldl (fun v p => v.fail now p.1) u) := by
  induction l generalizing u with
  | nil => exact refl u
  | cons p l ih => exact (fail u now p.1).trans (ih _)

theorem testedRecords (u : AlarmUnit) (now : Nat) : AlmTame u (State.testedRecords u now) := by
  refine (failEach u now _).trans (of_rest rfl ?_)
  exact fun ⟨h1, h2, _, _⟩ => ⟨h1, h2, rfl, rfl⟩

theorem testedLimit (u : AlarmUnit) : AlmTame u (State.testedLimit u) :=
  of_rest rfl fun ⟨h1, _, h3, h4⟩ => ⟨h1, rfl, h3, h4⟩

theorem testedRoute_checkOk (r : RouteRec) : (State.testedRoute r).checkOk = true := by
  unfold State.testedRoute
  split
  · assumption
  · rfl

/-- One route entry stored with a check value that agrees. -/
theorem setRoute (u : AlarmUnit) (k : Nat) {r : RouteRec} (hr : r.checkOk = true) :
    AlmTame u { u with routes := u.routes.setIfInBounds k r } := by
  refine of_rest rfl fun ⟨h1, h2, h3, h4⟩ => ⟨fun i hi => ?_, h2, h3, h4⟩
  have := h1 i hi
  unfold AlarmUnit.routeRec at this ⊢
  dsimp only
  rw [Vector.getElem?_setIfInBounds]
  split
  · rw [if_pos (by omega)]
    exact hr
  · exact this

theorem mapRoutes (u : AlarmUnit) : AlmTame u { u with routes := mapVec State.testedRoute u.routes } := by
  refine of_rest rfl fun ⟨_, h2, h3, h4⟩ => ⟨fun i hi => ?_, h2, h3, h4⟩
  unfold AlarmUnit.routeRec
  simp [hi, testedRoute_checkOk]

theorem testedAlarms (u : AlarmUnit) (now : Nat) : AlmTame u (State.testedAlarms u now) := by
  have h := ((testedRecords u now).trans (testedLimit _)).trans (mapRoutes _)
  unfold State.testedAlarms
  have hroutes : (State.testedLimit (State.testedRecords u now)).routes = u.routes := by
    have hfold : ∀ (l : List (Nat × AlarmRec)) (v : AlarmUnit),
        (l.foldl (fun v p => v.fail now p.1) v).routes = v.routes := by
      intro l
      induction l with
      | nil => exact fun _ => rfl
      | cons p l ih =>
        intro v
        rw [List.foldl_cons, ih]
        unfold AlarmUnit.fail AlarmUnit.count
        dsimp only
        (repeat' split) <;> rfl
    exact hfold _ u
  rw [hroutes] at h
  exact h

theorem readRoute (u : AlarmUnit) (k : Kind) : AlmTame u (State.readRoute u k) := by
  unfold State.readRoute
  split
  · exact refl u
  · exact setRoute u _ (testedRoute_checkOk _)

theorem routeFailed (u : AlarmUnit) (k : Nat) : AlmTame u (State.routeFailed u k) := by
  unfold State.routeFailed
  split
  · exact of_rest rfl fun ⟨h1, _, h3, h4⟩ => ⟨h1, rfl, h3, h4⟩
  · exact setRoute u _ (testedRoute_checkOk _)

/-! ### AlarmTable.lean -/

theorem present {n : Nat} {r : AlarmRec} (hm : (n, r) ∈ u.recs) : AlmTame u (State.present u n r) :=
  of_recs (fun hQ h => h.put _ (hQ.edit (r := r) rfl rfl rfl (h n r hm))) rfl rfl rfl rfl

theorem acknowledged {n : Nat} {r : AlarmRec} (hr : u.recs.find n = some r) :
    AlmTame u (State.acknowledged u n r) := by
  unfold State.acknowledged
  split
  · exact remove u n
  · exact of_recs (fun hQ h => h.put _ (hQ.edit (r := r) rfl rfl rfl (h.find hr))) rfl rfl rfl rfl

theorem restarted (u : AlarmUnit) :
    AlmTame u { u with recs := u.recs.map (fun p => (p.1, State.restartedAlarm p.2)), mask := 0#4, holds := [] } := by
  refine of_recs (fun hQ h => h.map (fun r hr => ?_)) rfl rfl rfl rfl
  unfold State.restartedAlarm
  split
  · exact hQ.edit (r := r) rfl rfl rfl hr
  · exact hr

end AlmTame
end Sys2Proof.Machine

/-! ## The edits under a closed invariant -/

namespace Sys2Proof.Machine.Kept

variable {P : Scope → State → Prop} {c : Scope} {s : State}

theorem map_holds {d : Scope} {t : State} (h : Kept P c s) (f : Closed P → P c s → P d t) : Kept P d t :=
  ⟨h.closed, f h.closed h.holds⟩

@[simp] theorem ite {a b : State} (p : Prop) [Decidable p] (ha : Kept P c a) (hb : Kept P c b) : Kept P c (if p then a else b) := by
  split <;> assumption

theorem iteFst {α : Type} {a b : State × α} (p : Prop) [Decidable p] (ha : Kept P c a.1) (hb : Kept P c b.1) :
    Kept P c (if p then a else b).1 := by
  split <;> assumption

theorem fst_of {α : Type} {x : State × α} {t : State} {b : α} (hx : x = (t, b)) (h : Kept P c x.1) : Kept P c t := by
  rw [hx] at h; exact h

/-- An operation repeated along a list. -/
theorem foldl {α : Type} {f : State → α → State} (hf : ∀ t x, Kept P c t → Kept P c (f t x)) (l : List α)
    (h : Kept P c s) : Kept P c (l.foldl f s) := by
  induction l generalizing s with
  | nil => exact h
  | cons x l ih => exact ih (hf _ _ h)

/-! ### Blocks -/

theorem setAlm (h : Kept P c s) {u : AlarmUnit} (hu : AlmTame s.alm u) : Kept P c (s.setAlm u) :=
  h.map_holds fun k => k.alm u hu

theorem setRel (h : Kept P c s) {u : ReleaseUnit} (hu : RelAgrees s.rel → RelAgrees u) : Kept P c (s.setRel u) :=
  h.map_holds fun k => k.rel u hu

theorem setLink (h : Kept P c s) {u : LinkUnit} (hu : LinkAgrees s.link → LinkAgrees u) : Kept P c (s.setLink u) :=
  h.map_holds fun k => k.link u hu

theorem setRet (h : Kept P c s) {u : RetentionUnit} (h1 : s.ret.calendarOk = true → u.calendarOk = true)
    (h2 : s.ret.markerCheck = true → u.markerCheck = true) : Kept P c (s.setRet u) :=
  h.map_holds fun k => k.ret u h1 h2

@[simp] theorem setHost (h : Kept P c s) (u : HostUnit) : Kept P c (s.setHost u) := h.map_holds fun k => k.host u
@[simp] theorem setFree (h : Kept P c s) (n : Nat) : Kept P c (s.setFree n) := h.map_holds fun k => k.free n
@[simp] theorem setPending (h : Kept P c s) (q : List Instr) : Kept P c (s.setPending q) :=
  h.map_holds fun k => k.pending q

theorem setAdm (h : Kept P c s) {u : AdmissionUnit} (hu : AdmTame s.adm u) : Kept P c (s.setAdm u) :=
  h.map_holds fun k => k.adm u hu

@[simp] theorem setWaits (h : Kept P c s) (l : List WaitEntry) : Kept P c (s.setAdm { s.adm with waits := l }) :=
  h.setAdm ⟨fun _ => id, id, id⟩

theorem setZones (h : Kept P c s) {t : Table ZoneRec} (ht : ZonesTame s t) :
    Kept P c (s.setOcc { s.occ with zones := t }) := h.map_holds fun k => k.zones t ht

theorem setRecs (h : Kept P c s) {t : Table OccRec} (ht : RecsTame c s t) :
    Kept P c (s.setOcc { s.occ with recs := t }) := h.map_holds fun k => k.recs t ht

/-! ### Scopes -/

theorem forget (h : Kept P c s) {l : List Nat} (hl : l ⊆ c.known) : Kept P { c with known := l } s :=
  h.map_holds fun k => k.forget l hl

/-- What was known for a while is known no more. -/
theorem unknowing {p : Nat} (h : Kept P (c.knowing p) s) : Kept P c s := h.forget (List.subset_cons_self _ _)

theorem knowing (h : Kept P c s) {p : Nat} (hp : (s.person? p).isSome = true) : Kept P (c.knowing p) s :=
  h.map_holds fun k => k.know p hp

/-! ### Alarms -/

@[simp] theorem raise (h : Kept P c s) (k : Kind) (j : Subject) (z p : Option Nat) : Kept P c (s.raise k j z p) :=
  h.setAlm (.raise _ _ _ _ _ _)

@[simp] theorem endAlarm (h : Kept P c s) (k : Kind) (j : Subject) : Kept P c (s.endAlarm k j) := h.setAlm (.endKind _ _ _)

@[simp] theorem withdraw (h : Kept P c s) (j : Subject) : Kept P c (s.withdraw j) := h.setAlm (.withdraw _ _)

@[simp] theorem endSuspect (h : Kept P c s) (t : Tbl) (n : Nat) : Kept P c (s.endSuspect t n) := h.endAlarm _ _

@[simp] theorem raiseSuspect (h : Kept P c s) (t : Tbl) (n : Nat) : Kept P c (s.raiseSuspect t n) := h.raise _ _ _ _

/-! ### Agents and logic -/

theorem putAgent (h : Kept P c s) (a : Nat) {r : AgentRec} (hr : (s.agent a).checkOk = true → r.checkOk = true) :
    Kept P c (s.putAgent a r) := by
  refine h.setRel fun ⟨h1, h2⟩ => ⟨fun b hb => ?_, h2⟩
  have := State.agent_putAgent s a b r
  unfold State.agent State.putAgent at this
  dsimp only [State.setRel_rel] at this ⊢
  rw [this]
  split
  · rename_i hab
    exact hr (h1 a hab.2)
  · exact h1 b hb

@[simp] theorem changeAgent (h : Kept P c s) (a : Nat) (f : AgentRec → AgentRec)
    (hf : (f (s.agent a)).checkOk = (s.agent a).checkOk) : Kept P c (s.changeAgent a f) :=
  h.putAgent a (fun hr => hf.trans hr)

theorem putLogic (h : Kept P c s) (a : Nat) {r : LogicRec} (hr : (s.logicRec a).checkOk = true → r.checkOk = true) :
    Kept P c (s.putLogic a r) := by
  refine h.setRel fun ⟨h1, h2⟩ => ⟨h1, fun b hb => ?_⟩
  have := State.logicRec_putLogic s a b r
  unfold State.logicRec State.putLogic at this
  dsimp only [State.setRel_rel] at this ⊢
  rw [this]
  split
  · rename_i hab
    exact hr (h2 a hab.2)
  · exact h2 b hb

/-! ### Classes and stations -/

theorem putClass (h : Kept P c s) (k : Nat) {r : ClassRec} (hr : (s.classRec k).checkOk = true → r.checkOk = true) :
    Kept P c (s.putClass k r) := by
  refine h.map_holds fun K => K.classes _ fun hv b hb => ?_
  have := State.classRec_putClass s k b r
  unfold State.classRec State.putClass at this
  dsimp only [State.setDoor_door] at this ⊢
  rw [this]
  split
  · rename_i hab
    exact hr (hv k hab.2)
  · exact hv b hb

theorem putStation (h : Kept P c s) (a : Nat) {r : StationRec} (hr : r.checkOk = true) : Kept P c (s.putStation a r) := by
  refine h.setLink fun hl b q hq => ?_
  rcases AlarmsGood.mem_put hq with ⟨_, rfl⟩ | hq
  · exact hr
  · exact hl b q hq

theorem putStation_same (h : Kept P c s) {a : Nat} {q : StationRec} (hq : s.station? a = some q) {r : StationRec}
    (hr : r.checkOk = q.checkOk) : Kept P c (s.putStation a r) := by
  refine h.setLink fun hl b w hw => ?_
  rcases AlarmsGood.mem_put hw with ⟨_, rfl⟩ | hw
  · exact hr.trans (hl a q (Table.mem_of_find hq))
  · exact hl b w hw

theorem mapStations (h : Kept P c s) {f : Nat → StationRec → StationRec}
    (hf : ∀ a r, r.checkOk = true → (f a r).checkOk = true) {u : LinkUnit}
    (hu : u.stations = s.link.stations.map (fun p => (p.1, f p.1 p.2))) : Kept P c (s.setLink u) := by
  refine h.setLink fun hl b w hw => ?_
  rw [hu] at hw
  obtain ⟨⟨b', r⟩, hr, e⟩ := List.mem_map.1 hw
  cases e
  exact hf b' r (hl b' r hr)

@[simp] theorem changeStation (h : Kept P c s) (a : Nat) (f : StationRec → StationRec)
    (hf : ∀ r, (f r).checkOk = r.checkOk) : Kept P c (s.changeStation a f) := by
  refine h.setLink fun hl b w hw => ?_
  obtain ⟨r, hr, rfl | ⟨_, rfl⟩⟩ := mem_change hw
  exacts [hl b w hr, (hf r).trans (hl b r hr)]

/-- The lanes and the exchange are no station's record. -/
theorem setLanes (h : Kept P c s) {u : LinkUnit} (hu : u.stations = s.link.stations) : Kept P c (s.setLink u) :=
  h.setLink fun hl => by unfold LinkAgrees at hl ⊢; rw [hu]; exact hl

/-! ### Persons and grants -/

/-- A person's record stored with a check value that agrees, or as suspect. -/
theorem putPerson (h : Kept P c s) (p : Nat) {r : PersonRec} (hr : (r.checkOk || r.suspect) = true) :
    Kept P c (s.putPerson p r) := by
  refine h.setAdm ⟨fun q hq => ?_, fun hp k w hw => ?_, id⟩
  · rw [Table.find_put]
    split
    · rfl
    · exact hq
  · rcases AlarmsGood.mem_put hw with ⟨_, rfl⟩ | hw
    · exact hr
    · exact hp k w hw

/-- A grant's record stored with a check value that agrees, or as suspect, or with the check value that it had. -/
theorem putGrant (h : Kept P c s) (g : Nat) {r : GrantRec}
    (hr : (r.checkOk || r.suspect) = true ∨ ∃ q, s.grant? g = some q ∧ (r.checkOk || r.suspect) = (q.checkOk || q.suspect)) :
    Kept P c (s.putGrant g r) := by
  refine h.setAdm ⟨fun _ => id, id, fun hg k w hw => ?_⟩
  rcases AlarmsGood.mem_put hw with ⟨_, rfl⟩ | hw
  · rcases hr with hr | ⟨q, hq, hr⟩
    · exact hr
    · exact hr.trans (hg g q (Table.mem_of_find hq))
  · exact hg k w hw

/-- A change of one slot as a map over the table. -/
theorem change_eq_map {α : Type} (t : Table α) (i : Nat) (f : α → α) :
    t.change i f = t.map (fun p => (p.1, if p.1 = i then f p.2 else p.2)) :=
  List.map_congr_left fun p _ => by split <;> rfl

/-! ### Zones -/

theorem heldIn_put (t : Table ZoneRec) (z y : Nat) (r : ZoneRec) :
    heldIn (t.put z r) y = if y = z then decide (r.freeze = .held) else heldIn t y := by
  unfold heldIn
  rw [Table.find_put]
  by_cases h : y = z <;> simp [h]

/-- A zone stored whose check value agrees and which becomes HELD only with nothing in flight into it. -/
theorem putZone (h : Kept P c s) (z : Nat) {r : ZoneRec}
    (hr : r.checkOk = true ∨ ∃ q, s.zone? z = some q ∧ r.checkOk = q.checkOk)
    (hf : r.freeze = .held → s.zoneHeld z = true ∨ s.inFlight z = 0) : Kept P c (s.putZone z r) := by
  refine h.setZones ⟨fun y hy => ?_, fun hz y w hw => ?_⟩
  · rw [heldIn_put] at hy
    split at hy
    · rename_i hyz
      subst hyz
      exact hf (by simpa using hy)
    · exact .inl hy
  · rcases AlarmsGood.mem_put hw with ⟨_, rfl⟩ | hw
    · rcases hr with hr | ⟨q, hq, hr⟩
      · exact hr
      · exact hr.trans (hz z q (Table.mem_of_find hq))
    · exact hz y w hw

theorem zoneHeld_of_zone? {z : Nat} {q : ZoneRec} (hz : s.zone? z = some q) : s.zoneHeld z = decide (q.freeze = .held) := by
  unfold State.zoneHeld
  rw [hz]

/-- A configured zone stored with its freeze state. -/
theorem putZone_same (h : Kept P c s) {z : Nat} {q r : ZoneRec} (hz : s.zone? z = some q)
    (hc : r.checkOk = true ∨ r.checkOk = q.checkOk) (hf : r.freeze = q.freeze) : Kept P c (s.putZone z r) :=
  h.putZone z (hc.imp id fun hc => ⟨q, hz, hc⟩) fun hh => .inl (by rw [zoneHeld_of_zone? hz, ← hf, hh]; rfl)

/-- Every zone changed with its freeze state kept, or to another than HELD. -/
theorem mapZones (h : Kept P c s) {f : Nat → ZoneRec → ZoneRec}
    (hf : ∀ z r, (f z r).freeze = .held → r.freeze = .held ∨ s.inFlight z = 0)
    (hc : ∀ z r, r.checkOk = true → (f z r).checkOk = true) :
    Kept P c (s.setOcc { s.occ with zones := s.occ.zones.map (fun p => (p.1, f p.1 p.2)) }) := by
  refine h.setZones ⟨fun y hy => ?_, fun hz y w hw => ?_⟩
  · unfold heldIn at hy ⊢
    rw [Table.find_map] at hy
    cases hfind : s.occ.zones.find y with
    | none => exact .inl rfl
    | some r =>
      rw [hfind] at hy
      simpa using hf y r (by simpa using hy)
  · obtain ⟨⟨k, r⟩, hr, e⟩ := List.mem_map.1 hw
    cases e
    exact hc k r (hz k r hr)

theorem changeZone (h : Kept P c s) (z : Nat) {f : ZoneRec → ZoneRec} (hf : ∀ r, (f r).freeze = r.freeze)
    (hc : ∀ r, r.checkOk = true → (f r).checkOk = true) : Kept P c (s.changeZone z f) := by
  unfold State.changeZone
  rw [change_eq_map]
  exact h.mapZones (f := fun k r => if k = z then f r else r)
    (fun k r hk => .inl (by split at hk <;> simp_all)) (fun k r hk => by split <;> simp_all)

/-! ### Occupancy records -/

/-- A record stored in a slot: sound only as that of a person who is known, or as the slot's own was. -/
theorem putOcc (h : Kept P c s) (i : Nat) {w : OccRec}
    (hs : w.sound = true → w.person ∈ c.known ∨ ∃ r, s.occ? i = some r ∧ r.sound = true ∧ r.person = w.person)
    (hc : w.checkOk = true ∨ ∃ r, s.occ? i = some r ∧ w.checkOk = r.checkOk) : Kept P c (s.putOcc i w) := by
  refine h.setRecs ⟨fun j r hr hsound => ?_, fun ha j r hr => ?_⟩
  · rcases AlarmsGood.mem_put hr with ⟨_, rfl⟩ | hr
    · exact (hs hsound).imp id fun ⟨q, hq, h1, h2⟩ => ⟨i, q, Table.mem_of_find hq, h1, h2⟩
    · exact .inr ⟨j, r, hr, hsound, rfl⟩
  · rcases AlarmsGood.mem_put hr with ⟨_, rfl⟩ | hr
    · rcases hc with hc | ⟨q, hq, hc⟩
      · exact hc
      · exact hc.trans (ha i q (Table.mem_of_find hq))
    · exact ha j r hr

/-- A record rewritten in its own slot. -/
theorem putOcc_same (h : Kept P c s) {i : Nat} {r w : OccRec} (hr : s.occ? i = some r) (hp : w.person = r.person)
    (hs : w.suspect = r.suspect) (hc : w.checkOk = r.checkOk) : Kept P c (s.putOcc i w) :=
  h.putOcc i (fun hw => .inr ⟨r, hr, by rw [OccRec.sound, ← hs, ← hc]; exact hw, hp.symm⟩) (.inr ⟨r, hr, hc⟩)

/-- A record of a person who is known. -/
theorem putOcc_known (h : Kept P c s) (i : Nat) {w : OccRec} (hp : w.person ∈ c.known) (hc : w.checkOk = true) :
    Kept P c (s.putOcc i w) := h.putOcc i (fun _ => .inl hp) (.inl hc)

@[simp] theorem delOcc (h : Kept P c s) (i : Nat) : Kept P c (s.delOcc i) :=
  h.setRecs ⟨fun j r hr hs => .inr ⟨j, r, (List.mem_filter.1 hr).1, hs, rfl⟩, fun ha j r hr => ha j r (List.mem_filter.1 hr).1⟩

theorem mapOcc (h : Kept P c s) {f : Nat → OccRec → OccRec}
    (hs : ∀ i r, (f i r).sound = true → r.sound = true ∧ (f i r).person = r.person)
    (hc : ∀ i r, r.checkOk = true → (f i r).checkOk = true) {t : Table OccRec}
    (ht : t = s.occ.recs.map (fun p => (p.1, f p.1 p.2))) : Kept P c (s.setOcc { s.occ with recs := t }) := by
  subst ht
  refine h.setRecs ⟨fun j w hw hsound => ?_, fun ha j w hw => ?_⟩ <;>
    obtain ⟨⟨k, r⟩, hr, e⟩ := List.mem_map.1 hw <;> cases e
  · obtain ⟨h1, h2⟩ := hs k r hsound
    exact .inr ⟨k, r, hr, h1, h2.symm⟩
  · exact hc k r (ha k r hr)

/-- A record changed in its own slot. -/
@[simp] theorem changeOcc (h : Kept P c s) (i : Nat) (f : OccRec → OccRec) (hp : ∀ r, (f r).person = r.person)
    (hs : ∀ r, (f r).suspect = r.suspect) (hc : ∀ r, (f r).checkOk = r.checkOk) : Kept P c (s.changeOcc i f) := by
  refine h.mapOcc (f := fun k r => if k = i then f r else r) (fun k r hk => ?_) (fun k r hk => ?_)
    (change_eq_map _ _ _)
  · split at hk
    · rename_i hki
      rw [if_pos hki]
      exact ⟨by rw [OccRec.sound, ← hs, ← hc]; exact hk, hp r⟩
    · rename_i hki
      rw [if_neg hki]
      exact ⟨hk, rfl⟩
  · split
    · exact (hc r).trans hk
    · exact hk

/-! ### Doors -/

theorem putDoor (h : Kept P c s) {d : Nat} {r : DoorRec} (hr : s.door? d = some r) {q : DoorRec} (hp : Plain r q)
    (hy : Yields r q) : Kept P c (s.putDoor d q) := h.map_holds fun k => k.putDoor q hr hp hy

theorem changeDoor (h : Kept P c s) (d : Nat) {f : DoorRec → DoorRec} (hp : ∀ r, Plain r (f r))
    (hy : ∀ r, Yields r (f r)) : Kept P c (s.changeDoor d f) :=
  h.map_holds fun k => k.changeDoor d f hp fun r _ => hy r

theorem mapDoors (h : Kept P c s) {f : DoorRec → DoorRec} (hp : ∀ r, Plain r (f r)) (hy : ∀ r, Yields r (f r)) :
    Kept P c (s.setDoor { s.door with doors := s.door.doors.map (fun p => (p.1, f p.2)) }) :=
  h.map_holds fun k => k.mapDoors f hp hy

@[simp] theorem arbitrate (h : Kept P c s) (d : Nat) : Kept P c (s.arbitrate d) := h.map_holds fun k => k.arbitrate d

theorem releaseRequest (h : Kept P c s) {d : Nat} {r : DoorRec} (hr : s.door? d = some r) {xs : List Passage}
    (hx : Admissible c s r xs) : Kept P c (s.releaseRequest d xs).1 := h.map_holds fun k => k.release xs hr hx

end Sys2Proof.Machine.Kept

/-! ## Persons, grants and doors under a closed invariant -/

namespace Sys2Proof.Machine

/-- An edit that keeps configuration and check value, and takes passages and the pair wait away at most. -/
theorem plain_of_sub {r q : DoorRec} (hcfg : q.cfg = r.cfg) (hc : q.checkOk = r.checkOk)
    (hw : q.pairWait = none ∨ q.pairWait = r.pairWait)
    (hp : ∀ e, q.cycle = some e → ∃ f, r.cycle = some f ∧ e.passages ⊆ f.passages) : Plain r q := by
  refine ⟨hcfg, fun h => hc.trans h, ?_, ?_⟩
  · unfold entrants
    cases hq : q.cycle with
    | none => exact List.nil_subset _
    | some e =>
      obtain ⟨f, hf, hsub⟩ := hp e hq
      rw [hf]
      exact List.map_subset _ fun x hx => List.mem_filter.2 ⟨hsub (List.mem_filter.1 hx).1, (List.mem_filter.1 hx).2⟩
  · unfold waiter
    rcases hw with hw | hw
    · exact .inl (by rw [hw]; rfl)
    · exact .inr (by rw [hw])

/-- An edit that leaves cycle and pair wait. -/
theorem plain_of_eq {r q : DoorRec} (hcfg : q.cfg = r.cfg) (hc : q.checkOk = r.checkOk) (hw : q.pairWait = r.pairWait)
    (hp : q.cycle = r.cycle) : Plain r q :=
  plain_of_sub hcfg hc (.inr hw) fun e he => ⟨e, hp ▸ he, List.Subset.refl _⟩

/-- The edit of a door that has a cycle. -/
theorem plain_of_cycle {r q : DoorRec} {f e : Cycle} (hf : r.cycle = some f) (he : q.cycle = some e)
    (hsub : e.passages ⊆ f.passages) (hcfg : q.cfg = r.cfg) (hc : q.checkOk = r.checkOk) (hw : q.pairWait = r.pairWait) :
    Plain r q :=
  plain_of_sub hcfg hc (.inr hw) fun e' he' => ⟨f, hf, by rw [he] at he'; cases he'; exact hsub⟩

/-- Timers, marks and values of a cycle hold no passage. -/
theorem plain_of_map {r q : DoorRec} {g : Cycle → Cycle} (hq : q.cycle = r.cycle.map g)
    (hg : ∀ f, (g f).passages ⊆ f.passages) (hcfg : q.cfg = r.cfg) (hc : q.checkOk = r.checkOk)
    (hw : q.pairWait = r.pairWait) : Plain r q := by
  refine plain_of_sub hcfg hc (.inr hw) fun e he => ?_
  rw [hq] at he
  obtain ⟨f, hf, rfl⟩ := Option.map_eq_some_iff.1 he
  exact ⟨f, hf, hg f⟩

/-- A door in a state that has a cycle has one. -/
theorem fits_of_some {q : DoorRec} {e : Cycle} (he : q.cycle = some e) (h1 : q.state ≠ .secured) (h2 : q.state ≠ .unknown)
    (hr : q.right = true → State.mayHold q.state = true) : Fits q := by
  refine ⟨?_, hr⟩
  unfold State.cycleFits
  cases hs : q.state <;> simp_all

/-- An edit of other fields than configuration, check value, state, right, cycle and pair wait. -/
structure Minor (r q : DoorRec) : Prop where
  cfg      : q.cfg = r.cfg
  checkOk  : q.checkOk = r.checkOk
  state    : q.state = r.state
  right    : q.right = r.right
  cycle    : q.cycle = r.cycle
  pairWait : q.pairWait = r.pairWait

theorem Minor.plain {r q : DoorRec} (h : Minor r q) : Plain r q := plain_of_eq h.cfg h.checkOk h.pairWait h.cycle

theorem Minor.yields {r q : DoorRec} (h : Minor r q) : Yields r q := .of_same h.state h.right (by rw [h.cycle])

/-- A door that nearly fits and is not SECURED fits. -/
theorem fits_of_nearly {b : Prop} {r : DoorRec} (h : NearlyFits b r) (hs : r.state ≠ .secured) : Fits r :=
  h.resolve_right fun k => hs k.2.1

/-- A door that fits has a cycle, but in SECURED and UNKNOWN. -/
theorem Fits.isSome {r : DoorRec} (h : Fits r) (h1 : r.state ≠ .secured) (h2 : r.state ≠ .unknown) :
    r.cycle.isSome = true := by
  have := h.1
  unfold State.cycleFits at this
  cases hs : r.state <;> simp_all

/-- A door with a cycle goes on in another state that has a cycle and does not release. -/
theorem yields_of_goes {r q : DoorRec} (h1 : r.state ≠ .secured) (h2 : r.state ≠ .unknown)
    (hc : r.cycle.isSome = true → q.cycle.isSome = true) (h3 : q.state ≠ .secured) (h4 : q.state ≠ .unknown)
    (hrel : State.releases q = false) (hhold : q.right = true → State.mayHold q.state = true)
    (hr : q.right = true → r.right = true) : Yields r q := by
  refine ⟨fun b h => .inl ?_, fun _ h => absurd h (by simp [hrel]), hr⟩
  obtain ⟨e, he⟩ := Option.isSome_iff_exists.1 (hc ((fits_of_nearly h h1).isSome h1 h2))
  exact fits_of_some he h3 h4 hhold

namespace Kept

variable {P : Scope → State → Prop} {sc : Scope} {s : State}

theorem putDoor_minor (h : Kept P sc s) {d : Nat} {r q : DoorRec} (hr : s.door? d = some r) (hm : Minor r q) :
    Kept P sc (s.putDoor d q) := putDoor h hr hm.plain hm.yields

theorem changeDoor_minor (h : Kept P sc s) (d : Nat) {f : DoorRec → DoorRec} (hf : ∀ r, Minor r (f r)) :
    Kept P sc (s.changeDoor d f) := changeDoor h d (fun r => (hf r).plain) fun r => (hf r).yields

@[simp] theorem markUnverified (h : Kept P sc s) (z : Nat) : Kept P sc (s.markUnverified z) := by
  unfold State.markUnverified
  split
  · exact h
  · exact ite _ (raise (changeZone h _ (f := fun r => { r with verified := false }) (fun _ => rfl) (fun _ => id)) _ _ _ _) h

/-! ### Persons.lean -/

@[simp] theorem testPerson (h : Kept P sc s) (p : Nat) : Kept P sc (s.testPerson p) := by
  unfold State.testPerson
  split
  · exact h
  · exact ite _ h (raiseSuspect (putPerson h p (by simp)) _ _)

@[simp] theorem testGrant (h : Kept P sc s) (g : Nat) : Kept P sc (s.testGrant g) := by
  unfold State.testGrant
  split
  · exact h
  · exact ite _ h (raiseSuspect (putGrant h g (.inl (by simp))) _ _)

@[simp] theorem testPersons (h : Kept P sc s) (ps : List Nat) : Kept P sc (s.testPersons ps) :=
  foldl (fun _ p ht => testPerson ht p) ps h

@[simp] theorem resolve (h : Kept P sc s) (cred : Nat) : Kept P sc (s.resolve cred).1 := testPersons h _

theorem searchGrants (h : Kept P sc s) (p z : Nat) (l : List Nat) : Kept P sc (s.searchGrants p z l).1 := by
  induction l generalizing s with
  | nil => exact h
  | cons n l ih =>
    have h1 : Kept P sc (s.testGrant n) := testGrant h n
    simp only [State.searchGrants]
    split
    · exact ih h1
    · split
      · exact h1
      · exact ih h1

@[simp] theorem grantSearch (h : Kept P sc s) (p z : Nat) : Kept P sc (s.grantSearch p z).1 := searchGrants h _ _ _

@[simp] theorem reportUse (h : Kept P sc s) (x : Passage) : Kept P sc (s.reportUse x) := by
  unfold State.reportUse
  split
  · exact h
  · rename_i n _
    refine ite _ h ?_
    have h1 := testGrant h n
    dsimp only
    split
    · exact h1
    · rename_i g hg
      refine ite _ h1 ?_
      split
      · exact h1
      · exact h1
      · exact putGrant h1 n (.inr ⟨g, hg, rfl⟩)

/-- The mark of a retired grant changes no person (R54). -/
theorem markDoor_plain (n : Nat) (r : DoorRec) : Plain r (State.markDoor n r) := by
  refine ⟨rfl, id, ?_, ?_⟩
  · have hmark : ∀ x : Passage, (State.markPassage n x).dir = x.dir ∧ (State.markPassage n x).person = x.person := by
      intro x
      unfold State.markPassage
      split <;> exact ⟨rfl, rfl⟩
    unfold entrants State.markDoor
    cases r.cycle with
    | none => exact List.Subset.refl _
    | some c => simp [List.filter_map, Function.comp_def, hmark]
  · right
    unfold waiter State.markDoor
    cases r.pairWait with
    | none => rfl
    | some w =>
      simp only [Option.map_some]
      split <;> rfl

@[simp] theorem dropGrant (h : Kept P sc s) (n : Nat) : Kept P sc (s.dropGrant n) := by
  have h1 : Kept P sc (s.setAdm { s.adm with grants := s.adm.grants.del n }) :=
    setAdm h ⟨fun _ => id, id, fun hg k r hr => hg k r (List.mem_filter.1 hr).1⟩
  exact endSuspect (mapDoors h1 (markDoor_plain n) fun r => .of_same rfl rfl (by simp [State.markDoor])) _ _

/-! ### Doors.lean -/

@[simp] theorem decided (h : Kept P sc s) (d : Nat) (x : Decision) : Kept P sc (s.decided d x) :=
  changeDoor_minor h d (f := fun r => { r with decision := x, indication := indicationFor x.outcome,
                                               indEnd := some (s.base + 300) }) fun _ => ⟨rfl, rfl, rfl, rfl, rfl, rfl⟩

@[simp] theorem refuse (h : Kept P sc s) (d : Nat) (c : RefusalCode) (p : Option Nat) (g : Option Nat) :
    Kept P sc (s.refuse d c p g) := decided h d _

@[simp] theorem refuseEach (h : Kept P sc s) (d : Nat) (c : RefusalCode) (xs : List Passage) :
    Kept P sc (s.refuseEach d c xs) := foldl (fun _ _ ht => refuse ht _ _ _ _) xs h

@[simp] theorem raiseBreach (h : Kept P sc s) (d : Nat) : Kept P sc (s.raiseBreach d) := by
  unfold State.raiseBreach
  split <;> simp [h]

@[simp] theorem breachIfBothOpen (h : Kept P sc s) (d : Nat) : Kept P sc (s.breachIfBothOpen d) := by
  unfold State.breachIfBothOpen
  split
  · exact ite _ (raiseBreach h d) h
  · exact h

@[simp] theorem endBreach (h : Kept P sc s) (d : Nat) : Kept P sc (s.endBreach d) := by
  unfold State.endBreach
  (repeat' split) <;> simp [h]

/-- A door that comes to rest in SECURED or UNKNOWN, without cycle and right. -/
theorem rest_plain {r q : DoorRec} (hcfg : q.cfg = r.cfg) (hok : q.checkOk = r.checkOk) (hc : q.cycle = none)
    (hw : q.pairWait = none ∨ q.pairWait = r.pairWait) : Plain r q :=
  plain_of_sub hcfg hok hw fun e he => absurd (hc ▸ he) (by simp)

@[simp] theorem toSecured (h : Kept P sc s) (d : Nat) : Kept P sc (s.toSecured d) :=
  arbitrate (endBreach (changeDoor h d (f := fun r => { r with state := .secured, cycle := none, right := false })
    (fun _ => rest_plain rfl rfl rfl (.inr rfl)) fun _ => .of_rest (.inl rfl) rfl rfl) d) d

/-- The door is FORCED with a cycle whose passages it had. -/
theorem force (h : Kept P sc s) {d : Nat} {r : DoorRec} (hr : s.door? d = some r) {c : Cycle}
    (hc : ∀ x ∈ c.passages, ∃ f, r.cycle = some f ∧ x ∈ f.passages) : Kept P sc (s.force d r c) := by
  have hy : Yields r { r with state := .forced, right := false, cycle := some c } :=
    .of_state (fits_of_some rfl (by simp) (by simp) (by simp)) rfl (by simp)
  refine markUnverified (raise (putDoor h hr (q := { r with state := .forced, right := false, cycle := some c })
    ⟨rfl, id, ?_, .inr rfl⟩ hy) _ _ _ _) _
  intro p hp
  obtain ⟨x, hx, rfl⟩ := List.mem_map.1 hp
  obtain ⟨hxc, hdir⟩ := List.mem_filter.1 hx
  obtain ⟨f, hf, hxf⟩ := hc x hxc
  unfold entrants
  rw [hf]
  exact List.mem_map.2 ⟨x, List.mem_filter.2 ⟨hxf, hdir⟩, rfl⟩

/-- A contact opening (R23). -/
@[simp] theorem opening (h : Kept P sc s) (d : Nat) : Kept P sc (s.opening d) := by
  unfold State.opening
  cases hd : s.door? d with
  | none => exact h
  | some r =>
    have hnew : Kept P sc (s.force d r (s.newCycle r [])) := force h hd nofun
    have hopen : r.state = .releasing ∨ r.state = .released → Kept P sc (s.putDoor d
        { r with state := .opened,
                 cycle := r.cycle.map (fun c =>
                   { c with leadEnd := none, strikeEnd := none, heldEnd := some (s.base + c.vals.heldOpen * 100) }) }) := by
      intro hs
      refine putDoor h hd (plain_of_map rfl (fun _ => List.Subset.refl _) rfl rfl rfl)
        (yields_of_goes ?_ ?_ (by simp) (by simp) (by simp) rfl (fun _ => rfl) id) <;>
      rcases hs with hs | hs <;> simp [hs]
    have hwait : Kept P sc (s.force d r { r.cycle.getD (s.newCycle r []) with waiting := true }) := by
      refine force h hd fun x hx => ?_
      cases hc : r.cycle with
      | none => rw [hc] at hx; cases hx
      | some f => exact ⟨f, rfl, by rw [hc] at hx; exact hx⟩
    have hreopen : r.state = .relocking → Kept P sc (s.reopen d r) := fun hs => h.map_holds fun k => k.reopen hd hs
    dsimp only
    split
    · rename_i hs
      exact breachIfBothOpen (hopen (.inl hs)) d
    · rename_i hs
      exact breachIfBothOpen (hopen (.inr hs)) d
    · rename_i hs
      exact breachIfBothOpen (hreopen hs) d
    · exact breachIfBothOpen hnew d
    · exact breachIfBothOpen hnew d
    · split
      · exact hwait
      · exact ite _ hwait (raiseBreach hwait d)
    · exact h
    · exact h
    · exact h

theorem overrideRight (h : Kept P sc s) {d : Nat} {r : DoorRec} (hd : s.door? d = some r) (hs : r.state = .interlockWait) :
    Kept P sc (s.overrideRight d) := h.map_holds fun k => k.override hd hs

end Kept
end Sys2Proof.Machine

/-! ## Closings and timers of doors under a closed invariant -/

namespace Sys2Proof.Machine

/-- What a door's cycle may become that keeps its passages or takes some away. -/
theorem Plain.of_getD {r q : DoorRec} {e f : Cycle} (hf : f.passages = []) (he : q.cycle = some e)
    (hsub : e.passages ⊆ (r.cycle.getD f).passages) (hcfg : q.cfg = r.cfg) (hc : q.checkOk = r.checkOk)
    (hw : q.pairWait = r.pairWait) : Plain r q := by
  cases hr : r.cycle with
  | none =>
    rw [hr] at hsub
    refine ⟨hcfg, fun h => hc.trans h, ?_, .inr (by unfold Machine.waiter; rw [hw])⟩
    have hnil : e.passages = [] := List.subset_nil.1 (hf ▸ hsub)
    unfold Machine.entrants
    rw [he]
    simp [hnil]
  | some c =>
    rw [hr] at hsub
    exact plain_of_cycle hr he hsub hcfg hc hw

namespace Kept

variable {P : Scope → State → Prop} {sc : Scope} {s : State}

theorem await {k : List Nat} (h : Kept P { known := k } s) (d : Nat) : Kept P { but := some d, known := k } s :=
  h.map_holds fun K => K.await d

theorem awaited {k : List Nat} {d : Nat} (h : Kept P { but := some d, known := k } s)
    (hd : ∀ r, s.door? d = some r → r.cycle = none) : Kept P { known := k } s := h.map_holds fun K => K.awaited d hd

theorem takeCycle {k : List Nat} {d : Nat} (h : Kept P { but := some d, known := k } s) :
    Kept P { known := k } (s.takeCycle d) := h.map_holds fun K => K.takeCycle d

theorem secure {k : List Nat} {d : Nat} {r q : DoorRec} (h : Kept P { but := some d, known := k } s)
    (hr : s.door? d = some r) (hp : Plain r q) (hs : q.state = .secured) (hq : q.right = false) :
    Kept P { but := some d, known := k } (s.putDoor d q) := h.map_holds fun K => K.secure q hr hp hs hq

/-- The scope of a closing: a completion that follows has not yet taken its cycle. -/
def closingScope (d : Nat) (k : List Nat) (b : Bool) : Scope := { but := if b then some d else none, known := k }

/-- A closing in FORCED (R31). -/
theorem closeForced {k : List Nat} (h : Kept P { known := k } s) {d : Nat} {r : DoorRec} (hd : s.door? d = some r)
    (hs : r.state = .forced) : Kept P (closingScope d k (s.closeForced d r).2) (s.closeForced d r).1 := by
  have h1 : Kept P { known := k } ((s.endAlarm .doorForced (.door d)).endAlarm .doorHeld (.door d)) :=
    endAlarm (endAlarm h _ _) _ _
  unfold State.closeForced
  dsimp only
  generalize hu : (s.endAlarm .doorForced (.door d)).endAlarm .doorHeld (.door d) = u at h1 ⊢
  have hdu : u.door? d = some r := by rw [← hu]; exact hd
  cases hc : r.cycle with
  | none => exact toSecured h1 d
  | some c =>
    dsimp only
    split
    · split
      · exact toSecured h1 d
      · have hy : Yields r { r with state := .interlockWait, cycle := some { c with waiting := false } } := by
          refine ⟨fun b hb => .inl ?_, fun _ hrel => by simp [State.releases] at hrel, id⟩
          have hf := fits_of_nearly hb (by simp [hs])
          exact fits_of_some rfl (by simp) (by simp) fun hr => by simpa [hs, State.mayHold] using hf.2 hr
        have h2 : Kept P { known := k } (u.putDoor d
            { r with state := .interlockWait, cycle := some { c with waiting := false } }) :=
          putDoor h1 hdu (plain_of_cycle hc rfl (List.Subset.refl _) rfl rfl rfl) hy
        split
        · exact overrideRight h2 (by rw [State.door?_putDoor, if_pos rfl]) rfl
        · exact arbitrate h2 d
    · have h2 : Kept P { but := some d, known := k } (u.putDoor d { r with
          state := .secured, right := false, cycle := some c }) :=
        secure (await h1 d) hdu (plain_of_cycle hc rfl (List.Subset.refl _) rfl rfl rfl) rfl rfl
      exact arbitrate (endBreach h2 d) d

/-- A contact closing (R24, R31). -/
theorem closing {k : List Nat} (h : Kept P { known := k } s) (d : Nat) :
    Kept P (closingScope d k (s.closing d).2) (s.closing d).1 := by
  unfold State.closing
  cases hd : s.door? d with
  | none => exact h
  | some r =>
    have hgo : (s.newCycle r []).passages = [] := rfl
    have hopen : ∀ {t : State} {b : Bool} {x : DoorState}, t.door? d = some r → Kept P { known := k } t → r.state = x →
        Kept P { but := some d, known := k }
          ((if (r.cycle.getD (s.newCycle r [])).vals.relock = 0 then
            (t.putDoor d { r with
              state := .secured, right := false, heldInhibit := b,
              cycle := some { r.cycle.getD (s.newCycle r []) with heldEnd := none } }).endBreach d
          else t.putDoor d { r with
            state := .relocking, heldInhibit := b,
            cycle := some { r.cycle.getD (s.newCycle r []) with
              heldEnd := none,
              relockEnd := some (s.base + (r.cycle.getD (s.newCycle r [])).vals.relock * 10) } }).arbitrate d) := by
      intro t b x hdt ht hx
      refine arbitrate (ite _ (endBreach (secure (await ht d) hdt ?_ ?_ ?_) d) (await (putDoor ht hdt ?_ ?_) d)) d
      · exact Plain.of_getD hgo rfl (List.Subset.refl _) rfl rfl rfl
      · rfl
      · rfl
      · exact Plain.of_getD hgo rfl (List.Subset.refl _) rfl rfl rfl
      · exact .of_state (fits_of_some rfl (by simp) (by simp) fun _ => rfl) rfl id
    dsimp only
    cases hs : r.state with
    | opened => exact hopen hd h hs
    | held => exact hopen (t := s.endAlarm .doorHeld (.door d)) hd (endAlarm h _ _) hs
    | forced => exact closeForced h hd hs
    | _ => exact h

/-- A door in RELEASING or RELEASED, or that waits for the right, enters RELEASED (R22, R29). -/
theorem enterReleased_yields {r : DoorRec} (hs : r.state = .releasing) : Yields r (enterReleased r) := by
  refine ⟨fun b h => .inl ?_, fun _ _ => ⟨by simp [State.releases, hs], rfl⟩, id⟩
  have hf := fits_of_nearly h (by simp [hs])
  obtain ⟨c, hc⟩ := Option.isSome_iff_exists.1 (hf.isSome (by simp [hs]) (by simp [hs]))
  exact fits_of_some (e := { c with leadEnd := none }) (by simp [enterReleased, hc]) (by simp [enterReleased])
    (by simp [enterReleased]) fun _ => rfl

theorem enterReleased_plain (r : DoorRec) : Plain r (enterReleased r) :=
  plain_of_map rfl (fun _ => List.Subset.refl _) rfl rfl rfl

@[simp] theorem leadEnds (h : Kept P sc s) (d : Nat) : Kept P sc (s.leadEnds d) := by
  unfold State.leadEnds
  (repeat' split) <;> try exact h
  rename_i r hd _ c hc hs
  exact putDoor h hd (enterReleased_plain r) (enterReleased_yields (by simpa using (Bool.and_eq_true_iff.1 hs).1))

@[simp] theorem strikeEnds (h : Kept P sc s) (d : Nat) : Kept P sc (s.strikeEnds d) := by
  unfold State.strikeEnds
  (repeat' split) <;> simp [h]

@[simp] theorem relockEnds (h : Kept P sc s) (d : Nat) : Kept P sc (s.relockEnds d) := by
  unfold State.relockEnds
  (repeat' split) <;> simp [h]

/-- A cycle that goes on in the door's state. -/
theorem sameCycle_yields {r q : DoorRec} {c e : Cycle} (hc : r.cycle = some c) (he : q.cycle = some e)
    (hs : q.state = r.state) (hr : q.right = r.right) : Yields r q := .of_same hs hr (by rw [hc, he]; rfl)

@[simp] theorem heldOpenEnds (h : Kept P sc s) (d : Nat) : Kept P sc (s.heldOpenEnds d) := by
  unfold State.heldOpenEnds
  split
  · exact h
  · rename_i r hd
    split
    · exact h
    · rename_i c hc
      split
      · rename_i hs
        have h1 : Kept P sc (s.putDoor d { r with
            state := .held, cycle := some { c with heldEnd := c.heldEnd.map (fun t => t + c.vals.heldOpen * 100) } }) :=
          putDoor h hd (plain_of_cycle hc rfl (List.Subset.refl _) rfl rfl rfl)
            (.of_state (fits_of_some rfl (by simp) (by simp) fun _ => rfl) rfl id)
        exact ite _ h1 (raise h1 _ _ _ _)
      · exact h

@[simp] theorem interlockTimesOut (h : Kept P sc s) (d : Nat) : Kept P sc (s.interlockTimesOut d) := by
  unfold State.interlockTimesOut
  split
  · exact h
  · rename_i r hd
    split
    · exact h
    · rename_i c hc
      split
      · split
        · exact h
        · rename_i x _
          have h1 : Kept P sc (s.putDoor d { r with cycle := some { c with passages := c.passages.erase x } }) :=
            putDoor h hd (plain_of_cycle hc rfl List.erase_subset rfl rfl rfl) (sameCycle_yields hc rfl rfl rfl)
          exact ite _ (toSecured (refuse h1 _ _ _ _) d) (refuse h1 _ _ _ _)
      · exact h

@[simp] theorem exitFallsDue (h : Kept P sc s) (d : Nat) : Kept P sc (s.exitFallsDue d) := by
  unfold State.exitFallsDue
  split
  · exact h
  · rename_i r hd
    split
    · exact h
    · split
      · split
        · rename_i hs
          exact overrideRight h hd hs
        · rename_i hs
          exact putDoor h hd (enterReleased_plain r) (enterReleased_yields hs)
        all_goals exact h
      · exact h

@[simp] theorem indicationEnds (h : Kept P sc s) (d : Nat) : Kept P sc (s.indicationEnds d) := by
  unfold State.indicationEnds
  split
  · exact h
  · rename_i r hd
    exact ite _ (putDoor_minor h hd ⟨rfl, rfl, rfl, rfl, rfl, rfl⟩) h

@[simp] theorem strikeEcho (h : Kept P sc s) (d : Nat) : Kept P sc (s.strikeEcho d) := by
  refine changeDoor h d (fun r => ?_) (fun r => ?_) <;> split
  · exact plain_of_map rfl (fun _ => List.Subset.refl _) rfl rfl rfl
  · exact .refl r
  · exact .of_same rfl rfl (by simp)
  · exact .of_same rfl rfl rfl

theorem closeWaiting (h : Kept P sc s) {d : Nat} {r : DoorRec} {c : Cycle} (hd : s.door? d = some r)
    (hc : r.cycle = some c) : Kept P sc (s.closeWaiting d r c) := by
  have h1 : Kept P sc (s.putDoor d { r with cycle := some { c with passages := c.passages.filter (fun x => x.dir = .exit) } }) :=
    putDoor h hd (plain_of_cycle hc rfl (List.filter_subset_self _) rfl rfl rfl) (sameCycle_yields hc rfl rfl rfl)
  exact ite _ (toSecured (refuseEach h1 _ _ _) d) (refuseEach h1 _ _ _)

@[simp] theorem closeDoor (h : Kept P sc s) (d : Nat) : Kept P sc (s.closeDoor d) := by
  unfold State.closeDoor
  split
  · exact h
  · rename_i r hd
    split
    · exact h
    · rename_i c hc
      split
      · exact closeWaiting h hd hc
      · exact ite _ h (refuseEach (toSecured h d) _ _ _)
      · exact ite _ h (refuseEach (toSecured h d) _ _ _)
      · exact ite _ (closeWaiting h hd hc) h
      all_goals exact h

/-- A door that its station has left (R38). -/
def silenced (q : DoorRec) : DoorRec :=
  { q with state := .unknown, right := false, cycle := none, pairWait := none, heldInhibit := false,
           indication := .none, indEnd := none }

@[simp] theorem doorSilent (h : Kept P sc s) (d : Nat) : Kept P sc (s.doorSilent d) := by
  unfold State.doorSilent
  split
  · exact h
  · rename_i r hd
    dsimp only
    refine arbitrate ?_ d
    have h3 : ∀ {t}, Kept P sc t → Kept P sc (t.changeDoor d silenced) := fun ht =>
      changeDoor ht d (fun _ => rest_plain rfl rfl rfl (.inl rfl)) fun _ => .of_rest (.inr rfl) rfl rfl
    have h2 := refuseEach h d .doorUnavailable
    cases r.pairWait with
    | none => exact ite _ (markUnverified (h3 (h2 _)) _) (h3 (h2 _))
    | some w => exact ite _ (markUnverified (h3 (refuse (h2 _) _ _ _ _)) _) (h3 (refuse (h2 _) _ _ _ _))

@[simp] theorem doorReturn (h : Kept P sc s) (d : Nat) (isOpen latch : Bool) : Kept P sc (s.doorReturn d isOpen latch) := by
  unfold State.doorReturn
  split
  · exact h
  · rename_i r hd
    split
    · split
      · exact opening h d
      · have h1 : Kept P sc (s.putDoor d { r with state := .secured, right := false, cycle := none }) :=
          putDoor h hd (rest_plain rfl rfl rfl (.inr rfl)) (.of_rest (.inl rfl) rfl rfl)
        exact arbitrate (endBreach (endAlarm (endAlarm (ite _ (markUnverified h1 _) h1) _ _) _ _) d) d
    · exact h

@[simp] theorem heldAcknowledged (h : Kept P sc s) (d : Nat) : Kept P sc (s.heldAcknowledged d) :=
  changeDoor_minor h d (f := fun r => if r.state = .held then { r with heldInhibit := true } else r) fun r => by
    split <;> exact ⟨rfl, rfl, rfl, rfl, rfl, rfl⟩

/-- A zone becomes HELD here only with nothing in flight into it (R75). -/
@[simp] theorem freezeReached (h : Kept P sc s) : Kept P sc s.freezeReached := by
  have := mapZones h (f := fun z r => if r.freeze = .requested && s.inFlight z = 0 then { r with freeze := .held } else r)
    (fun z r hz => by split at hz <;> simp_all) (fun z r hz => by split <;> simp_all)
  unfold State.freezeReached
  refine cast (congrArg (fun t => Kept P sc (s.setOcc { s.occ with zones := t })) (List.map_congr_left fun p _ => ?_)) this
  split <;> rfl

end Kept
end Sys2Proof.Machine

/-! ## Occupancy and admission under a closed invariant -/

namespace Sys2Proof.Machine.Kept

variable {P : Scope → State → Prop} {sc : Scope} {s : State}

/-! ### Occupancy.lean -/

@[simp] theorem takeDwell (h : Kept P sc s) (i : Nat) : Kept P sc (s.takeDwell i) := by
  unfold State.takeDwell
  split
  · exact h
  · rename_i r hr
    refine ite _ (raise (putOcc_same h hr ?_ ?_ ?_) _ _ _ _) h <;> rfl

@[simp] theorem takeCheckin (h : Kept P sc s) (i : Nat) : Kept P sc (s.takeCheckin i) := by
  unfold State.takeCheckin
  split
  · exact h
  · rename_i r hr
    refine ite _ (raise (putOcc_same h hr ?_ ?_ ?_) _ _ _ _) h <;> rfl

@[simp] theorem takePairGrace (h : Kept P sc s) (i : Nat) : Kept P sc (s.takePairGrace i) := by
  unfold State.takePairGrace
  split
  · exact h
  · rename_i r hr
    refine ite _ (raise (putOcc_same h hr ?_ ?_ ?_) _ _ _ _) h <;> rfl

theorem takeGrace (h : Kept P sc s) {i : Nat} {r : OccRec} (hr : s.occ? i = some r) : Kept P sc (s.takeGrace i r) := by
  unfold State.takeGrace
  split
  · exact h
  · refine ite _ (putOcc_same h hr ?_ ?_ ?_) h <;> rfl

@[simp] theorem searchGrace (h : Kept P sc s) (i : Nat) : Kept P sc (s.searchGrace i) := by
  unfold State.searchGrace
  split
  · exact h
  · rename_i r hr
    have h1 := grantSearch h r.person r.zone
    have h2 := s.grantSearch_occ r.person r.zone
    split
    · split <;> rename_i e <;> rw [e] at h1 h2
      · exact h1
      · exact takeGrace h1 (by rw [State.occ?, h2]; exact hr)
    · exact h

@[simp] theorem giveGrace (h : Kept P sc s) (i : Nat) : Kept P sc (s.giveGrace i) := by
  unfold State.giveGrace
  split
  · exact h
  · exact ite _ (searchGrace h i) h

@[simp] theorem arrived (h : Kept P sc s) (i : Nat) : Kept P sc (s.arrived i) := takeDwell (giveGrace h i) i

@[simp] theorem moveRecord (h : Kept P sc s) (i : Nat) (r : OccRec) (z : Nat) (m : Mode) :
    Kept P sc (s.moveRecord i r z m) := by
  have h1 := arrived (endAlarm (changeOcc h i (fun q => { s.placed q z with
    pairGrace := none, alone := false, duress := (r.duress || m = .duress : Bool) }) (fun _ => rfl) (fun _ => rfl)
    (fun _ => rfl)) .pairBroken (.person r.person)) i
  exact ite _ (raise h1 _ _ _ _) h1

@[simp] theorem retireRecord (h : Kept P sc s) (i : Nat) (r : OccRec) : Kept P sc (s.retireRecord i r) := by
  have h1 := endAlarm (endAlarm (endAlarm (delOcc h i) .checkinMissed (.person r.person)) .dwellOverrun
    (.person r.person)) .pairBroken (.person r.person)
  exact ite _ (endSuspect h1 _ _) h1

@[simp] theorem leave (h : Kept P sc s) (i : Nat) (r : OccRec) (outer : Nat) : Kept P sc (s.leave i r outer) :=
  ite _ (retireRecord h _ _) (moveRecord h _ _ _ _)

@[simp] theorem mismatch (h : Kept P sc s) (p z : Nat) : Kept P sc (s.mismatch p z) := raise h _ _ _ _

theorem makeEntry (h : Kept P sc s) {p : Nat} (hp : p ∈ sc.known) (z : Nat) (x : Passage) :
    Kept P sc (s.makeEntry p z x) := by
  unfold State.makeEntry
  split
  · exact markUnverified h z
  · exact arrived (putOcc_known h _ hp rfl) _

theorem applyEntry (h : Kept P sc s) (inner outer : Nat) {p : Nat} (hp : p ∈ sc.known) (x : Passage) :
    Kept P sc (s.applyEntry inner outer p x) := by
  unfold State.applyEntry
  split
  · exact ite _ (markUnverified (mismatch h _ _) _) (ite _ (moveRecord h _ _ _ _)
      (markUnverified (mismatch (moveRecord h _ _ _ _) _ _) _))
  · exact ite _ (markUnverified h _) (ite _ (makeEntry h hp _ _)
      (markUnverified (mismatch (makeEntry h hp _ _) _ _) _))

@[simp] theorem applyExit (h : Kept P sc s) (inner outer p : Nat) : Kept P sc (s.applyExit inner outer p) := by
  unfold State.applyExit
  split
  · exact ite _ (leave h _ _ _) (ite _ (markUnverified (mismatch h _ _) _)
      (markUnverified (mismatch (leave h _ _ _) _ _) _))
  · exact ite _ (markUnverified (markUnverified h _) _) (markUnverified (markUnverified (mismatch h _ _) _) _)

@[simp] theorem inferExit (h : Kept P sc s) (inner outer : Nat) (double : Bool) :
    Kept P sc (s.inferExit inner outer double) := by
  unfold State.inferExit
  refine ite _ (markUnverified ?_ _) ?_ <;> split
  · exact ite _ h (leave h _ _ _)
  · exact markUnverified h _
  · exact ite _ h (leave h _ _ _)
  · exact markUnverified h _

theorem applyPassage (h : Kept P sc s) (inner outer : Nat) {x : Passage}
    (hx : x.dir = .entry → ∀ p, x.person = some p → p ∈ sc.known) : Kept P sc (s.applyPassage inner outer x) := by
  unfold State.applyPassage
  split
  · rename_i p hd hp
    exact reportUse (applyEntry h inner outer (hx hd p hp) x) x
  · exact reportUse (markUnverified h _) _
  · exact applyExit h _ _ _
  · exact h

@[simp] theorem startGrace (h : Kept P sc s) (z : Nat) : Kept P sc (s.startGrace z) := by
  unfold State.startGrace
  split
  · rename_i zr i r _ _
    have h1 := testPerson h r.person
    exact ite _ (ite _ h1 (changeOcc h1 i (fun q => { q with
      alone := true, pairGrace := some ((s.testPerson r.person).now + zr.cfg.pairGrace) }) (fun _ => rfl) (fun _ => rfl)
      (fun _ => rfl))) h
  · exact h

@[simp] theorem clearAlone (h : Kept P sc s) (q : Nat × OccRec) : Kept P sc (s.clearAlone q) :=
  ite _ (endAlarm (changeOcc h q.1 (fun r => { r with alone := false, pairGrace := none }) (fun _ => rfl) (fun _ => rfl)
    (fun _ => rfl)) _ _) h

@[simp] theorem pairEvaluate (h : Kept P sc s) (z before : Nat) : Kept P sc (s.pairEvaluate z before) :=
  ite _ h (ite _ (foldl (fun _ q ht => clearAlone ht q) _ h) (ite _ (startGrace h z) h))

@[simp] theorem inferred (h : Kept P sc s) (inner outer : Nat) (xs : List Passage) (unlisted : Bool) :
    Kept P sc (s.inferred inner outer xs unlisted) := ite _ (inferExit h _ _ _) h

/-- A completion whose entrants are known (R47, R85). -/
theorem complete (h : Kept P sc s) (inner outer : Nat) {xs : List Passage} (unlisted : Bool)
    (hx : ∀ x ∈ xs, x.dir = .entry → ∀ p, x.person = some p → p ∈ sc.known) :
    Kept P sc (s.complete inner outer xs unlisted) := by
  have hpass : ∀ (l : List Passage), l ⊆ xs → ∀ {t}, Kept P sc t →
      Kept P sc (l.foldl (fun s x => s.applyPassage inner outer x) t) := by
    intro l
    induction l with
    | nil => exact fun _ _ ht => ht
    | cons x l ih =>
      intro hl t ht
      exact ih (fun y hy => hl (List.mem_cons_of_mem _ hy)) (applyPassage ht _ _ (hx x (hl List.mem_cons_self)))
  exact foldl (fun _ z ht => pairEvaluate ht z _) _ (pairEvaluate (pairEvaluate
    (hpass xs (List.Subset.refl _) (inferred h _ _ _ _)) _ _) _ _)

/-- Persons of a door's pending ENTRY passages become known. -/
theorem knowEntrants {b : Option Nat} {k : List Nat} (h : Kept P { but := b, known := k } s) {d : Nat} {r : DoorRec}
    (hd : s.door? d = some r) (l : List Nat) (hl : ∀ p ∈ l, some p ∈ entrants r) :
    Kept P { but := b, known := l ++ k } s := by
  induction l with
  | nil => exact h
  | cons p l ih =>
    have h1 := ih fun q hq => hl q (List.mem_cons_of_mem _ hq)
    exact h1.map_holds fun K => K.knowEntrant p hd (hl p List.mem_cons_self)

/-- What was known for a while is known no more. -/
theorem unknowingAll {b : Option Nat} {k : List Nat} (l : List Nat) (h : Kept P { but := b, known := l ++ k } s) :
    Kept P { but := b, known := k } s := h.forget (l := k) (List.subset_append_right _ _)

/-- The completion of a closing is taken from its door and applied (R24, R85). -/
theorem handOver {k : List Nat} {d : Nat} (h : Kept P { but := some d, known := k } s) :
    Kept P { known := k } (s.handOver d) := by
  unfold State.handOver
  cases hd : s.door? d with
  | none => exact awaited h fun r hr => by simp [hd] at hr
  | some r =>
    dsimp only
    cases hc : r.cycle with
    | none => exact awaited h fun q hq => by rw [hd] at hq; cases hq; exact hc
    | some c =>
      have hent : ∀ p ∈ (entrants r).filterMap id, some p ∈ entrants r := fun p hp => by
        obtain ⟨x, hx, rfl⟩ := List.mem_filterMap.1 hp
        exact hx
      refine unknowingAll ((entrants r).filterMap id) (complete (takeCycle (knowEntrants h hd _ hent)) _ _ _ ?_)
      intro x hx hdir p hp
      refine List.mem_append_left _ (List.mem_filterMap.2 ⟨some p, ?_, rfl⟩)
      unfold entrants
      rw [hc]
      exact List.mem_map.2 ⟨x, List.mem_filter.2 ⟨hx, by simpa using hdir⟩, hp⟩

@[simp] theorem checkIn (h : Kept P sc s) (z cred : Nat) : Kept P sc (s.checkIn z cred) := by
  unfold State.checkIn
  split <;> rename_i hr
  all_goals have h1 := fst_of hr (resolve h cred)
  · rename_i s1 p
    split
    · rename_i i r _
      have h2 := changeOcc h1 i (fun r => { r with missing := false, checkin := s1.checkinFor z }) (fun _ => rfl)
        (fun _ => rfl) (fun _ => rfl)
      exact ite _ (ite _ (endAlarm h2 _ _) h2) (mismatch h1 _ _)
    · exact ite _ h1 (mismatch h1 _ _)
  · exact raise h1 _ _ _ _
  · exact raise h1 _ _ _ _

@[simp] theorem turnRecord (h : Kept P sc s) (i : Nat) : Kept P sc (s.turnRecord i) :=
  takeDwell (searchGrace (changeOcc h i (fun r => { r with checkin := s.checkinFor r.zone }) (fun _ => rfl) (fun _ => rfl)
    (fun _ => rfl)) i) i

@[simp] theorem turnAfter (h : Kept P sc s) (z : Nat) : Kept P sc (s.turnAfter z) :=
  startGrace (foldl (fun _ q ht => turnRecord ht q.1) _ h) z

@[simp] theorem turnDay (h : Kept P sc s) (z : Nat) : Kept P sc (s.turnDay z) := by
  refine mapOcc h (f := fun _ r => if r.zone = z then { r with checkin := none, pairGrace := none } else r)
    (fun i r hr => ?_) (fun i r hr => ?_) (List.map_congr_left fun p _ => by split <;> rfl)
  · split at hr
    · rename_i hz
      exact ⟨hr, by rw [if_pos hz]⟩
    · rename_i hz
      exact ⟨hr, by rw [if_neg hz]⟩
  · split <;> exact hr

@[simp] theorem evaluateHours (h : Kept P sc s) (z : Nat) : Kept P sc (s.evaluateHours z) := by
  unfold State.evaluateHours
  split
  · exact h
  · rename_i r hr
    refine ite _ h ?_
    dsimp only
    refine ite _ h ?_
    have h1 := putZone_same h hr (r := { r with hours := computeHours s.ret.calendar r.cfg }) (.inr rfl) rfl
    split
    · exact turnAfter h1 _
    · exact turnDay h1 _

@[simp] theorem evaluateAllHours (h : Kept P sc s) : Kept P sc s.evaluateAllHours :=
  foldl (fun _ z ht => evaluateHours ht z) _ h

@[simp] theorem takeAllDeadlines (h : Kept P sc s) : Kept P sc s.takeAllDeadlines :=
  foldl (fun _ i ht => takePairGrace (takeCheckin (takeDwell ht i) i) i) _ h

/-! ### Admission.lean -/

@[simp] theorem checkGrant (h : Kept P sc s) (z : Nat) (zr : ZoneRec) (p n : Nat) :
    Kept P sc (s.checkGrant z zr p n).1 := by
  unfold State.checkGrant
  split
  · split <;> exact h
  · split <;> rename_i hr
    · exact fst_of hr (grantSearch h p z)
    · split <;> exact fst_of hr (grantSearch h p z)

@[simp] theorem entryChecks (h : Kept P sc s) (r : DoorRec) (res : Resolution) (n : Nat) :
    Kept P sc (s.entryChecks r res n).1 := by
  unfold State.entryChecks
  (repeat' split) <;> first | exact h | exact checkGrant h _ _ _ _

/-- The grant search of check 11 leaves doors and zones. -/
theorem checkGrant_frame (z : Nat) (zr : ZoneRec) (p n : Nat) :
    (s.checkGrant z zr p n).1.door = s.door ∧ (s.checkGrant z zr p n).1.occ = s.occ ∧
      ∀ q g c, (s.checkGrant z zr p n).2 = .passed q g c → q = p := by
  have h1 := s.grantSearch_door p z
  have h2 := s.grantSearch_occ p z
  unfold State.checkGrant
  split
  · split <;> simp_all
  · split <;> rename_i e <;> rw [e] at h1 h2
    · exact ⟨h1, h2, by simp⟩
    · split
      · exact ⟨h1, h2, fun q g c he => by simp at he; exact he.1.symm⟩
      · exact ⟨h1, h2, by simp⟩

/-- A request passes the checks only into a THAWED zone, and for a person with a record (R63). -/
theorem entryChecks_passed {r : DoorRec} {res : Resolution} {n p : Nat} {g c : Option Nat} {t : State}
    (he : s.entryChecks r res n = (t, .passed p g c)) :
    thawedAt s r ∧ (s.person? p).isSome = true ∧ t.door = s.door ∧ t.occ = s.occ := by
  unfold State.entryChecks at he
  split at he
  · simp at he
  split at he
  · simp at he
  split at he
  · simp at he
  split at he
  · simp at he
  rename_i zr hz
  split at he
  · simp at he
  split at he
  · simp at he
  rename_i hfreeze
  split at he
  · simp at he
  rename_i q hq
  obtain ⟨h1, h2, h3⟩ := checkGrant_frame (s := s) r.cfg.inner zr q n
  rw [he] at h1 h2 h3
  cases h3 p g c rfl
  refine ⟨⟨zr, hz, by simpa using hfreeze⟩, ?_, h1, h2⟩
  unfold State.checkPerson at hq
  split at hq
  · cases hq
  · cases hq
  · split at hq
    · cases hq
    · rename_i w hw
      (repeat' split at hq) <;> cases hq
      rw [hw]
      rfl

theorem thawedAt_of {t : State} {r q : DoorRec} (h : thawedAt s r) (ho : t.occ = s.occ) (hc : q.cfg = r.cfg) :
    thawedAt t q := by
  obtain ⟨z, hz, hf⟩ := h
  exact ⟨z, by rw [State.zone?, ho, hc]; exact hz, hf⟩

/-- The release request of entries of known persons into a THAWED zone. -/
theorem releaseEntries (h : Kept P sc s) {d : Nat} {r : DoorRec} (hd : s.door? d = some r) (ht : thawedAt s r)
    {xs : List Passage} (hx : ∀ x ∈ xs, ∀ p, x.person = some p → p ∈ sc.known) :
    Kept P sc (s.releaseRequest d xs).1 := releaseRequest h hd fun x hm _ => ⟨ht, hx x hm⟩

/-- The release request of exits. -/
theorem releaseExits (h : Kept P sc s) (d : Nat) {xs : List Passage} (hx : ∀ x ∈ xs, x.dir = .exit) :
    Kept P sc (s.releaseRequest d xs).1 := by
  cases hd : s.door? d with
  | none =>
    unfold State.releaseRequest
    rw [hd]
    exact h
  | some r => exact releaseRequest h hd fun x hm he => by rw [hx x hm] at he; cases he

theorem grantEntry (h : Kept P sc s) {d : Nat} {r : DoorRec} (hd : s.door? d = some r) (ht : thawedAt s r) {p : Nat}
    (hp : p ∈ sc.known) (g c : Option Nat) (m : Mode) (arrival : Nat) : Kept P sc (s.grantEntry d p g c m arrival) := by
  have hd1 : (s.decided d (s.grantedNow (some p) g)).door? d = some { r with
      decision := s.grantedNow (some p) g, indication := .grant, indEnd := some (s.base + 300) } := by
    unfold State.decided
    rw [State.door?_changeDoor, if_pos rfl, hd]
    rfl
  have h1 := releaseEntries (decided h d (s.grantedNow (some p) g)) hd1 (thawedAt_of ht rfl rfl)
    (xs := [{ dir := .entry, person := some p, grant := g, ceiling := c, mode := m, arrival := arrival }])
    (fun x hx q hq => by simp at hx; subst hx; simp at hq; exact hq ▸ hp)
  unfold State.grantEntry
  dsimp only
  split <;> rename_i e
  · exact fst_of e h1
  · exact refuse (fst_of e h1) _ _ _ _
  · exact refuse (fst_of e h1) _ _ _ _

theorem pairRelease (h : Kept P sc s) {d : Nat} {r : DoorRec} (hd : s.door? d = some r) (ht : thawedAt s r) {w : PairWait}
    (hw : r.pairWait = some w) {p : Nat} (hp : p ∈ sc.known) (g c : Option Nat) (m : Mode) (arrival : Nat) :
    Kept P sc (s.pairRelease d w p g c m arrival) := by
  have hk : Kept P (sc.knowing w.person) s :=
    h.map_holds fun K => K.knowWaiter w.person hd (by unfold waiter; rw [hw]; rfl)
  have h1 := unknowing (releaseEntries hk hd ht (xs := [State.firstPassage w,
    { dir := .entry, person := some p, grant := g, ceiling := c, mode := m, arrival := arrival }])
    (fun x hx q hq => by
      simp only [List.mem_cons, List.not_mem_nil, or_false] at hx
      rcases hx with rfl | rfl
      · exact List.mem_cons.2 (.inl (by simpa [State.firstPassage] using hq.symm))
      · exact List.mem_cons_of_mem _ (by simp at hq; exact hq ▸ hp)))
  unfold State.pairRelease
  dsimp only
  split <;> rename_i e
  · refine decided (changeDoor (fst_of e h1) d (f := fun r => { r with pairWait := none }) (fun r => ?_) fun r => ?_) _ _
    · exact plain_of_sub rfl rfl (.inl rfl) fun e he => ⟨e, he, List.Subset.refl _⟩
    · exact .of_same rfl rfl rfl
  · exact refuse (fst_of e h1) _ _ _ _
  · exact refuse (fst_of e h1) _ _ _ _

theorem beginPairWait (h : Kept P sc s) {d : Nat} {r : DoorRec} (hd : s.door? d = some r) (ht : thawedAt s r) {p : Nat}
    (hp : p ∈ sc.known) (g c : Option Nat) (m : Mode) (arrival window : Nat) :
    Kept P sc (s.beginPairWait d p g c m arrival window) := h.map_holds fun K => K.beginWait _ hd ht hp

theorem admitEntry (h : Kept P sc s) {d : Nat} {r : DoorRec} (hd : s.door? d = some r) (ht : thawedAt s r) {p : Nat}
    (hp : p ∈ sc.known) (g c : Option Nat) (m : Mode) (arrival : Nat) : Kept P sc (s.admitEntry d r p g c m arrival) := by
  unfold State.admitEntry
  split
  · rename_i w hw
    exact pairRelease h hd ht hw hp _ _ _ _
  · exact ite _ (beginPairWait h hd ht hp _ _ _ _ _) (grantEntry h hd ht hp _ _ _ _)

@[simp] theorem divert (h : Kept P sc s) (e : WaitEntry) (p : Option Nat) : Kept P sc (s.divert e p) :=
  ite _ h (ite _ (refuse h _ _ _ _) (setWaits h _))

@[simp] theorem decideEntry (h : Kept P sc s) (d : Nat) (cred : Option Nat) (res : Resolution) (m : Mode) (arrival : Nat) :
    Kept P sc (s.decideEntry d cred res m arrival) := by
  unfold State.decideEntry
  split
  · exact h
  · rename_i r hd
    refine ite _ h ?_
    split <;> rename_i he <;> have h2 := fst_of he (entryChecks h _ _ _)
    · dsimp only
      refine refuse ?_ _ _ _ _
      split
      · exact mismatch h2 _ _
      · exact h2
    · exact divert h2 _ _
    · rename_i t p g c
      obtain ⟨ht, hp, hdoor, hocc⟩ := entryChecks_passed he
      have h3 : Kept P (sc.knowing p) t := fst_of he (entryChecks (knowing h hp) _ _ _)
      exact unknowing (admitEntry h3 (by rw [State.door?, hdoor]; exact hd) (thawedAt_of ht hocc rfl)
        List.mem_cons_self _ _ _ _)

@[simp] theorem exitRequest (h : Kept P sc s) (d : Nat) (p : Option Nat) (arrival : Nat) :
    Kept P sc (s.exitRequest d p arrival) := by
  unfold State.exitRequest
  split
  · exact h
  · dsimp only
    have h1 := decided h d { outcome := .releasedExit, person := p, time := some s.now }
    split
    · exact h1
    · have h2 := releaseExits h1 d (xs := [{ dir := .exit, person := p, arrival := arrival }]) (by simp)
      split <;> rename_i hr
      · exact fst_of hr h2
      · exact fst_of hr h2
      · exact refuse (fst_of hr h2) _ _ _ _

/-- A pair wait ends. -/
theorem endPairWait (h : Kept P sc s) {d : Nat} {r : DoorRec} (hd : s.door? d = some r) :
    Kept P sc (s.putDoor d { r with pairWait := none }) :=
  putDoor h hd (plain_of_sub rfl rfl (.inl rfl) fun e he => ⟨e, he, List.Subset.refl _⟩) (.of_same rfl rfl rfl)

@[simp] theorem pairWindowEnds (h : Kept P sc s) (d : Nat) : Kept P sc (s.pairWindowEnds d) := by
  unfold State.pairWindowEnds
  split
  · exact h
  · rename_i r hd
    split
    · exact h
    · exact ite _ (refuse (endPairWait h hd) _ _ _ _) h

@[simp] theorem waitPerson (h : Kept P sc s) (e : WaitEntry) : Kept P sc (s.waitPerson e).1 := by
  unfold State.waitPerson
  split
  · exact h
  · exact resolve h _

@[simp] theorem waitExpires (h : Kept P sc s) : Kept P sc s.waitExpires := by
  unfold State.waitExpires
  split
  · exact h
  · rename_i e rest _
    split
    · exact refuse (waitPerson (setWaits h rest) _) _ _ _ _
    · exact h

@[simp] theorem closePairWait (h : Kept P sc s) (d : Nat) : Kept P sc (s.closePairWait d) := by
  unfold State.closePairWait
  split
  · exact h
  · rename_i r hd
    split
    · exact h
    · exact refuse (endPairWait h hd) _ _ _ _

@[simp] theorem closeWaits (h : Kept P sc s) (z : Nat) : Kept P sc (s.closeWaits z) :=
  foldl (fun _ _ ht => refuse (waitPerson ht _) _ _ _ _) _
    (setWaits (foldl (fun _ d ht => closePairWait ht d) (s.doorsInto z) h) _)

@[simp] theorem zoneCloses (h : Kept P sc s) (z : Nat) : Kept P sc (s.zoneCloses z) :=
  freezeReached (closeWaits (foldl (fun _ d ht => closeDoor ht d) (s.doorsInto z) h) z)

end Sys2Proof.Machine.Kept

/-! ## The Release Unit under a closed invariant -/

namespace Sys2Proof.Machine.Kept

open State (AgentReport)

variable {P : Scope → State → Prop} {sc : Scope} {s : State}

/-! ## Release.lean -/

/-- Every zone takes an entry state; its freeze state and check value stay. -/
theorem setEntries (h : Kept P sc s) (e : Nat → EntryState) : Kept P sc
    (s.setOcc { s.occ with zones := s.occ.zones.map (fun p => (p.1, { p.2 with entry := e p.1 })) }) :=
  mapZones h (f := fun z r => { r with entry := e z }) (fun _ _ hz => .inl hz) (fun _ _ hc => hc)

@[simp] theorem syncEntries (h : Kept P sc s) : Kept P sc s.syncEntries :=
  foldl (fun _ z ht => zoneCloses ht z) _ (setEntries h s.entryOf)

@[simp] theorem raiseAgent (h : Kept P sc s) (a : Nat) (k : Kind) :
    Kept P sc (State.raiseAgent s a k) := by
  simp [State.raiseAgent, h]

@[simp] theorem enterState (h : Kept P sc s) (a : Nat) (new : AgentState) :
    Kept P sc (State.enterState s a new) := by
  simp (maxDischargeDepth := 40) [State.enterState, h]

@[simp] theorem egressTime (h : Kept P sc s) (a : Nat) :
    Kept P sc (State.egressTime s a).1 := by
  unfold State.egressTime
  split <;> simp [h]

@[simp] theorem beginRelease (h : Kept P sc s) (a : Nat) : Kept P sc (s.beginRelease a) := by
  unfold State.beginRelease
  split
  · exact enterState (changeAgent (raiseAgent h a _) a _ rfl) a _
  · have h1 := egressTime h a
    split
    rename_i s1 e hr
    have h2 := changeAgent (fst_of hr h1) a (fun r => State.openingTimes r s1.now e) rfl
    exact enterState (raiseAgent (ite _ (raiseAgent h2 a _) h2) a _) a _

@[simp] theorem enterHold (h : Kept P sc s) (a : Nat) :
    Kept P sc (State.enterHold s a) := by
  simp [State.enterHold, h]

@[simp] theorem deadlineTaken (h : Kept P sc s) (a : Nat) :
    Kept P sc (State.deadlineTaken s a) := by
  simp (maxDischargeDepth := 40) [State.deadlineTaken, h]

@[simp] theorem takeCountdown (h : Kept P sc s) (a : Nat) :
    Kept P sc (State.takeCountdown s a) := by
  simp [State.takeCountdown, h]

@[simp] theorem endHold (h : Kept P sc s) (a : Nat) :
    Kept P sc (State.endHold s a) := by
  simp (maxDischargeDepth := 40) [State.endHold, h]

@[simp] theorem withdrawFlag (h : Kept P sc s) (a : Nat) :
    Kept P sc (State.withdrawFlag s a) := by
  simp [State.withdrawFlag, h]

@[simp] theorem testGate (h : Kept P sc s) (a : Nat) :
    Kept P sc (State.testGate s a) := by
  simp [State.testGate, h]

@[simp] theorem readGate (h : Kept P sc s) (a : Nat) :
    Kept P sc (State.readGate s a) := by
  simp [State.readGate, h]

@[simp] theorem evaluate (h : Kept P sc s) (a : Nat) :
    Kept P sc (State.evaluate s a) := by
  simp [State.evaluate, h]

@[simp] theorem actAlert (h : Kept P sc s) (a : Nat) (before : Bool) :
    Kept P sc (State.actAlert s a before) := by
  unfold State.actAlert
  (repeat' split) <;> simp [h]

@[simp] theorem actRelease (h : Kept P sc s) (a : Nat) (before : Bool) :
    Kept P sc (State.actRelease s a before) := by
  simp [State.actRelease, h]

@[simp] theorem actOutputs (h : Kept P sc s) (a : Nat) (alert : Bool) (release : Bool) :
    Kept P sc (State.actOutputs s a alert release) := by
  simp [State.actOutputs, h]

@[simp] theorem reevaluate (h : Kept P sc s) (a : Nat) :
    Kept P sc (State.reevaluate s a) := by
  simp (maxDischargeDepth := 40) [State.reevaluate, h]

@[simp] theorem rereadAgent (h : Kept P sc s) (mask : BitVec 32) (a : Nat) :
    Kept P sc (State.rereadAgent mask s a) := by
  simp (maxDischargeDepth := 40) [State.rereadAgent, h]

@[simp] theorem settleRound (mask : BitVec 32) (h : Kept P sc s) : Kept P sc (State.settleRound mask s) := by
  unfold State.settleRound
  exact foldl (fun t x ht => readGate ht x) _ (foldl (fun t x ht => rereadAgent ht mask x) _ h)

theorem settleLoop (n : Nat) (mask : BitVec 32) (h : Kept P sc s) : Kept P sc (State.settleLoop n mask s) := by
  induction n generalizing mask s with
  | zero => exact h
  | succ n ih =>
    simp only [State.settleLoop]
    split
    · exact settleRound mask h
    · exact ih _ (settleRound mask h)

@[simp] theorem settleBits (h : Kept P sc s) (mask : BitVec 32) : Kept P sc (s.settleBits mask) := settleLoop _ _ h

@[simp] theorem settle (h : Kept P sc s)  :
    Kept P sc (State.settle s) := by
  exact settleBits h _

@[simp] theorem recompute (h : Kept P sc s) (a : Nat) :
    Kept P sc (State.recompute s a) := by
  unfold State.recompute
  split
  · split
    · have h1 := egressTime h a
      split
      rename_i s1 e hr
      rw [hr] at h1
      simp (maxDischargeDepth := 40) [h1]
    · exact h
  · exact h

@[simp] theorem recomputeFor (h : Kept P sc s) (zs : List Nat) : Kept P sc (s.recomputeFor zs) := by
  refine foldl (fun t x ht => ?_) _ h
  split
  · exact recompute ht _
  · exact ht

@[simp] theorem enterDischarged (h : Kept P sc s) (a : Nat) : Kept P sc (s.enterDischarged a) :=
  raiseAgent (enterState (changeAgent h a _ rfl) a _) a _

@[simp] theorem takeConfirmation (h : Kept P sc s) (a : Nat) :
    Kept P sc (State.takeConfirmation s a) := by
  simp (maxDischargeDepth := 40) [State.takeConfirmation, h]

@[simp] theorem takeEcho (h : Kept P sc s) (a : Nat) :
    Kept P sc (State.takeEcho s a) := by
  unfold State.takeEcho
  (repeat' split) <;> simp [h]

@[simp] theorem takePressure (h : Kept P sc s) (a : Nat) :
    Kept P sc (State.takePressure s a) := by
  unfold State.takePressure
  split <;> simp [h]

@[simp] theorem abortSet (h : Kept P sc s) (a : Nat) : Kept P sc (s.abortSet a) := by
  unfold State.abortSet
  split
  · exact enterState (changeAgent h a _ rfl) a _
  · exact enterState (changeAgent h a _ rfl) a _
  · exact ite _ h (enterState (changeAgent h a _ rfl) a _)
  all_goals exact h

@[simp] theorem abortCleared (h : Kept P sc s) (a : Nat) :
    Kept P sc (State.abortCleared s a) := by
  simp (maxDischargeDepth := 40) [State.abortCleared, h]

@[simp] theorem actAbort (h : Kept P sc s) (a : Nat) (before : Bool) :
    Kept P sc (State.actAbort s a before) := by
  unfold State.actAbort
  split <;> simp [h]

@[simp] theorem actManual (h : Kept P sc s) (a : Nat) (before : Bool) :
    Kept P sc (State.actManual s a before) := by
  simp [State.actManual, h]

@[simp] theorem actReady (h : Kept P sc s) (a : Nat) (before : Bool) :
    Kept P sc (State.actReady s a before) := by
  simp (maxDischargeDepth := 40) [State.actReady, h]

@[simp] theorem agentSilent (h : Kept P sc s) (a : Nat) :
    Kept P sc (State.agentSilent s a) := by
  unfold State.agentSilent
  (repeat' split) <;> simp (maxDischargeDepth := 40) [h]

@[simp] theorem agentReturn (h : Kept P sc s) (a : Nat) (ready : Bool) :
    Kept P sc (State.agentReturn s a ready) := by
  simp (maxDischargeDepth := 40) [State.agentReturn, h]

@[simp] theorem actFault (h : Kept P sc s) (a : Nat) (before : Bool) (after : Bool) (other : Bool) :
    Kept P sc (State.actFault s a before after other) := by
  unfold State.actFault
  split <;> simp [h]

@[simp] theorem takeInputs (h : Kept P sc s) (a : Nat) (x : AgentReport) :
    Kept P sc (State.takeInputs s a x) := by
  simp (maxDischargeDepth := 40) [State.takeInputs, h]

@[simp] theorem firstReport (h : Kept P sc s) (a : Nat) :
    Kept P sc (State.firstReport s a) := by
  simp (maxDischargeDepth := 40) [State.firstReport, h]

@[simp] theorem takeBits (h : Kept P sc s) (a : Nat) (x : AgentReport) (back : Bool) (first : Bool) :
    Kept P sc (State.takeBits s a x back first) := by
  simp (maxDischargeDepth := 40) [State.takeBits, h]

@[simp] theorem agentReport (h : Kept P sc s) (a : Nat) (x : AgentReport) (returned : Bool) (echo : Bool) :
    Kept P sc (State.agentReport s a x returned echo) := by
  simp (maxDischargeDepth := 40) [State.agentReport, h]

@[simp] theorem restartAlarms (h : Kept P sc s) (a : Nat) (r : AgentRec) :
    Kept P sc (State.restartAlarms s a r) := by
  unfold State.restartAlarms
  (repeat' split) <;> simp (maxDischargeDepth := 40) [h]

@[simp] theorem readInputs (h : Kept P sc s) (a : Nat) :
    Kept P sc (State.readInputs s a) := by
  simp (maxDischargeDepth := 40) [State.readInputs, h]

@[simp] theorem restartInputs (h : Kept P sc s) (a : Nat) :
    Kept P sc (State.restartInputs s a) := by
  simp (maxDischargeDepth := 40) [State.restartInputs, h]

/-- The restarted agents keep the check values that they have. -/
theorem restartAgents (h : Kept P sc s) (now : Nat) (f : Nat → AgentRec)
    (l : List Nat) (hf : ∀ a, (f a).checkOk = (s.agent a).checkOk) :
    Kept P sc (l.foldl (fun t a => (t.putAgent a (State.restartedAgent (f a) now)).restartAlarms a (f a)) s) := by
  induction l generalizing s with
  | nil => exact h
  | cons a l ih =>
    have h1 := putAgent h a (r := State.restartedAgent (f a) now) fun hc => (hf a).trans hc
    refine ih (restartAlarms h1 a (f a)) fun b => ?_
    have hrel : (State.restartAlarms (s.putAgent a (State.restartedAgent (f a) now)) a (f a)).agent b =
        (s.putAgent a (State.restartedAgent (f a) now)).agent b := by
      unfold State.restartAlarms State.agent
      split
      iterate 3 rfl
      · split <;> rfl
      all_goals rfl
    rw [hrel, State.agent_putAgent]
    split
    · rename_i hab
      rw [← hab.1]
      rfl
    · exact hf b

@[simp] theorem restartRelease (h : Kept P sc s) : Kept P sc s.restartRelease :=
  foldl (fun _ a ht => restartInputs ht a) _ (setEntries (restartAgents h s.now s.agent State.eight fun _ => rfl) _)

end Sys2Proof.Machine.Kept

/-! ## The station link under a closed invariant -/

namespace Sys2Proof.Machine.Kept

variable {P : Scope → State → Prop} {sc : Scope} {s : State}

/-! ## Link.lean -/

@[simp] theorem syncStations (h : Kept P sc s) : Kept P sc s.syncStations :=
  mapStations h (f := fun a st => State.withOutputs st (s.ownerOutputs a st))
    (fun a st hst => by unfold State.withOutputs; split <;> exact hst) rfl

@[simp] theorem refreshLanes (h : Kept P sc s) : Kept P sc s.refreshLanes := setLanes h rfl

@[simp] theorem conclude (h : Kept P sc s)  :
    Kept P sc (State.conclude s) := by
  exact refreshLanes (syncStations (settle (freezeReached h)))

@[simp] theorem finish (h : Kept P sc s)  :
    Kept P sc (State.finish s) := by
  exact conclude h

@[simp] theorem pollGate (h : Kept P sc s) (a : Nat) :
    Kept P sc (State.pollGate s a) := by
  simp (maxDischargeDepth := 40) [State.pollGate, h]

@[simp] theorem gateBeforePoll (h : Kept P sc s) (st : StationRec) :
    Kept P sc (State.gateBeforePoll s st) := by
  unfold State.gateBeforePoll
  split
  · exact conclude (pollGate h _)
  · exact h

theorem sendPoll (h : Kept P sc s) {addr : Nat} (lane : State.Lane) {st : StationRec} (hst : s.station? addr = some st) :
    Kept P sc (s.sendPoll addr lane st) := by
  refine setLanes (putStation_same h hst (r := { st with sent := some (s.polledOutputs st, st.token),
                                                         lastPoll := some s.base }) rfl) ?_
  cases lane <;> rfl

@[simp] theorem pollNext (h : Kept P sc s) : Kept P sc s.pollNext := by
  unfold State.pollNext
  split
  · exact h
  split
  · exact h
  split
  · exact h
  rename_i st hst
  dsimp only
  split
  · exact gateBeforePoll h st
  · rename_i st1 hst1
    exact sendPoll (gateBeforePoll h st) _ hst1

@[simp] theorem tellSilence (h : Kept P sc s) (c : StationCfg) :
    Kept P sc (State.tellSilence s c) := by
  unfold State.tellSilence
  split <;> simp [h]

theorem goSilent (h : Kept P sc s) {addr : Nat} {st : StationRec} (hst : s.station? addr = some st) :
    Kept P sc (s.goSilent addr st) := by
  have h1 := raise (putStation_same h hst (r := { st with link := .silent, missed := 3 }) rfl) .stationSilent
    (.station addr) (s.stationZone addr st) none
  exact ite _ (tellSilence h1 _) h1

theorem missedPoll (h : Kept P sc s) {addr : Nat} {st : StationRec} (hst : s.station? addr = some st) :
    Kept P sc (s.missedPoll addr st) :=
  ite _ h (ite _ (putStation_same h hst (r := { st with missed := st.missed + 1 }) rfl) (goSilent h hst))

@[simp] theorem exchangeOver (h : Kept P sc s) : Kept P sc s.exchangeOver := by
  unfold State.exchangeOver
  have h1 := finish h
  generalize s.finish = t at h1 ⊢
  exact refreshLanes (setLanes h1 rfl)

@[simp] theorem missedReply (h : Kept P sc s) (x : Exchange) : Kept P sc (s.missedReply x) := by
  unfold State.missedReply
  split
  · exact h
  · split
    · exact h
    · rename_i st hst
      exact ite _ h (missedPoll h hst)

@[simp] theorem windowEnds (h : Kept P sc s)  :
    Kept P sc (State.windowEnds s) := by
  unfold State.windowEnds
  split
  · exact finish h
  · exact exchangeOver (missedReply h _)

@[simp] theorem endServing (h : Kept P sc s) (link : Link) (c : StationCfg) :
    Kept P sc (State.endServing s link c) := by
  simp [State.endServing, h]

@[simp] theorem beginServing (h : Kept P sc s) (addr : Nat) :
    Kept P sc (State.beginServing s addr) := by
  simp [State.beginServing, h]

@[simp] theorem tellServing (h : Kept P sc s) (p : Nat × StationRec) : Kept P sc (s.tellServing p) := by
  unfold State.tellServing
  split
  · exact changeStation (endServing h _ _) _ _ fun _ => rfl
  · exact beginServing h _
  · exact h
  · exact ite _ (changeStation h _ _ fun _ => rfl) h

@[simp] theorem syncServing (h : Kept P sc s) : Kept P sc s.syncServing :=
  foldl (fun _ p ht => tellServing ht p) _ h

@[simp] theorem closeAndComplete {k : List Nat} (h : Kept P { known := k } s) (d : Nat) :
    Kept P { known := k } (s.closeAndComplete d) := by
  unfold State.closeAndComplete
  have h1 := closing h d
  split <;> rename_i hr <;> rw [hr] at h1
  · exact h1
  · exact settle (recomputeFor (settle (settleBits (freezeReached (handOver (settleBits h1 _))) _)) _)

@[simp] theorem doorStatus {k : List Nat} (h : Kept P { known := k } s) (d : Nat) (isOpen latch : Bool) :
    Kept P { known := k } (s.doorStatus d isOpen latch) := by
  unfold State.doorStatus
  split
  · exact h
  · exact ite _ (ite _ h (conclude (opening h _))) (ite _ (conclude (closeAndComplete h _))
      (ite _ (conclude (closeAndComplete (conclude (opening h _)) _)) h))

@[simp] theorem raiseDuress (h : Kept P sc s) (d : Nat) (p : Option Nat) :
    Kept P sc (State.raiseDuress s d p) := by
  simp [State.raiseDuress, h]

@[simp] theorem doorRequest (h : Kept P sc s) (d : Nat) (isEntry : Bool) (cred : Nat) (m : Mode) :
    Kept P sc (State.doorRequest s d isEntry cred m) := by
  unfold State.doorRequest
  have h1 := resolve h cred
  cases m
  · dsimp only
    split
    · exact decideEntry h1 _ _ _ _ _
    · exact exitRequest h1 _ _ _
  · dsimp only
    have h2 := settleBits (raiseDuress h1 d (s.resolve cred).2.person?) (maskOf bitDuressOpen)
    split
    · exact decideEntry h2 _ _ _ _ _
    · exact exitRequest h2 _ _ _

@[simp] theorem fobReport (h : Kept P sc s) (k : Kind) (z : Nat) (cred : Nat) :
    Kept P sc (State.fobReport s k z cred) := by
  unfold State.fobReport
  split <;> rename_i hr
  all_goals
    have h1 := fst_of hr (resolve h cred)
    (repeat' (first | split | (dsimp only; split))) <;> first | (with_reducible exact h) | (with_reducible exact h1) | (simp (maxDischargeDepth := 40) (contextual := true) [h1])

@[simp] theorem deliverEvent (h : Kept P sc s) (k : StationKind) (bound : Nat) (e : Event) :
    Kept P sc (State.deliverEvent k bound s e) := by
  unfold State.deliverEvent
  split
  iterate 2
    split
    · exact h
    · exact conclude (doorRequest h _ _ _ _)
  · exact conclude (exitRequest h _ _ _)
  · split
    · exact h
    · exact conclude (checkIn h _ _)
  iterate 2
    split
    · exact h
    · exact conclude (fobReport h _ _ _)
  · exact h

theorem judged (h : Kept P sc s) {addr : Nat} {st : StationRec} (hst : s.station? addr = some st) (n : Nat) :
    Kept P sc (s.judged addr st n) := by
  have h1 := putStation_same h hst (r := { st with link := .answering, missed := 0, lastReport := some n }) rfl
  exact ite _ h1 (endAlarm h1 _ _)

@[simp] theorem deliverStatus (h : Kept P {} s) (st : StationRec) (r : Report) (image : Option Outputs)
    (accepted : Bool) : Kept P {} (s.deliverStatus st r image accepted) := by
  unfold State.deliverStatus
  split
  · rename_i isOpen latch _ _
    dsimp only
    have h1 : Kept P {} (if s.takesReturn st then (s.doorReturn st.cfg.bound isOpen (latch && accepted)).conclude else s) :=
      ite _ (conclude (doorReturn h _ _ _)) h
    generalize (if s.takesReturn st then (s.doorReturn st.cfg.bound isOpen (latch && accepted)).conclude else s) = t at h1 ⊢
    have h3 : Kept P {} (match image with
      | some o => if strikeIn o = true then t.strikeEcho st.cfg.bound else t
      | none => t) := by
      cases image
      · exact h1
      · exact ite _ (strikeEcho h1 _) h1
    exact ite _ h3 (doorStatus h3 _ _ _)
  · exact conclude (agentReport h _ _ _ _)
  · exact h

theorem deliver (h : Kept P {} s) {addr : Nat} {st : StationRec} (hst : s.station? addr = some st) (r : Report) :
    Kept P {} (s.deliver addr st r) := by
  unfold State.deliver
  have h1 := judged h hst r.number
  have h2 : Kept P {} (match State.echoedImage st r.echo with
      | some _ => (s.judged addr st r.number).changeStation addr (fun q => { q with echo := some r.echo })
      | none => s.judged addr st r.number) := by
    split
    · exact changeStation h1 _ _ fun _ => rfl
    · exact h1
  refine ite _ (ite _ ?_ (deliverStatus h2 _ _ _ _)) h1
  exact foldl (fun t x ht => deliverEvent ht _ _ x) _ (deliverStatus h2 _ _ _ _)

@[simp] theorem reply (h : Kept P {} s) (bytes : List Byte) : Kept P {} (s.reply bytes) := by
  unfold State.reply
  split
  · exact finish h
  · rename_i addr st r hg
    have hst : s.station? addr = some st := by
      unfold State.goodReply at hg
      split at hg
      · cases hg
      split at hg
      · cases hg
      split at hg
      · cases hg
      split at hg
      · cases hg
      rename_i hst _
      obtain ⟨_, _, e⟩ := Option.map_eq_some_iff.1 hg
      cases e
      exact hst
    exact exchangeOver (deliver h hst r)

@[simp] theorem restartLink (h : Kept P sc s) : Kept P sc s.restartLink :=
  mapStations h (f := fun _ st => State.restartedStation st) (fun _ _ hst => hst) rfl

end Sys2Proof.Machine.Kept

/-! ## Record checks under a closed invariant -/

namespace Sys2Proof.Machine

/-! ### A record that has been tested agrees with its check value -/

theorem testedDoor_checkOk (r : DoorRec) : (State.testedDoor r).checkOk = true := by
  unfold State.testedDoor
  split <;> trivial

theorem testedClass_checkOk (r : ClassRec) : (State.testedClass r).checkOk = true := by
  unfold State.testedClass
  split <;> trivial

theorem testedOcc_checkOk (r : OccRec) : (State.testedOcc r).checkOk = true := by
  unfold State.testedOcc
  split <;> trivial

theorem testedAgent_checkOk (r : AgentRec) : (State.testedAgent r).checkOk = true := by
  unfold State.testedAgent
  split <;> trivial

theorem testedLogic_checkOk (r : LogicRec) : (State.testedLogic r).checkOk = true := by
  unfold State.testedLogic
  split <;> trivial

theorem testedStation_checkOk (r : StationRec) : (State.testedStation r).checkOk = true := by
  unfold State.testedStation
  split <;> trivial

/-- An element of a vector whose elements have all been edited. -/
theorem mapVec_getD {α : Type} {n k : Nat} (hk : k < n) (f : α → α) (v : Vector α n) (x : α) :
    ((mapVec f v)[k]?).getD x = f v[k] := by
  simp [hk]

namespace Kept


variable {P : Scope → State → Prop} {sc : Scope} {s : State}

/-! ### Checks.lean -/

@[simp] theorem markAllUnverified (h : Kept P sc s) : Kept P sc s.markAllUnverified :=
  foldl (fun _ z ht => markUnverified ht z) _ h

@[simp] theorem raiseClockUnset (h : Kept P sc s) : Kept P sc s.raiseClockUnset := raise h _ _ _ _

@[simp] theorem tellTable (h : Kept P sc s) (t : Tbl) (ks : List Nat) : Kept P sc (s.tellTable t ks) :=
  foldl (fun _ _ hu => raiseSuspect hu _ _) _ h

@[simp] theorem tellOcc (h : Kept P sc s) (p : Nat × OccRec) : Kept P sc (s.tellOcc p) :=
  ite _ (markUnverified (raiseSuspect h _ _) _) (markAllUnverified (raiseSuspect h _ _))

/-- The owners are told of what failed. -/
theorem tellFailed (h : Kept P sc s) (before : State) : Kept P sc (s.tellFailed before) := by
  unfold State.tellFailed
  dsimp only
  have h3 := tellTable (tellTable (tellTable h .zone ((before.occ.zones.filter (fun p => !p.2.checkOk)).map (·.1)))
    .door ((before.door.doors.filter (fun p => !p.2.checkOk)).map (·.1))) .cls
    (State.eight.filter (fun k => !(before.classRec k).checkOk))
  have h7 := tellTable (tellTable (tellTable (foldl (fun _ p hu => tellOcc hu p) before.failedOccs h3) .agent
    (State.eight.filter (fun k => !(before.agent k).checkOk))) .logic
    (State.eight.filter (fun k => !(before.logicRec k).checkOk))) .route
    ((List.range 32).filter (fun k => !(before.alm.routeRec k).checkOk))
  have h9 := syncServing (tellTable (ite (before.alm.limitOk = true) h7 (raiseSuspect h7 .route 32)) .station
    ((before.link.stations.filter (fun p => !p.2.checkOk)).map (·.1)))
  exact ite _ h9 (evaluateAllHours (raiseClockUnset h9))

@[simp] theorem markZone (h : Kept P sc s) (k : Nat) : Kept P sc (s.markZone k) :=
  changeZone h k (f := fun r => if r.checkOk then r else { r with
    suspect := true, checkOk := true, orphan := State.orphaned s.occ.zones k r.cfg.parent })
    (fun r => by split <;> rfl) (fun r hr => by rw [if_pos hr]; exact hr)

@[simp] theorem markZones (h : Kept P sc s) : Kept P sc s.markZones := foldl (fun _ k ht => markZone ht k) _ h

theorem testedDoor_plain (r : DoorRec) : Plain r (State.testedDoor r) := by
  unfold State.testedDoor
  split
  · exact .refl r
  · rename_i hr
    exact ⟨rfl, fun h => absurd h hr, List.Subset.refl _, .inr rfl⟩

theorem testedDoor_yields (r : DoorRec) : Yields r (State.testedDoor r) := by
  unfold State.testedDoor
  split <;> exact .of_same rfl rfl rfl

theorem testedOcc_sound (r : OccRec) (h : (State.testedOcc r).sound = true) :
    r.sound = true ∧ (State.testedOcc r).person = r.person := by
  unfold State.testedOcc at h ⊢
  split at h
  · rename_i hr
    exact ⟨h, by rw [if_pos hr]⟩
  · simp [OccRec.sound] at h

/-- Every item that fails takes its mark. -/
@[simp] theorem markFailed (h : Kept P sc s) : Kept P sc s.markFailed := by
  unfold State.markFailed
  dsimp only
  have h1 := markZones (setAlm h (.testedAlarms s.alm s.now))
  generalize (s.setAlm (State.testedAlarms s.alm s.now)).markZones = s1 at h1 ⊢
  have h2 : Kept P sc (s1.setDoor { doors := s1.door.doors.map (fun p => (p.1, State.testedDoor p.2)),
                                    classes := mapVec State.testedClass s1.door.classes }) := by
    refine (mapDoors h1 testedDoor_plain testedDoor_yields).map_holds fun K hP =>
      K.classes (mapVec State.testedClass s1.door.classes) (fun _ k hk => ?_) hP
    rw [mapVec_getD hk]
    exact testedClass_checkOk _
  generalize (s1.setDoor { doors := s1.door.doors.map (fun p => (p.1, State.testedDoor p.2)),
                           classes := mapVec State.testedClass s1.door.classes }) = s2 at h2 ⊢
  have h3 := mapOcc h2 (f := fun _ r => State.testedOcc r) (fun _ r hr => testedOcc_sound r hr)
    (fun _ r hr => by unfold State.testedOcc; rw [if_pos hr]; exact hr) rfl
  generalize s2.setOcc { s2.occ with recs := s2.occ.recs.map (fun p => (p.1, State.testedOcc p.2)) } = s3 at h3 ⊢
  have h4 := setRel h3 (u := { agents := mapVec State.testedAgent s3.rel.agents,
                               logic := mapVec State.testedLogic s3.rel.logic }) fun _ => by
    constructor <;> intro k hk <;> rw [mapVec_getD hk]
    · exact testedAgent_checkOk _
    · exact testedLogic_checkOk _
  generalize s3.setRel { agents := mapVec State.testedAgent s3.rel.agents,
                         logic := mapVec State.testedLogic s3.rel.logic } = s4 at h4 ⊢
  have h5 := mapStations h4 (f := fun _ st => State.testedStation st) (fun _ st _ => testedStation_checkOk st) rfl
    (u := { s4.link with stations := s4.link.stations.map (fun p => (p.1, State.testedStation p.2)) })
  generalize s4.setLink { s4.link with stations := s4.link.stations.map (fun p => (p.1, State.testedStation p.2)) } = s5
    at h5 ⊢
  exact setRet h5 (u := { s5.ret with calendar := if s5.ret.calendarOk then s5.ret.calendar else none,
                                      calendarOk := true }) (fun _ => rfl) id

@[simp] theorem readTables (h : Kept P sc s) : Kept P sc s.readTables :=
  ite _ h (finish (recomputeFor (conclude (syncEntries (tellFailed (markFailed h) s))) _))

@[simp] theorem readAlarms (h : Kept P sc s) : Kept P sc s.readAlarms := setAlm h (.testedRecords _ _)

@[simp] theorem readForRaise (h : Kept P sc s) : Kept P sc s.readForRaise := by
  have h1 : Kept P sc (s.setAlm (State.readRoute (State.testedLimit s.readAlarms.alm) .recordSuspect)) :=
    setAlm h (((AlmTame.testedRecords _ _).trans (.testedLimit _)).trans (.readRoute _ _))
  have h2 := ite (s.alm.limitOk = true) h1 (raiseSuspect h1 .route 32)
  exact ite _ h2 (raiseSuspect h2 _ _)

@[simp] theorem readZones (h : Kept P sc s) : Kept P sc s.readZones := tellTable (markZones h) _ _

@[simp] theorem itemFailed (h : Kept P sc s) (i : Nat × Nat) : Kept P sc (s.itemFailed i) := by
  have h1 := readForRaise h
  unfold State.itemFailed
  split
  · exact testPerson h1 _
  · exact testGrant h1 _
  · exact readZones h1
  · exact raiseSuspect (changeDoor h1 _ testedDoor_plain testedDoor_yields) _ _
  · exact raiseSuspect (putClass h1 _ fun _ => testedClass_checkOk _) _ _
  · exact raiseSuspect (putAgent h1 _ fun _ => testedAgent_checkOk _) _ _
  · exact raiseSuspect (putLogic h1 _ fun _ => testedLogic_checkOk _) _ _
  · exact raiseSuspect (readForRaise (setAlm h (.routeFailed _ _))) _ _
  · exact readAlarms h
  · exact readAlarms h
  · exact readAlarms h
  · exact readTables h

@[simp] theorem visitEnds (h : Kept P sc s) : Kept P sc s.visitEnds := ite _ (finish (syncEntries (syncServing h))) h

@[simp] theorem sweepStep (h : Kept P sc s) : Kept P sc s.sweepStep := by
  unfold State.sweepStep
  split
  · exact h
  · rename_i i _
    have h1 := setRet h (u := { s.ret with sweep := (i.1, i.2 + 1) }) id id
    exact ite _ (visitEnds (itemFailed h1 _)) h1

@[simp] theorem fullCheck (h : Kept P sc s) : Kept P sc s.fullCheck :=
  tellFailed (foldl (fun _ k ht => testGrant ht k) _ (testPersons (markFailed h) _)) s

end Kept
end Sys2Proof.Machine

/-! ## Record requests on persons, grants, zones, doors and occupancy records under a closed invariant -/

namespace Sys2Proof.Machine.Kept

variable {P : Scope → State → Prop} {sc : Scope} {s : State}

/-! ### PersonTable.lean -/

@[simp] theorem storePerson (h : Kept P sc s) (k : Nat) (c : PersonCfg) (wasSuspect : Bool) :
    Kept P sc (s.storePerson k c wasSuspect) := by
  have h1 := putPerson h k (r := { cfg := c }) rfl
  exact ite _ (endSuspect h1 _ _) h1

@[simp] theorem readRivals (h : Kept P sc s) (k cred : Nat) : Kept P sc (s.readRivals k cred) :=
  testPersons h _

@[simp] theorem lookupCredential (h : Kept P sc s) (cred : Nat) :
    Kept P sc (State.lookupCredential s cred).1 := by
  unfold State.lookupCredential
  split <;> rename_i hr <;> have h1 := fst_of hr (resolve h _)
  · exact h1
  · exact h1
  · split <;> exact h1

@[simp] theorem lookupPerson (h : Kept P sc s) (r : Req) :
    Kept P sc (State.lookupPerson s r).1 := by
  unfold State.lookupPerson
  (repeat' split) <;> simp [h]

@[simp] theorem listPerson (h : Kept P sc s) (r : Req) :
    Kept P sc (State.listPerson s r).1 := by
  unfold State.listPerson
  (repeat' split) <;> simp [h]

@[simp] theorem insertPerson (h : Kept P sc s) (r : Req) :
    Kept P sc (State.insertPerson s r).1 := by
  unfold State.insertPerson
  dsimp only
  (repeat' split) <;> simp (maxDischargeDepth := 40) [h]

@[simp] theorem amendPerson (h : Kept P sc s) (r : Req) :
    Kept P sc (State.amendPerson s r).1 := by
  unfold State.amendPerson
  dsimp only
  (repeat' split) <;> simp (maxDischargeDepth := 40) [h]

/-- The removal of a grant takes no person from the part (R47). -/
theorem heldInPart_dropGrant (s : State) (n p : Nat) : (s.dropGrant n).heldInPart p = s.heldInPart p := by
  have hmark : ∀ x : Passage, (State.markPassage n x).person = x.person := by
    intro x
    unfold State.markPassage
    split <;> rfl
  unfold State.heldInPart
  congr 1
  show ((s.door.doors.map (fun q => (q.1, State.markDoor n q.2))).any _) = _
  rw [List.any_map]
  refine congrArg (fun f => s.door.doors.any f) (funext fun q => ?_)
  simp only [Function.comp_apply, State.markDoor]
  congr 1
  · cases q.2.cycle with
    | none => rfl
    | some c => simp [List.any_map, Function.comp_def, hmark]
  · cases q.2.pairWait with
    | none => rfl
    | some w =>
      simp only [Option.map_some]
      split <;> rfl

theorem heldInPart_dropGrants (l : List Nat) (s : State) (p : Nat) :
    (l.foldl (fun s n => s.dropGrant n) s).heldInPart p = s.heldInPart p := by
  induction l generalizing s with
  | nil => rfl
  | cons n l ih => rw [List.foldl_cons, ih, heldInPart_dropGrant]

theorem dropPerson (h : Kept P {} s) {k : Nat} (hk : s.heldInPart k = false) : Kept P {} (s.dropPerson k) := by
  have h1 := foldl (fun _ n ht => dropGrant ht n) (s.grantList k) h
  exact withdraw (withdraw (h1.map_holds fun K => K.dropPerson k ((heldInPart_dropGrants _ s k).trans hk)) _) _

@[simp] theorem retirePerson (h : Kept P {} s) (r : Req) : Kept P {} (s.retirePerson r).1 := by
  unfold State.retirePerson
  split
  · exact h
  · refine iteFst _ h ?_
    split
    · exact h
    · rename_i hk
      exact dropPerson h (by simpa using hk)

@[simp] theorem storeGrant (h : Kept P sc s) (k : Nat) (c : GrantCfg) (wasSuspect : Bool) :
    Kept P sc (s.storeGrant k c wasSuspect) := by
  have h1 := putGrant h k (r := { cfg := c }) (.inl rfl)
  exact ite _ (endSuspect h1 _ _) h1

@[simp] theorem lookupGrant (h : Kept P sc s) (r : Req) :
    Kept P sc (State.lookupGrant s r).1 := by
  unfold State.lookupGrant
  split <;> simp [h]

@[simp] theorem nextGrant (h : Kept P sc s) (t : Table GrantRec) (c : Option Nat) :
    Kept P sc (State.nextGrant s t c).1 := by
  unfold State.nextGrant
  split <;> simp [h]

@[simp] theorem listGrant (h : Kept P sc s) (r : Req) :
    Kept P sc (State.listGrant s r).1 := by
  unfold State.listGrant
  (repeat' split) <;> simp [h]

@[simp] theorem insertGrant (h : Kept P sc s) (r : Req) :
    Kept P sc (State.insertGrant s r).1 := by
  unfold State.insertGrant
  dsimp only
  (repeat' split) <;> simp (maxDischargeDepth := 40) [h]

@[simp] theorem amendGrant (h : Kept P sc s) (r : Req) :
    Kept P sc (State.amendGrant s r).1 := by
  unfold State.amendGrant
  dsimp only
  (repeat' split) <;> simp (maxDischargeDepth := 40) [h]

@[simp] theorem retireGrant (h : Kept P sc s) (r : Req) :
    Kept P sc (State.retireGrant s r).1 := by
  unfold State.retireGrant
  (repeat' split) <;> simp [h]

/-! ### ZoneTable.lean -/

@[simp] theorem lookupZone (h : Kept P sc s) (r : Req) :
    Kept P sc (State.lookupZone s r).1 := by
  unfold State.lookupZone
  split <;> simp [h]

@[simp] theorem listZone (h : Kept P sc s) (r : Req) :
    Kept P sc (State.listZone s r).1 := by
  unfold State.listZone
  (repeat' split) <;> simp [h]

theorem storeZone (h : Kept P sc s) {k : Nat} {old : ZoneRec} (hk : s.zone? k = some old) (c : ZoneCfg) (fs : List Field) :
    Kept P sc (s.storeZone k old c fs) := by
  have h1 := putZone_same h hk (r := { old with cfg := c, suspect := false, orphan := false, checkOk := true }) (.inl rfl) rfl
  have h2 := ite (old.suspect = true) (endSuspect h1 .zone k) h1
  exact ite _ (evaluateHours h2 _) h2

theorem makeZone (h : Kept P sc s) {k : Nat} (hk : s.zone? k = none) (c : ZoneCfg) (clamped : Bool) :
    Kept P sc (s.makeZone k c clamped).1 := by
  refine iteFst _ h (iteFst _ h (iteFst _ h (iteFst _ h (raise (putZone h k (r := s.freshZone c) (.inl rfl) fun _ => .inl ?_) _ _ _ _))))
  unfold State.zoneHeld
  rw [hk]

@[simp] theorem insertZone (h : Kept P sc s) (r : Req) :
    Kept P sc (State.insertZone s r).1 := by
  unfold State.insertZone
  split
  · exact h
  · dsimp only
    refine iteFst _ h ?_
    split
    · exact h
    · refine iteFst _ h ?_
      split
      · rename_i hz
        exact makeZone h hz _ _
      · rename_i hz
        split
        · exact h
        · exact storeZone h hz _ _

@[simp] theorem amendZone (h : Kept P sc s) (r : Req) :
    Kept P sc (State.amendZone s r).1 := by
  unfold State.amendZone
  split
  · exact h
  · split
    · exact h
    · rename_i hz
      refine iteFst _ h ?_
      split
      · exact h
      · split
        · exact h
        · exact storeZone h hz _ _

/-- A HELD zone is removed. -/
theorem dropZone (h : Kept P sc s) {k : Nat} {q : ZoneRec} (hk : s.zone? k = some q) (hq : q.freeze = .held) :
    Kept P sc (s.dropZone k q) := by
  have hheld : heldIn s.occ.zones k = true := by
    unfold heldIn
    rw [show s.occ.zones.find k = some q from hk]
    simp [hq]
  have h1 := withdraw (setZones h (t := s.occ.zones.del k) ⟨fun z hz => .inl ?_, fun ha z r hr =>
    ha z r (List.mem_filter.1 hr).1⟩) (.zone k)
  · exact ite _ (endSuspect h1 _ _) h1
  · unfold heldIn at hz
    rw [Table.find_del] at hz
    by_cases hzk : z = k
    · rw [hzk]
      exact hheld
    · rw [if_neg hzk] at hz
      exact hz

@[simp] theorem retireZone (h : Kept P sc s) (r : Req) : Kept P sc (s.retireZone r).1 := by
  unfold State.retireZone
  split
  · exact h
  · split
    · exact h
    · rename_i q hq
      refine iteFst _ h (iteFst _ h ?_)
      split
      · exact h
      · rename_i hf
        exact dropZone h hq (by simpa using hf)

/-! ### DoorTable.lean -/

theorem storeDoor (h : Kept P sc s) {d : Nat} {old : DoorRec} (hd : s.door? d = some old) {c : DoorCfg}
    (hc : s.doorRefusal d old c = none) : Kept P sc (s.storeDoor d old c) := by
  have h1 := h.map_holds fun K => K.editDoor c hd hc
  exact syncServing (ite _ (endSuspect h1 _ _) h1)

@[simp] theorem lookupDoor (h : Kept P sc s) (r : Req) :
    Kept P sc (State.lookupDoor s r).1 := by
  unfold State.lookupDoor
  split <;> simp [h]

@[simp] theorem listDoor (h : Kept P sc s) (r : Req) :
    Kept P sc (State.listDoor s r).1 := by
  unfold State.listDoor
  (repeat' split) <;> simp [h]

theorem makeDoor (h : Kept P sc s) {k : Nat} (hk : s.door? k = none) (c : DoorCfg) : Kept P sc (s.makeDoor k c).1 := by
  unfold State.makeDoor
  split
  · exact h
  · split
    · exact h
    · rename_i hheld
      split
      · exact h
      · rename_i hp
        refine syncServing (h.map_holds fun K => K.placeDoor k c hk (by simpa using hheld) fun p hcp => ?_)
        rw [hcp] at hp
        exact hp

@[simp] theorem insertDoor (h : Kept P sc s) (r : Req) : Kept P sc (s.insertDoor r).1 := by
  unfold State.insertDoor
  split
  · exact h
  · dsimp only
    refine iteFst _ h ?_
    split
    · exact h
    · refine iteFst _ h ?_
      split
      · rename_i hd
        exact makeDoor h hd _
      · rename_i q hd
        split
        · exact h
        · rename_i hc
          exact storeDoor h hd hc

@[simp] theorem amendDoor (h : Kept P sc s) (r : Req) : Kept P sc (s.amendDoor r).1 := by
  unfold State.amendDoor
  split
  · exact h
  · split
    · exact h
    · rename_i q hd
      refine iteFst _ h ?_
      split
      · exact h
      · split
        · exact h
        · rename_i hc
          exact storeDoor h hd hc

theorem dropDoor (h : Kept P sc s) {k : Nat} {q : DoorRec} (hd : s.door? k = some q) (hp : q.cfg.partner = none)
    (hi : State.idleDoor q = true) : Kept P sc (s.dropDoor k q) := by
  have h1 := h.map_holds fun K => K.dropDoor hd hp hi
  have h2 := withdraw (setWaits h1 (s.adm.waits.filter (fun e => e.door != k))) (.door k)
  exact ite _ (endSuspect h2 _ _) h2

@[simp] theorem retireDoor (h : Kept P sc s) (r : Req) : Kept P sc (s.retireDoor r).1 := by
  unfold State.retireDoor
  split
  · exact h
  · split
    · exact h
    · rename_i q hd
      split
      · exact h
      · rename_i hp
        split
        · exact h
        · rename_i hi
          exact dropDoor h hd (by simp at hp; exact hp.1.1) (by simpa using hi)

@[simp] theorem lookupClass (h : Kept P sc s) (r : Req) :
    Kept P sc (State.lookupClass s r).1 := by
  unfold State.lookupClass
  split <;> simp [h]

@[simp] theorem listClass (h : Kept P sc s) (r : Req) :
    Kept P sc (State.listClass s r).1 := by
  unfold State.listClass
  (repeat' split) <;> simp [h]

@[simp] theorem amendClass (h : Kept P sc s) (r : Req) : Kept P sc (s.amendClass r).1 := by
  unfold State.amendClass
  split
  · exact h
  · rename_i k _
    dsimp only
    refine iteFst _ h ?_
    split
    · exact h
    · rename_i c _ _
      have h1 := putClass h k (r := { cfg := c }) fun _ => rfl
      exact ite _ (endSuspect h1 _ _) h1

/-! ### OccTable.lean -/

@[simp] theorem lookupOcc (h : Kept P sc s) (r : Req) :
    Kept P sc (State.lookupOcc s r).1 := by
  unfold State.lookupOcc
  (repeat' split) <;> simp [h]

@[simp] theorem listOcc (h : Kept P sc s) (r : Req) :
    Kept P sc (State.listOcc s r).1 := by
  unfold State.listOcc
  (repeat' split) <;> simp [h]

@[simp] theorem pairEvaluateSince (h : Kept P sc s) (before : State) : Kept P sc (s.pairEvaluateSince before) :=
  foldl (fun _ z ht => pairEvaluate ht z _) _ h

theorem storeOcc (h : Kept P sc s) (slot : Nat) (rewrite : Bool) {r : OccRec} (hp : r.person ∈ sc.known)
    (hc : r.checkOk = true) : Kept P sc (s.storeOcc slot rewrite r) := by
  have h1 := putOcc_known h slot hp hc
  exact pairEvaluateSince (ite _ (endSuspect h1 _ _) h1) _

/-- What a supervisor's change of the records ends with: the agents settle and the deadlines are recomputed. -/
theorem settleFor {α : Type} (h : Kept P sc s) (zs : List Nat) (x : α) :
    Kept P sc ((s.settle).recomputeFor zs, x).1 := by
  have h1 := settle h
  generalize s.settle = t at *
  exact recomputeFor h1 zs

@[simp] theorem insertOcc (h : Kept P sc s) (r : Req) : Kept P sc (s.insertOcc r).1 := by
  unfold State.insertOcc
  split
  · rename_i p z dwell _ _
    split
    · exact h
    · rename_i hp
      have hk : Kept P (sc.knowing p) s := knowing h (by simpa [Option.ne_none_iff_isSome] using hp)
      split
      · exact h
      · refine iteFst _ h (iteFst _ h ?_)
        split
        · exact h
        · exact unknowing (settleFor (storeOcc hk _ _ (r := s.hostRecord p z dwell) List.mem_cons_self rfl) _ _)
  · exact h

theorem extendDwell (h : Kept P sc s) {k : Nat} {q : OccRec} (hq : s.occ? k = some q) (t : Nat) :
    Kept P sc (s.extendDwell k q t) :=
  endAlarm (putOcc_same h hq (w := { q with dwell := some t, overdue := false }) rfl rfl rfl) _ _

@[simp] theorem amendDwell (h : Kept P sc s) (k : Nat) (q : OccRec) (v : List Byte) (hq : s.occ? k = some q) :
    Kept P sc (State.amendDwell s k q v).1 := by
  unfold State.amendDwell
  (repeat' split) <;> first | (with_reducible exact h) | exact extendDwell h hq _

@[simp] theorem amendOcc (h : Kept P sc s) (r : Req) :
    Kept P sc (State.amendOcc s r).1 := by
  unfold State.amendOcc
  split
  · exact h
  · refine iteFst _ h ?_
    split
    · refine iteFst _ ?_ h
      split
      · exact h
      · rename_i q hq
        exact amendDwell h _ _ _ hq
    · exact h

@[simp] theorem retireOcc (h : Kept P sc s) (r : Req) :
    Kept P sc (State.retireOcc s r).1 := by
  unfold State.retireOcc
  split
  · exact h
  · split
    · exact h
    · rename_i k _ _ q _
      refine iteFst _ h ?_
      have h1 := pairEvaluateSince (retireRecord h k q) s
      exact settleFor h1 _ _

/-- A sweep's fold over persons who are known. -/
theorem sweepFold (z : Nat) (ps : List Nat) (h : Kept P sc s) (hp : ps ⊆ sc.known) :
    Kept P sc (ps.foldl (State.sweepOne z) s) := by
  induction ps generalizing s with
  | nil => exact h
  | cons p ps ih =>
    refine ih ?_ (List.subset_of_cons_subset hp)
    unfold State.sweepOne
    split
    · exact h
    · exact putOcc_known h _ (hp List.mem_cons_self) rfl

@[simp] theorem verify (h : Kept P sc s) (z : Nat) : Kept P sc (s.verify z) :=
  endAlarm (changeZone h z (f := fun r => { r with verified := true }) (fun _ => rfl) (fun _ => id)) _ _

theorem sweepZone (h : Kept P sc s) (z : Nat) {ps : List Nat} (hp : ps ⊆ sc.known) : Kept P sc (s.sweepZone z ps) := by
  refine pairEvaluate (verify (sweepFold z _ (foldl (fun _ _ ht => retireRecord ht _ _) _ h) ?_) z) _ _
  exact List.Subset.trans (List.filter_subset_self _) hp

/-- Persons with records become known. -/
theorem knowAll {b : Option Nat} {k : List Nat} (h : Kept P { but := b, known := k } s) (l : List Nat)
    (hl : ∀ p ∈ l, (s.person? p).isSome = true) : Kept P { but := b, known := l ++ k } s := by
  induction l with
  | nil => exact h
  | cons p l ih => exact knowing (ih fun q hq => hl q (List.mem_cons_of_mem _ hq)) (hl p List.mem_cons_self)

theorem sweepTests (h : Kept P sc s) (z : Nat) (ps : List Nat) : Kept P sc (s.sweepTests z ps).1 := by
  unfold State.sweepTests
  split
  · exact h
  · rename_i hp
    have hk := knowAll h ps fun p hm => by
      simpa [Option.ne_none_iff_isSome] using List.find?_eq_none.1 hp p hm
    split
    · exact h
    · refine iteFst _ h (unknowingAll ps ?_)
      have hz := settle (sweepZone hk z (List.subset_append_left _ _))
      dsimp only
      split
      · exact hz
      · exact recompute hz _

@[simp] theorem sweepClear (h : Kept P sc s) (r : Req) : Kept P sc (s.sweepClear r).1 := by
  unfold State.sweepClear
  split
  · split
    · exact h
    · refine iteFst _ ?_ h
      split
      · exact h
      · exact iteFst _ h (iteFst _ h (sweepTests h _ _))
  · exact h

end Sys2Proof.Machine.Kept

/-! ## Record requests on agents, alarms and stations, and the operational requests, under a closed invariant -/

namespace Sys2Proof.Machine.Kept

variable {P : Scope → State → Prop} {sc : Scope} {s : State}

/-! ### AgentTable.lean -/

@[simp] theorem unconfigure (h : Kept P sc s) (a : Nat) : Kept P sc (s.unconfigure a) :=
  withdraw (changeAgent h a _ rfl) _

@[simp] theorem configure (h : Kept P sc s) (a : Nat) : Kept P sc (s.configure a) :=
  reevaluate (actOutputs (evaluate (readInputs (changeAgent h a _ rfl) a) a) a _ _) a

@[simp] theorem topChanged (h : Kept P sc s) (a : Nat) :
    Kept P sc (State.topChanged s a) := by
  simp (maxDischargeDepth := 40) [State.topChanged, h]

@[simp] theorem storeAgent (h : Kept P sc s) (a : Nat) (c : AgentCfg) : Kept P sc (s.storeAgent a c) := by
  have h1 := putAgent h a (r := { s.agent a with
    cfg := c, suspect := false, checkOk := true, halted := (s.agent a).halted || (s.agent a).suspect }) fun _ => rfl
  exact syncServing (topChanged (ite _ (endSuspect h1 _ _) h1) a)

@[simp] theorem lookupAgent (h : Kept P sc s) (r : Req) :
    Kept P sc (State.lookupAgent s r).1 := by
  unfold State.lookupAgent
  split <;> simp [h]

@[simp] theorem listAgent (h : Kept P sc s) (r : Req) :
    Kept P sc (State.listAgent s r).1 := by
  unfold State.listAgent
  (repeat' split) <;> simp [h]

@[simp] theorem amendAgent (h : Kept P sc s) (r : Req) :
    Kept P sc (State.amendAgent s r).1 := by
  unfold State.amendAgent
  dsimp only
  (repeat' split) <;> simp (maxDischargeDepth := 40) [h]

@[simp] theorem storeLogic (h : Kept P sc s) (a : Nat) (c : LogicCfg) (wasSuspect : Bool) :
    Kept P sc (s.storeLogic a c wasSuspect) := by
  have h1 := putLogic h a (r := { cfg := c }) fun _ => rfl
  have h2 := ite (wasSuspect = true) (endSuspect h1 .logic a) h1
  exact ite _ (actOutputs (evaluate h2 a) a _ _) h2

@[simp] theorem lookupLogic (h : Kept P sc s) (r : Req) :
    Kept P sc (State.lookupLogic s r).1 := by
  unfold State.lookupLogic
  split <;> simp [h]

@[simp] theorem listLogic (h : Kept P sc s) (r : Req) :
    Kept P sc (State.listLogic s r).1 := by
  unfold State.listLogic
  (repeat' split) <;> simp [h]

@[simp] theorem amendLogic (h : Kept P sc s) (r : Req) :
    Kept P sc (State.amendLogic s r).1 := by
  unfold State.amendLogic
  dsimp only
  (repeat' split) <;> simp (maxDischargeDepth := 40) [h]

/-! ### AlarmTable.lean -/

@[simp] theorem lookupRoute (h : Kept P sc s) (r : Req) :
    Kept P sc (State.lookupRoute s r).1 := by
  unfold State.lookupRoute
  split <;> simp [h]

@[simp] theorem listRoute (h : Kept P sc s) (r : Req) :
    Kept P sc (State.listRoute s r).1 := by
  unfold State.listRoute
  (repeat' split) <;> simp [h]

@[simp] theorem amendLimit (h : Kept P sc s) (r : Req) :
    Kept P sc (State.amendLimit s r).1 := by
  unfold State.amendLimit
  refine iteFst _ h ?_
  split
  · exact h
  · split
    · exact h
    · rename_i n _
      have h1 := setAlm h (u := { s.alm with limit := n, limitSuspect := false, limitOk := true })
        (.of_rest rfl fun ⟨g1, _, g3, g4⟩ => ⟨g1, rfl, g3, g4⟩)
      exact iteFst _ (ite _ (endSuspect h1 _ _) h1) h
  · exact h

@[simp] theorem amendEntry (h : Kept P sc s) (k : Nat) (r : Req) :
    Kept P sc (State.amendEntry s k r).1 := by
  unfold State.amendEntry
  dsimp only
  refine iteFst _ h ?_
  split
  · exact h
  · rename_i c _
    have h1 := setAlm h (.setRoute s.alm k (r := { cfg := c }) rfl)
    exact iteFst _ h (ite _ (endSuspect h1 _ _) h1)

@[simp] theorem amendRoute (h : Kept P sc s) (r : Req) :
    Kept P sc (State.amendRoute s r).1 := by
  unfold State.amendRoute
  (repeat' split) <;> simp [h]

@[simp] theorem lookupAlarm (h : Kept P sc s) (r : Req) :
    Kept P sc (State.lookupAlarm s r).1 := by
  unfold State.lookupAlarm
  split <;> simp [h]

@[simp] theorem listAlarm (h : Kept P sc s) (r : Req) :
    Kept P sc (State.listAlarm s r).1 := by
  unfold State.listAlarm
  (repeat' split) <;> simp [h]

@[simp] theorem nextNotice (h : Kept P sc s) (r : Req) : Kept P sc (s.nextNotice r).1 := by
  unfold State.nextNotice
  refine iteFst _ h ?_
  split
  · exact h
  · rename_i hn
    exact setAlm h (.present (Steady.nextRecord_mem hn))

@[simp] theorem tellDoor (h : Kept P sc s) (r : AlarmRec) :
    Kept P sc (State.tellDoor s r) := by
  unfold State.tellDoor
  split <;> simp [h]

@[simp] theorem acknowledge (h : Kept P sc s) (r : Req) : Kept P sc (s.acknowledge r).1 := by
  unfold State.acknowledge
  split
  · exact h
  · split
    · exact h
    · rename_i hm
      refine iteFst _ h ?_
      exact setAlm (tellDoor h _) (by rw [Steady.tellDoor_alm]; exact .acknowledged hm)

@[simp] theorem restore (h : Kept P sc s) (r : Req) :
    Kept P sc (State.restore s r).1 := by
  unfold State.restore
  split
  · exact h
  · split
    · exact h
    · rename_i hm
      refine iteFst _ h ?_
      exact iteFst _ h (setAlm h (.endRecord (Table.mem_of_find hm)))

@[simp] theorem setMask (h : Kept P sc s) (r : Req) : Kept P sc (s.setMask r).1 := by
  unfold State.setMask
  refine iteFst _ ?_ h
  split
  · exact h
  · exact setAlm h (.of_rest rfl fun ⟨g1, g2, _, g4⟩ => ⟨g1, g2, rfl, g4⟩)

@[simp] theorem restartAlarmUnit (h : Kept P sc s) : Kept P sc s.restartAlarmUnit := setAlm h (.restarted _)

/-! ### StationTable.lean -/

@[simp] theorem lookupStation (h : Kept P sc s) (r : Req) :
    Kept P sc (State.lookupStation s r).1 := by
  unfold State.lookupStation
  split <;> simp [h]

@[simp] theorem listStation (h : Kept P sc s) (r : Req) :
    Kept P sc (State.listStation s r).1 := by
  unfold State.listStation
  (repeat' split) <;> simp [h]

@[simp] theorem rewriteStation (h : Kept P sc s) (k : Nat) (old : StationRec) (c : StationCfg) :
    Kept P sc (s.rewriteStation k old c) := by
  have h1 := putStation (ite (s.serves k old = true) (endServing h old.link old.cfg) h) k (r := State.freshStation c) rfl
  exact syncServing (ite _ (endSuspect h1 _ _) h1)

@[simp] theorem amendTests (h : Kept P sc s) (k : Nat) (old : StationRec) (c : StationCfg) :
    Kept P sc (State.amendTests s k old c).1 := by
  unfold State.amendTests
  (repeat' split) <;> simp [h]

@[simp] theorem insertStation (h : Kept P sc s) (r : Req) : Kept P sc (s.insertStation r).1 := by
  unfold State.insertStation
  split
  · exact h
  · dsimp only
    refine iteFst _ h ?_
    split
    · exact h
    · split
      · exact amendTests h _ _ _
      · split
        · exact h
        · exact syncServing (putStation h _ rfl)

@[simp] theorem amendStation (h : Kept P sc s) (r : Req) :
    Kept P sc (State.amendStation s r).1 := by
  unfold State.amendStation
  (repeat' split) <;> simp [h]

@[simp] theorem voidExchange (h : Kept P sc s) (k : Nat) : Kept P sc (s.voidExchange k) := by
  unfold State.voidExchange
  split
  · exact h
  · exact ite _ (setLanes h rfl) h

@[simp] theorem dropStation (h : Kept P sc s) (k : Nat) (q : StationRec) : Kept P sc (s.dropStation k q) := by
  unfold State.dropStation
  have h1 : Kept P sc (if s.serves k q = true then s.endServing q.link q.cfg else s) := ite _ (endServing h _ _) h
  dsimp only
  generalize (if s.serves k q = true then s.endServing q.link q.cfg else s) = t at h1 ⊢
  have h2 := withdraw (voidExchange (setLink h1 (u := { t.link with
    stations := t.link.stations.del k, safetyLane := t.link.safetyLane.filter (· != k),
    doorLane := t.link.doorLane.filter (· != k) }) fun hl a r hr => hl a r (List.mem_filter.1 hr).1) k) (.station k)
  exact ite _ (endSuspect h2 _ _) h2

@[simp] theorem retireStation (h : Kept P sc s) (r : Req) :
    Kept P sc (State.retireStation s r).1 := by
  unfold State.retireStation
  (repeat' split) <;> simp [h]

/-! ### Operations.lean -/

@[simp] theorem freeze (h : Kept P sc s) (r : Req) : Kept P sc (s.freeze r).1 := by
  unfold State.freeze
  split
  · exact h
  · split
    · exact h
    · rename_i z _ _ q hz
      refine putZone h z (.inr ⟨q, hz, rfl⟩) fun hf => ?_
      change s.frozen z q.freeze = .held at hf
      unfold State.frozen at hf
      cases hq : q.freeze with
      | requested => simp [hq] at hf
      | held => exact .inl (by rw [zoneHeld_of_zone? hz, hq]; rfl)
      | thawed => exact .inr (by simpa [hq] using hf)

@[simp] theorem thawOne (h : Kept P sc s) (e : WaitEntry) : Kept P sc (s.thawOne e) := by
  unfold State.thawOne
  have h1 := setWaits h (s.adm.waits.erase e)
  dsimp only
  split
  · exact conclude (decideEntry h1 _ _ _ _ _)
  · exact conclude (decideEntry (resolve h1 _) _ _ _ _ _)

theorem thawFold (l : List WaitEntry) (n : Nat) (h : Kept P sc s) :
    Kept P sc (l.foldl State.thawNext (s, n)).1 := by
  induction l generalizing s n with
  | nil => exact h
  | cons e l ih =>
    rw [List.foldl_cons, State.thawNext]
    split
    · exact ih _ (thawOne h e)
    · exact ih _ h

@[simp] theorem thaw (h : Kept P sc s) (r : Req) : Kept P sc (s.thaw r).1 := by
  unfold State.thaw
  split
  · exact h
  · split
    · exact h
    · rename_i z _ _ q hz
      exact thawFold _ 0 (putZone h z (r := { q with freeze := .thawed }) (.inr ⟨q, hz, rfl⟩) fun hf => by simp at hf)

@[simp] theorem hoursOverride (h : Kept P sc s) (r : Req) : Kept P sc (s.hoursOverride r).1 := by
  unfold State.hoursOverride
  refine iteFst _ ?_ h
  split
  · split
    · exact h
    · rename_i z o _ _ _ q hz
      refine iteFst _ h ?_
      exact evaluateHours (putZone_same h hz (r := { q with cfg := { q.cfg with override := o } }) (.inr rfl) rfl) _
  · exact h

@[simp] theorem remoteRelease (h : Kept P sc s) (r : Req) : Kept P sc (s.remoteRelease r).1 := by
  unfold State.remoteRelease
  split
  · exact h
  · split
    · exact h
    · rename_i d _ q hd
      refine iteFst _ h ?_
      split
      · exact h
      · rename_i hs
        have ht : thawedAt s q := by
          simp only [Bool.or_eq_true, decide_eq_true_eq, Bool.not_eq_true', not_or] at hs
          obtain ⟨_, hs⟩ := hs
          unfold State.releasable at hs
          unfold thawedAt
          cases hz : s.zone? q.cfg.inner with
          | none => simp [hz] at hs
          | some z => exact ⟨z, rfl, by simp [hz] at hs; exact hs.2⟩
        have h1 := releaseEntries h hd ht (xs := [s.remotePassage]) fun x hx p hp => by
          simp at hx
          subst hx
          cases hp
        split <;> rename_i hr
        · exact decided (fst_of hr h1) _ _
        · exact h
        · exact h

@[simp] theorem lockout (h : Kept P sc s) (b : Bool) (r : Req) : Kept P sc (State.lockout b s r).1 := by
  unfold State.lockout
  split
  · exact h
  · split
    · exact h
    · rename_i q hd
      exact iteFst _ h (putDoor_minor h hd (q := { q with lockout := b }) ⟨rfl, rfl, rfl, rfl, rfl, rfl⟩)

@[simp] theorem isolate (h : Kept P sc s) (r : Req) : Kept P sc (s.isolate r).1 := by
  unfold State.isolate
  split
  · exact h
  · rename_i a _
    have h1 := settle (raiseAgent (changeAgent h a (fun q => { q with isolated := true }) rfl) a .isolated)
    refine iteFst _ ?_ (iteFst _ ?_ ?_)
    · exact h
    · exact h
    · dsimp only
      exact h1

@[simp] theorem deisolate (h : Kept P sc s) (r : Req) :
    Kept P sc (State.deisolate s r).1 := by
  unfold State.deisolate
  split
  · exact h
  · rename_i a _
    have h1 := reevaluate (settle (endAlarm (changeAgent h a (fun q => { q with isolated := false }) rfl) .isolated (.agent a))) a
    refine iteFst _ ?_ (iteFst _ ?_ ?_)
    · exact h
    · exact h
    · exact h1

@[simp] theorem ventAgent (h : Kept P sc s) (a : Nat) :
    Kept P sc (State.ventAgent s a) := by
  simp (maxDischargeDepth := 40) [State.ventAgent, h]

@[simp] theorem ventClear (h : Kept P sc s) (r : Req) :
    Kept P sc (State.ventClear s r).1 := by
  unfold State.ventClear
  dsimp only
  (repeat' split) <;> simp (maxDischargeDepth := 40) [h]

@[simp] theorem setClock (h : Kept P sc s) (r : Req) : Kept P sc (s.setClock r).1 := by
  unfold State.setClock
  refine iteFst _ ?_ h
  split
  · exact h
  · rename_i c _
    exact evaluateAllHours (endAlarm (setRet h (u := { s.ret with calendar := some c }) id id) _ _)

@[simp] theorem statusRequest (h : Kept P sc s) (r : Req) : Kept P sc (s.statusRequest r).1 := by
  unfold State.statusRequest
  split <;> exact h

@[simp] theorem commission (h : Kept P sc s) (r : Req) : Kept P sc (s.commission r).1 :=
  iteFst _ (setRet h id fun hm => by dsimp only; rw [hm]; rfl) h

@[simp] theorem ackRestart (h : Kept P sc s) (r : Req) : Kept P sc (s.ackRestart r).1 :=
  iteFst _ (setHost h _) h

@[simp] theorem lookupIn (h : Kept P sc s) (t : Tbl) (r : Req) :
    Kept P sc (State.lookupIn t s r).1 := by
  unfold State.lookupIn
  split <;> simp [h]

@[simp] theorem listIn (h : Kept P sc s) (t : Tbl) (r : Req) :
    Kept P sc (State.listIn t s r).1 := by
  unfold State.listIn
  split <;> simp [h]

@[simp] theorem insertIn (h : Kept P sc s) (t : Tbl) (r : Req) :
    Kept P sc (State.insertIn t s r).1 := by
  unfold State.insertIn
  split <;> simp [h]

@[simp] theorem amendIn (h : Kept P sc s) (t : Tbl) (r : Req) :
    Kept P sc (State.amendIn t s r).1 := by
  unfold State.amendIn
  split <;> simp [h]

@[simp] theorem retireIn (h : Kept P {} s) (t : Tbl) (r : Req) : Kept P {} (State.retireIn t s r).1 := by
  unfold State.retireIn
  split <;> simp [h]

end Sys2Proof.Machine.Kept

/-! ## Starts, time, the Host Port and every step under a closed invariant -/

namespace Sys2Proof.Machine

/-- The damage that a command carries. -/
def damageOf : Instr → List Damage
  | .recordCheckSweep ds | .resetLine ds | .mainSupplyDip _ ds | .mainSupplyRestored _ ds => ds
  | _ => []

theorem damageOf_of_undamaging {i : Instr} (h : undamaging i = true) : damageOf i = [] := by
  cases i <;> first | rfl | exact List.isEmpty_iff.1 h

theorem entriesAt_eq (r : DoorRec) : State.entriesAt r = (entrants r).length := by
  unfold State.entriesAt entrants
  cases r.cycle <;> simp

/-- Nothing is in flight into a zone when no door into it holds an ENTRY passage or a pair wait (R75). -/
theorem inFlight_eq_zero {s : State} {z : Nat} : s.inFlight z = 0 ↔
    ∀ d r, (d, r) ∈ s.door.doors → r.cfg.inner = z → entrants r = [] ∧ r.pairWait = none := by
  have hres : s.reservations z = 0 ↔ ∀ d r, (d, r) ∈ s.door.doors → r.cfg.inner = z → entrants r = [] := by
    simp only [State.reservations, List.sum_eq_zero_iff, List.mem_map, List.mem_filter, decide_eq_true_eq]
    refine ⟨fun h d r hr hz => ?_, ?_⟩
    · exact List.eq_nil_of_length_eq_zero ((entriesAt_eq r).symm.trans (h _ ⟨(d, r), ⟨hr, hz⟩, rfl⟩))
    · rintro h n ⟨⟨d, r⟩, ⟨hr, hz⟩, rfl⟩
      rw [entriesAt_eq, h d r hr hz]
      rfl
  have hwait : (s.door.doors.filter (fun p => p.2.cfg.inner = z && p.2.pairWait.isSome)).length = 0 ↔
      ∀ d r, (d, r) ∈ s.door.doors → r.cfg.inner = z → r.pairWait = none := by
    rw [List.length_eq_zero_iff, List.filter_eq_nil_iff]
    refine ⟨fun h d r hr hz => ?_, fun h p hp => ?_⟩
    · simpa [hz] using h (d, r) hr
    · simpa using h p.1 p.2 hp
  rw [State.inFlight, Nat.add_eq_zero_iff, hres, hwait]
  exact ⟨fun ⟨h1, h2⟩ d r hr hz => ⟨h1 d r hr hz, h2 d r hr hz⟩,
    fun h => ⟨fun d r hr hz => (h d r hr hz).1, fun d r hr hz => (h d r hr hz).2⟩⟩

namespace Kept

variable {P : Scope → State → Prop} {sc : Scope} {s : State}

/-! ### Starts.lean -/

theorem restartDoors (h : Kept P sc s) : Kept P sc s.restartDoors :=
  mapDoors h (f := State.restarted) (fun _ => rest_plain rfl rfl rfl (.inl rfl)) fun _ => .of_rest (.inr rfl) rfl rfl

theorem inFlight_restartDoors (s : State) (z : Nat) : s.restartDoors.inFlight z = 0 := by
  refine inFlight_eq_zero.2 fun d r hr _ => ?_
  obtain ⟨q, _, e⟩ := List.mem_map.1 hr
  cases e
  exact ⟨rfl, rfl⟩

/-- The Admission Unit at a warm restart, after the doors (R40, R81). -/
theorem restartAdmission (h : Kept P sc s) (hz : ∀ z, s.inFlight z = 0) : Kept P sc s.restartAdmission :=
  mapZones (setWaits h []) (f := fun _ r => State.restartedZone r) (fun z _ _ => .inr (hz z))
    fun _ r hr => by unfold State.restartedZone; split <;> exact hr

theorem restartClock (h : Kept P sc s) : Kept P sc s.restartClock := by
  have h1 := setRet h (u := { s.ret with base := 0, sweep := (0, 0) }) id id
  unfold State.restartClock
  dsimp only
  split
  · exact raiseClockUnset h1
  · exact h1

/-- A warm restart goes on from its full check (R180). -/
theorem warmRestart_of_fullCheck (h : Kept P sc s.fullCheck) : Kept P sc s.warmRestart :=
  finish (setHost (restartClock (restartRelease (takeAllDeadlines (evaluateAllHours (restartAlarmUnit (restartLink
    (restartAdmission (restartDoors h) (inFlight_restartDoors _)))))))) _)

theorem warmRestart (h : Kept P sc s) : Kept P sc s.warmRestart := warmRestart_of_fullCheck (fullCheck h)

theorem coldStart (hP : Closed P) (cold : P {} State.reset) (s : State) : Kept P {} s.coldStart :=
  setFree (setPending ⟨hP, cold⟩ _) _

theorem start (h : Kept P {} s) (cold : P {} State.reset) : Kept P {} s.start :=
  ite _ (warmRestart h) (coldStart h.closed cold s)

theorem loseLive (h : Kept P sc s) : Kept P sc s.loseLive := by
  have h1 := restartLink (setWaits (restartDoors h) [])
  have h2 : Kept P sc ((s.restartDoors.setAdm { s.adm with waits := [] }).restartLink.setRel
      { (s.restartDoors.setAdm { s.adm with waits := [] }).restartLink.rel with
        agents := mapVec State.retainedAgent s.rel.agents }) := by
    refine setRel h1 fun ⟨ha, hl⟩ => ⟨fun k hk => ?_, hl⟩
    have := ha k hk
    rw [mapVec_getD hk]
    rw [Vector.getElem?_eq_getElem hk] at this
    exact this
  exact setRet h2 id id

theorem applyDamages (h : Kept P {} s) {ds : List Damage} (hd : ∀ d ∈ ds, ∀ u, P {} u → P {} (u.damageOne d)) :
    Kept P {} (s.applyDamages ds) := by
  unfold State.applyDamages
  induction ds generalizing s with
  | nil => exact h
  | cons d ds ih =>
    exact ih ⟨h.closed, hd d List.mem_cons_self s h.holds⟩ fun e he => hd e (List.mem_cons_of_mem _ he)

theorem supplyStart (h : Kept P {} s) (cold : P {} State.reset) (b : Bool) {ds : List Damage}
    (hd : ∀ d ∈ ds, ∀ u, P {} u → P {} (u.damageOne d)) : Kept P {} (s.supplyStart b ds) := by
  unfold State.supplyStart
  split
  · exact start (applyDamages (loseLive h) hd) cold
  · have : s.loseRetention.markerValid = false := rfl
    unfold State.start
    rw [this]
    exact coldStart h.closed cold _

theorem advanceCalendar (h : Kept P sc s) : Kept P sc s.advanceCalendar := by
  have h1 : Kept P sc (s.setRet (State.secondLater s.ret)) := by
    refine setRet h (fun hc => ?_) (fun hm => ?_) <;> unfold State.secondLater <;> dsimp only <;> split
    · exact hc
    · exact hc
    · rfl
    · exact hm
  exact ite _ (evaluateAllHours h1) h1

theorem idle (h : Kept P sc s) : Kept P sc s.idle :=
  refreshLanes (readTables (setRet h (u := { s.ret with base := State.baseLater s.ret.base }) id id))

/-! ### HostPort.lean -/

theorem takeWrite (h : Kept P sc s) {u : State} (hu : s.takeWrite = some u) : Kept P sc u := by
  unfold State.takeWrite at hu
  split at hu <;> cases hu <;> exact setHost h _

theorem followed {x : State × Answer} (h : Kept P sc x.1) : Kept P sc (State.followed x) :=
  ite _ (finish (syncEntries h)) h

theorem serveRead (h : Kept P sc s) {r : Req} {f : State.Owner} (hf : ∀ u, Kept P sc u → Kept P sc (f u r).1) :
    Kept P sc (s.serveRead r f) := by
  unfold State.serveRead
  split
  · exact setHost h _
  · rename_i u hu
    exact ite _ (setHost (takeWrite h hu) _) (setHost (hf _ (readTables (takeWrite h hu))) _)

theorem serveWrite (h : Kept P sc s) {r : Req} {f : State.Owner} (hf : ∀ u, Kept P sc u → Kept P sc (f u r).1) :
    Kept P sc (s.serveWrite r f) := by
  unfold State.serveWrite
  split
  · exact setHost h _
  · rename_i u hu
    exact ite _ (setHost (takeWrite h hu) _) (setHost (followed (hf _ (readTables (takeWrite h hu)))) _)

theorem byTable (h : Kept P sc s) {r : Req} {serve : State → Req → State.Owner → State} {f : Tbl → State.Owner}
    (hf : ∀ t, Kept P sc (serve s r (f t))) : Kept P sc (s.byTable r serve f) := by
  unfold State.byTable
  split
  · exact hf _
  · split
    · exact setHost h _
    · rename_i u hu
      exact setHost (takeWrite h hu) _

theorem refuseFrame (h : Kept P sc s) (frame : List Byte) : Kept P sc (s.refuseFrame frame) := by
  unfold State.refuseFrame
  split
  · exact setHost h _
  · rename_i u hu
    have h1 := takeWrite h hu
    refine setHost ?_ _
    unfold State.countTag
    split
    · exact h1
    · exact setFree h1 _
    · exact setFree h1 _

theorem restartRequest (h : Kept P {} s) (cold : P {} State.reset) (r : Req) : Kept P {} (s.restartRequest r) := by
  unfold State.restartRequest
  split
  · exact setHost h _
  · rename_i u hu
    exact ite _ (start (takeWrite h hu) cold) (setHost (takeWrite h hu) _)

theorem readTransaction (h : Kept P sc s) : Kept P sc s.readTransaction := by
  unfold State.readTransaction
  split <;> exact setHost h _

end Kept

open Kept in
/-- Every command keeps a closed invariant that a cold start meets and the damage that it carries keeps. -/
theorem exec_keeps {P : Scope → State → Prop} (hP : Closed P) (cold : P {} State.reset) (i : Instr) (s : State)
    (hd : ∀ d ∈ damageOf i, ∀ u, P {} u → P {} (u.damageOne d)) (hs : P {} s) :
    ∃ t, exec i s = .next t ∧ Kept P {} t := by
  have h : Kept P {} s := ⟨hP, hs⟩
  have rd := readTables h
  cases i
  case lookup r => exact ⟨_, rfl, byTable h fun t => serveRead h fun _ k => lookupIn k t r⟩
  case list r => exact ⟨_, rfl, byTable h fun t => serveRead h fun _ k => listIn k t r⟩
  case insert r => exact ⟨_, rfl, byTable h fun t => serveWrite h fun _ k => insertIn k t r⟩
  case amend r => exact ⟨_, rfl, byTable h fun t => serveWrite h fun _ k => amendIn k t r⟩
  case retire r => exact ⟨_, rfl, byTable h fun t => serveWrite h fun _ k => retireIn k t r⟩
  case freeze r => exact ⟨_, rfl, serveWrite h fun _ k => Kept.freeze k r⟩
  case thaw r => exact ⟨_, rfl, serveWrite h fun _ k => Kept.thaw k r⟩
  case sweepClear r => exact ⟨_, rfl, serveWrite h fun _ k => Kept.sweepClear k r⟩
  case hoursOverride r => exact ⟨_, rfl, serveWrite h fun _ k => Kept.hoursOverride k r⟩
  case remoteRelease r => exact ⟨_, rfl, serveWrite h fun _ k => Kept.remoteRelease k r⟩
  case lockoutOn r => exact ⟨_, rfl, serveWrite h fun _ k => Kept.lockout k true r⟩
  case lockoutOff r => exact ⟨_, rfl, serveWrite h fun _ k => Kept.lockout k false r⟩
  case isolate r => exact ⟨_, rfl, serveWrite h fun _ k => Kept.isolate k r⟩
  case deisolate r => exact ⟨_, rfl, serveWrite h fun _ k => Kept.deisolate k r⟩
  case ventClear r => exact ⟨_, rfl, serveWrite h fun _ k => Kept.ventClear k r⟩
  case nextNotice r => exact ⟨_, rfl, serveRead h fun _ k => Kept.nextNotice k r⟩
  case acknowledge r => exact ⟨_, rfl, serveWrite h fun _ k => Kept.acknowledge k r⟩
  case restore r => exact ⟨_, rfl, serveWrite h fun _ k => Kept.restore k r⟩
  case setMask r => exact ⟨_, rfl, serveRead h fun _ k => Kept.setMask k r⟩
  case setClock r => exact ⟨_, rfl, serveWrite h fun _ k => Kept.setClock k r⟩
  case status r => exact ⟨_, rfl, serveRead h fun _ k => Kept.statusRequest k r⟩
  case commission r => exact ⟨_, rfl, serveRead h fun _ k => Kept.commission k r⟩
  case ackRestart r => exact ⟨_, rfl, serveRead h fun _ k => Kept.ackRestart k r⟩
  case restart r => exact ⟨_, rfl, restartRequest h cold r⟩
  case unknownRequest frame => exact ⟨_, rfl, refuseFrame h frame⟩
  case hostWriteOverrun => exact ⟨_, rfl, setHost h _⟩
  case hostRead => exact ⟨_, rfl, readTransaction h⟩
  case poll => exact ⟨_, rfl, finish (pollNext (refreshLanes rd))⟩
  case goodReport bytes => exact ⟨_, rfl, reply rd bytes⟩
  case replyWindowExpiry => exact ⟨_, rfl, windowEnds rd⟩
  case leadExpiry d => exact ⟨_, rfl, finish (leadEnds rd d)⟩
  case strikeTimerExpiry d => exact ⟨_, rfl, finish (strikeEnds rd d)⟩
  case heldOpenExpiry d => exact ⟨_, rfl, finish (heldOpenEnds rd d)⟩
  case relockHoldExpiry d => exact ⟨_, rfl, finish (relockEnds rd d)⟩
  case interlockTimeout d => exact ⟨_, rfl, finish (interlockTimesOut rd d)⟩
  case exitDue d => exact ⟨_, rfl, finish (exitFallsDue rd d)⟩
  case indicationReturn d => exact ⟨_, rfl, finish (indicationEnds rd d)⟩
  case pairWindowExpiry d => exact ⟨_, rfl, finish (pairWindowEnds rd d)⟩
  case waitExpired => exact ⟨_, rfl, finish (waitExpires rd)⟩
  case dwellDeadline k => exact ⟨_, rfl, finish (takeDwell rd k)⟩
  case checkinDeadline k => exact ⟨_, rfl, finish (takeCheckin rd k)⟩
  case pairGraceDeadline k => exact ⟨_, rfl, finish (takePairGrace rd k)⟩
  case countdownDeadline a => exact ⟨_, rfl, finish (takeCountdown rd a)⟩
  case confirmationDeadline a => exact ⟨_, rfl, finish (takeConfirmation rd a)⟩
  case calendarAdvance => exact ⟨_, rfl, finish (advanceCalendar rd)⟩
  case recordCheckSweep ds => exact ⟨_, rfl, sweepStep (applyDamages h hd)⟩
  case resetLine ds => exact ⟨_, rfl, start (applyDamages h hd) cold⟩
  case mainSupplyDip b ds => exact ⟨_, rfl, supplyStart h cold b hd⟩
  case mainSupplyRestored b ds => exact ⟨_, rfl, supplyStart h cold b hd⟩

/-- Every step keeps a closed invariant that a cold start meets and the damage of its command keeps. -/
theorem step_keeps {P : Scope → State → Prop} (hP : Closed P) (cold : P {} State.reset) {s t : State}
    (hd : ∀ i ∈ s.pending.head?, ∀ d ∈ damageOf i, ∀ u, P {} u → P {} (u.damageOne d)) (hs : P {} s)
    (h : step s = .next t) : P {} t := by
  unfold step at h
  split at h
  · cases h
    exact (Kept.idle ⟨hP, hs⟩).holds
  · rename_i i rest hq
    obtain ⟨u, hu, hk⟩ := exec_keeps hP cold i _ (hd i (by rw [hq]; rfl)) (hP.pending rest hs)
    rw [h, Host.Outcome.next.injEq] at hu
    exact hu ▸ hk.holds

/-- Where the command carries no damage. -/
theorem step_keeps_of_undamaging {P : Scope → State → Prop} (hP : Closed P) (cold : P {} State.reset) {s t : State}
    (hd : ∀ i ∈ s.pending.head?, undamaging i = true) (hs : P {} s) (h : step s = .next t) : P {} t :=
  step_keeps hP cold (fun i hi _ hm => absurd (damageOf_of_undamaging (hd i hi) ▸ hm) List.not_mem_nil) hs h

end Sys2Proof.Machine

/-! ## Operations on doors that change no other block -/

namespace Sys2Proof.Machine

/-- Nothing but the Door Controller's block differs. -/
def DoorsOnly (s t : State) : Prop := t = s.setDoor t.door

namespace DoorsOnly

variable {s t u : State}

theorem refl (s : State) : DoorsOnly s s := rfl

theorem trans (h : DoorsOnly s t) (k : DoorsOnly t u) : DoorsOnly s u := by
  unfold DoorsOnly at *
  rw [k, h]
  rfl

theorem ite {a b : State} (p : Prop) [Decidable p] (ha : DoorsOnly s a) (hb : DoorsOnly s b) :
    DoorsOnly s (if p then a else b) := by
  split <;> assumption

theorem putDoor (s : State) (d : Nat) (r : DoorRec) : DoorsOnly s (s.putDoor d r) := rfl
theorem changeDoor (s : State) (d : Nat) (f : DoorRec → DoorRec) : DoorsOnly s (s.changeDoor d f) := rfl
theorem takeCycle (s : State) (d : Nat) : DoorsOnly s (s.takeCycle d) := rfl
theorem giveRight (s : State) (d p : Nat) : DoorsOnly s (s.giveRight d p) := rfl

theorem arbitrate (s : State) (d : Nat) : DoorsOnly s (s.arbitrate d) := by
  unfold State.arbitrate
  (repeat' split) <;> rfl

theorem beginCycle (s : State) (d : Nat) (r : DoorRec) (xs : List Passage) : DoorsOnly s (s.beginCycle d r xs) := by
  unfold State.beginCycle
  split
  · rfl
  · exact (putDoor s d _).trans (arbitrate _ d)

theorem releaseRequest (s : State) (d : Nat) (xs : List Passage) : DoorsOnly s (s.releaseRequest d xs).1 := by
  unfold State.releaseRequest
  split
  · rfl
  · split
    · rfl
    · exact beginCycle _ _ _ _
    · split
      · rfl
      · exact beginCycle _ _ _ _
    all_goals
      split
      · rfl
      · exact (putDoor s d _).trans (arbitrate _ d)

theorem reopen (s : State) (d : Nat) (r : DoorRec) : DoorsOnly s (s.reopen d r) := by
  unfold State.reopen
  (repeat' split) <;> rfl

theorem dissolve (s : State) (d : Nat) (o : Option Nat) : DoorsOnly s (s.dissolve d o) := by
  unfold State.dissolve
  (repeat' split) <;> rfl

theorem repair (s : State) (d : Nat) (o n : Option Nat) : DoorsOnly s (s.repair d o n) := by
  unfold State.repair
  refine ite _ (refl s) ((dissolve s d o).trans ?_)
  cases n <;> rfl

theorem alm (h : DoorsOnly s t) : t.alm = s.alm := by rw [h]; rfl
theorem adm (h : DoorsOnly s t) : t.adm = s.adm := by rw [h]; rfl
theorem occ (h : DoorsOnly s t) : t.occ = s.occ := by rw [h]; rfl
theorem rel (h : DoorsOnly s t) : t.rel = s.rel := by rw [h]; rfl
theorem link (h : DoorsOnly s t) : t.link = s.link := by rw [h]; rfl
theorem ret (h : DoorsOnly s t) : t.ret = s.ret := by rw [h]; rfl

end DoorsOnly

/-- The doors of an override (R29); INTERLOCK_BREACH is raised after it. -/
def overriding (s : State) (d : Nat) : State :=
  match s.partnerOf d with
  | none => s.changeDoor d enterReleased
  | some p => (s.changeDoor p State.overridden).changeDoor d (fun r => enterReleased { r with right := true })

theorem overrideRight_eq (s : State) (d : Nat) : s.overrideRight d =
    if (s.partnerOf d).isSome then (overriding s d).raiseBreach d else overriding s d := by
  unfold State.overrideRight overriding
  cases s.partnerOf d <;> rfl

theorem overriding_only (s : State) (d : Nat) : DoorsOnly s (overriding s d) := by
  unfold overriding
  split <;> rfl

theorem raiseBreach_eq (s : State) (d : Nat) : ∃ u, AlmTame s.alm u ∧ s.raiseBreach d = s.setAlm u := by
  unfold State.raiseBreach
  split
  · exact ⟨s.alm, .refl _, rfl⟩
  · exact ⟨_, .raise _ _ _ _ _ _, rfl⟩

/-- An override changes doors, and raises at most INTERLOCK_BREACH (R29). -/
theorem overrideRight_spec (s : State) (d : Nat) :
    ∃ u, AlmTame s.alm u ∧ s.overrideRight d = (overriding s d).setAlm u := by
  obtain ⟨u, hu, e⟩ := raiseBreach_eq (overriding s d) d
  rw [(overriding_only s d).alm] at hu
  rw [overrideRight_eq]
  split
  · exact ⟨u, hu, e⟩
  · exact ⟨s.alm, .refl _, by rw [← (overriding_only s d).alm]; rfl⟩

/-! ## DURESS records have class 0, and every step keeps the part sound -/

theorem duressFirst_of_tame {s t : State} (h : AlmTame s.alm t.alm) (hs : s.DuressFirst) : t.DuressFirst :=
  h.recs .duress hs

theorem duressFirst_of_only {s t : State} (h : DoorsOnly s t) (hs : s.DuressFirst) : t.DuressFirst :=
  duressFirst_of_tame (h.alm ▸ .refl _) hs

/-- That a DURESS record has class 0 is closed under the edits of the operations. -/
theorem closed_duressFirst : Closed (fun _ s => s.DuressFirst) where
  alm := fun _ hu h => duressFirst_of_tame (t := State.setAlm _ _) hu h
  rel := fun _ _ h => h
  link := fun _ _ h => h
  ret := fun _ _ _ h => h
  host := fun _ h => h
  free := fun _ h => h
  pending := fun _ h => h
  adm := fun _ _ h => h
  dropPerson := fun _ _ h => h
  zones := fun _ _ h => h
  recs := fun _ _ h => h
  classes := fun _ _ h => h
  forget := fun _ _ h => h
  know := fun _ _ h => h
  knowEntrant := fun _ _ _ h => h
  knowWaiter := fun _ _ _ h => h
  await := fun _ h => h
  awaited := fun _ _ h => h
  takeCycle := fun _ h => h
  putDoor := fun _ _ _ _ h => h
  changeDoor := fun _ _ _ _ h => h
  mapDoors := fun _ _ _ h => h
  secure := fun _ _ _ _ _ h => h
  arbitrate := fun d h => duressFirst_of_only (.arbitrate _ d) h
  release := fun xs _ _ h => duressFirst_of_only (.releaseRequest _ _ xs) h
  beginWait := fun _ _ _ _ h => h
  reopen := fun _ _ h => duressFirst_of_only (.reopen _ _ _) h
  override := fun {_ s d _} _ _ h => by
    obtain ⟨u, hu, e⟩ := overrideRight_spec s d
    rw [e]
    exact duressFirst_of_tame (t := State.setAlm _ _) hu h
  placeDoor := fun _ _ _ _ _ h => duressFirst_of_only ((DoorsOnly.putDoor _ _ _).trans (.repair _ _ _ _)) h
  editDoor := fun _ _ _ h => duressFirst_of_only ((DoorsOnly.putDoor _ _ _).trans (.repair _ _ _ _)) h
  dropDoor := fun _ _ _ h => h

/-- Damage changes no alarm record's kind and class (log entry 5). -/
theorem damageOne_duressFirst (s : State) (d : Damage) (h : s.DuressFirst) : (s.damageOne d).DuressFirst := by
  have hrecs : (s.damageOne d).alm.recs = s.alm.recs ∨
      ∃ k, (s.damageOne d).alm.recs = s.alm.recs.change k (fun r => { r with checkOk := false }) := by
    unfold State.damageOne
    cases d with
    | alarm k => exact .inr ⟨k, rfl⟩
    | person | grant => left; dsimp only; split <;> rfl
    | _ => exact .inl rfl
  intro n r hr hk
  rcases hrecs with e | ⟨k, e⟩ <;> rw [e] at hr
  · exact h n r hr hk
  · obtain ⟨q, hq, rfl | ⟨_, rfl⟩⟩ := mem_change hr
    · exact h n r hq hk
    · exact h n q hq hk

theorem duressFirst_reset : State.reset.DuressFirst := by
  intro n r hr hk
  cases List.mem_singleton.1 hr
  cases hk

/-- Every step keeps that a DURESS record has class 0. -/
theorem step_duressFirst {s t : State} (hs : s.DuressFirst) (h : step s = .next t) : t.DuressFirst :=
  step_keeps closed_duressFirst duressFirst_reset (fun _ _ d _ u hu => damageOne_duressFirst u d hu) hs h

/-- Settles O6: every step is orderly, and keeps that a DURESS record has class 0. -/
theorem stepKeepsSound : Obligations.StepKeepsSound := by
  intro s t hs h
  obtain ⟨e, ho⟩ := step_orderly h
  have hrising := hs.canonical.rising
  have hrecs := ho.recs ⟨hrising.recs, hs.oneRecord⟩
  have halarms := ho.alarms ⟨hrising.alarms, hs.oneAlarm⟩
  exact ⟨⟨⟨ho.doors hrising.doors, ho.persons hrising.persons, ho.grants hrising.grants, ho.zones hrising.zones,
    hrecs.rising, halarms.rising, ho.stations hrising.stations⟩, ho.clock hs.canonical.clock⟩, hrecs.one, halarms.one,
    step_duressFirst hs.duress h⟩

end Sys2Proof.Machine

/-! ## What the operations on doors leave of passages and pair waits -/

namespace Sys2Proof.Machine

/-- Two doors are a pair when each stores the other as its partner (R16, R41). -/
theorem partnerOf_eq_some {s : State} {d p : Nat} : s.partnerOf d = some p ↔
    ∃ r q, s.door? d = some r ∧ s.door? p = some q ∧ r.cfg.partner = some p ∧ q.cfg.partner = some d ∧ p ≠ d := by
  constructor
  · intro h
    unfold State.partnerOf at h
    split at h
    · cases h
    rename_i r hr
    split at h
    · cases h
    rename_i n hn
    split at h
    · cases h
    rename_i q hq
    split at h
    · rename_i hb
      cases h
      simp only [Bool.and_eq_true, decide_eq_true_eq, bne_iff_ne] at hb
      exact ⟨r, q, hr, hq, hn, hb⟩
    · cases h
  · rintro ⟨r, q, hr, hq, hp, hb, hne⟩
    simp [State.partnerOf, hr, hp, hq, hb, hne]

/-- A door that keeps its inner zone, and has no new ENTRY passage and no new pair wait. -/
structure Kin (r q : DoorRec) : Prop where
  inner    : q.cfg.inner = r.cfg.inner
  checkOk  : r.checkOk = true → q.checkOk = true
  entrants : entrants q ⊆ entrants r
  waiter   : waiter q = none ∨ waiter q = waiter r

/-- A door whose cycle has been joined by passages. -/
structure Joins (xs : List Passage) (r q : DoorRec) : Prop where
  inner    : q.cfg.inner = r.cfg.inner
  checkOk  : r.checkOk = true → q.checkOk = true
  entrants : entrants q ⊆ entrants r ++ (xs.filter (fun x => x.dir = .entry)).map (·.person)
  waiter   : waiter q = none ∨ waiter q = waiter r

theorem Kin.refl (r : DoorRec) : Kin r r := ⟨rfl, id, List.Subset.refl _, .inr rfl⟩

theorem Kin.trans {r q w : DoorRec} (h : Kin r q) (k : Kin q w) : Kin r w := by
  refine ⟨k.inner.trans h.inner, k.checkOk ∘ h.checkOk, List.Subset.trans k.entrants h.entrants, ?_⟩
  rcases k.waiter with hk | hk
  · exact .inl hk
  · exact hk ▸ h.waiter

theorem Joins.trans {xs : List Passage} {r q w : DoorRec} (h : Joins xs r q) (k : Kin q w) : Joins xs r w := by
  refine ⟨k.inner.trans h.inner, k.checkOk ∘ h.checkOk, List.Subset.trans k.entrants h.entrants, ?_⟩
  rcases k.waiter with hk | hk
  · exact .inl hk
  · exact hk ▸ h.waiter

theorem Plain.kin {r q : DoorRec} (h : Plain r q) : Kin r q := ⟨by rw [h.cfg], h.checkOk, h.entrants, h.waiter⟩

theorem waiter_eq_none {r : DoorRec} : waiter r = none ↔ r.pairWait = none := by
  unfold waiter
  exact Option.map_eq_none_iff

/-- The doors of a state stem from those of another. -/
structure DoorsKin (s t : State) : Prop where
  rising : s.door.doors.wf = true → t.door.doors.wf = true
  kin    : ∀ {d q}, (d, q) ∈ t.door.doors → ∃ r, (d, r) ∈ s.door.doors ∧ Kin r q

namespace DoorsKin

variable {s t u : State}

theorem refl (s : State) : DoorsKin s s := ⟨id, fun h => ⟨_, h, .refl _⟩⟩

theorem of_doors (h : t.door.doors = s.door.doors) : DoorsKin s t := ⟨fun hs => h ▸ hs, fun hq => ⟨_, h ▸ hq, .refl _⟩⟩

theorem trans (h : DoorsKin s t) (k : DoorsKin t u) : DoorsKin s u := by
  refine ⟨k.rising ∘ h.rising, fun hq => ?_⟩
  obtain ⟨r, hr, k1⟩ := k.kin hq
  obtain ⟨w, hw, k2⟩ := h.kin hr
  exact ⟨w, hw, k2.trans k1⟩

theorem ite {a b : State} (p : Prop) [Decidable p] (ha : DoorsKin s a) (hb : DoorsKin s b) :
    DoorsKin s (if p then a else b) := by
  split <;> assumption

theorem putDoor {d : Nat} {r q : DoorRec} (hr : s.door? d = some r) (h : Kin r q) : DoorsKin s (s.putDoor d q) := by
  refine ⟨Table.wf_put _ _, fun hq => ?_⟩
  rcases AlarmsGood.mem_put hq with ⟨rfl, rfl⟩ | hq
  · exact ⟨r, Table.mem_of_find hr, h⟩
  · exact ⟨_, hq, .refl _⟩

theorem changeDoor (s : State) (d : Nat) {f : DoorRec → DoorRec} (h : ∀ r, Kin r (f r)) :
    DoorsKin s (s.changeDoor d f) := by
  refine ⟨Table.wf_change _ _, fun hq => ?_⟩
  obtain ⟨r, hr, rfl | ⟨_, rfl⟩⟩ := mem_change hq
  · exact ⟨_, hr, .refl _⟩
  · exact ⟨r, hr, h r⟩

theorem mapDoors (s : State) {f : DoorRec → DoorRec} (h : ∀ r, Kin r (f r)) :
    DoorsKin s (s.setDoor { s.door with doors := s.door.doors.map (fun p => (p.1, f p.2)) }) := by
  refine ⟨Table.wf_map _ fun _ => rfl, fun hq => ?_⟩
  obtain ⟨⟨k, r⟩, hr, e⟩ := List.mem_map.1 hq
  cases e
  exact ⟨r, hr, h r⟩

theorem delDoor (s : State) (k : Nat) : DoorsKin s (s.setDoor { s.door with doors := s.door.doors.del k }) :=
  ⟨Table.wf_del _, fun hq => ⟨_, (List.mem_filter.1 hq).1, .refl _⟩⟩

theorem takeCycle (s : State) (d : Nat) : DoorsKin s (s.takeCycle d) := by
  refine changeDoor s d fun r => Plain.kin ?_
  split
  · exact Kept.rest_plain rfl rfl rfl (.inr rfl)
  · refine plain_of_sub rfl rfl (.inr rfl) fun e he => ?_
    obtain ⟨c, hc, rfl⟩ := Option.map_eq_some_iff.1 he
    exact ⟨c, hc, List.nil_subset _⟩

theorem beginLead_plain (base : Nat) (r : DoorRec) : Plain r (beginLead base r) := by
  unfold beginLead
  split
  · exact .refl r
  · rename_i c hc
    split <;> exact plain_of_cycle hc rfl (List.Subset.refl _) rfl rfl rfl

/-- A door that gains or loses the right. -/
theorem right_plain (r : DoorRec) (b : Bool) : Plain r { r with right := b } := plain_of_eq rfl rfl rfl rfl

theorem giveRight (s : State) (d p : Nat) : DoorsKin s (s.giveRight d p) :=
  (changeDoor s p fun r => (right_plain r false).kin).trans
    (changeDoor _ d fun r => ((right_plain r true).trans (beginLead_plain _ _)).kin)

theorem arbitrate (s : State) (d : Nat) : DoorsKin s (s.arbitrate d) := by
  unfold State.arbitrate
  split
  · exact refl s
  · split
    · exact ite _ (changeDoor s d fun r => (beginLead_plain _ r).kin) (refl s)
    · split
      · exact refl s
      · split
        · exact giveRight s _ _
        · exact giveRight s _ _
        · exact refl s
        · split
          · exact ite _ (giveRight s _ _) (giveRight s _ _)
          · exact refl s

/-- A door whose cycle is as it was, but for its timers. -/
theorem timers_kin {r q : DoorRec} {g : Cycle → Cycle} (hq : q.cycle = r.cycle.map g) (hg : ∀ f, (g f).passages = f.passages)
    (hcfg : q.cfg = r.cfg) (hc : q.checkOk = r.checkOk) (hw : q.pairWait = r.pairWait) : Kin r q :=
  (plain_of_map hq (fun f => by rw [hg]; exact List.Subset.refl _) hcfg hc hw).kin

theorem reopen {d : Nat} {r : DoorRec} (hr : s.door? d = some r) : DoorsKin s (s.reopen d r) := by
  unfold State.reopen
  have hopen : ∀ b, Kin r { r with
      state := .opened, right := b,
      cycle := r.cycle.map (fun c => { c with relockEnd := none, heldEnd := some (s.base + c.vals.heldOpen * 100) }) } :=
    fun b => timers_kin rfl (fun _ => rfl) rfl rfl rfl
  dsimp only
  split
  · exact putDoor hr (hopen r.right)
  · rename_i p hp
    split
    · exact putDoor hr (hopen r.right)
    · rename_i q hq
      split
      · exact putDoor hr (hopen r.right)
      · split
        · obtain ⟨_, _, _, _, _, _, hne⟩ := partnerOf_eq_some.1 hp
          have hwait : Kin q { q with
              state := .interlockWait, right := false, cycle := q.cycle.map (fun c => { c with leadEnd := none }) } :=
            timers_kin rfl (fun _ => rfl) rfl rfl rfl
          refine (putDoor hq hwait).trans (putDoor (r := r) ?_ (hopen true))
          rw [State.door?_putDoor, if_neg hne.symm]
          exact hr
        · split
          · exact putDoor hr (hopen r.right)
          · exact putDoor hr (hopen true)

theorem overridden_kin (q : DoorRec) : Kin q (State.overridden q) := by
  have hrest : Plain q { q with state := .secured, cycle := none, right := false } :=
    Kept.rest_plain rfl rfl rfl (.inr rfl)
  unfold State.overridden
  split
  · exact hrest.kin
  · rename_i c _ hc
    have hgo : Plain q { q with
        state := .interlockWait, right := false,
        cycle := some { c with passages := c.passages.filter (fun x => x.dir = .exit), leadEnd := none } } :=
      plain_of_cycle hc rfl (List.filter_subset_self _) rfl rfl rfl
    dsimp only
    split
    · exact hrest.kin
    · exact hgo.kin
  · exact (right_plain q false).kin

theorem enterReleased_kin (r : DoorRec) (b : Bool) : Kin r (enterReleased { r with right := b }) :=
  timers_kin rfl (fun _ => rfl) rfl rfl rfl

theorem overriding (s : State) (d : Nat) : DoorsKin s (Machine.overriding s d) := by
  unfold Machine.overriding
  split
  · exact changeDoor s d fun r => enterReleased_kin r r.right
  · exact (changeDoor s _ overridden_kin).trans (changeDoor _ d fun r => enterReleased_kin r true)

/-- The partner field names no zone and no person. -/
theorem setPartner (s : State) (d : Nat) (o : Option Nat) : DoorsKin s (s.setPartner d o) :=
  changeDoor s d fun _ => ⟨rfl, id, List.Subset.refl _, .inr rfl⟩

theorem dissolve (s : State) (d : Nat) (o : Option Nat) : DoorsKin s (s.dissolve d o) := by
  unfold State.dissolve
  split
  · exact refl s
  · split
    · exact refl s
    · exact ite _ (setPartner s _ _) (refl s)

theorem repair (s : State) (d : Nat) (o n : Option Nat) : DoorsKin s (s.repair d o n) := by
  unfold State.repair
  refine ite _ (refl s) ((dissolve s d o).trans ?_)
  cases n with
  | none => exact changeDoor _ d fun r => ((right_plain r _).kin)
  | some n => exact (setPartner _ n _).trans (changeDoor _ d fun r => ((right_plain r _).kin))

end DoorsKin

/-! ## Release requests (R21) -/

/-- A new cycle of these passages, at a door that had another or none. -/
theorem joins_new {r q : DoorRec} {c : Cycle} {xs : List Passage} (hq : q.cycle = some c) (hc : c.passages = xs)
    (hcfg : q.cfg = r.cfg) (hok : q.checkOk = r.checkOk) (hw : q.pairWait = r.pairWait) : Joins xs r q := by
  refine ⟨by rw [hcfg], fun h => hok.trans h, fun p hp => List.mem_append_right _ ?_, .inr (by unfold waiter; rw [hw])⟩
  unfold entrants at hp
  rw [hq] at hp
  exact hc ▸ hp

theorem joinCycle_passages {c e : Cycle} {xs : List Passage} (h : joinCycle c xs = some e) :
    e.passages ⊆ c.passages ++ xs := by
  unfold joinCycle at h
  dsimp only at h
  split at h
  · split at h <;> cases h
    exact List.Subset.refl _
  · split at h <;> cases h
    · exact List.Subset.refl _
    · exact List.subset_append_left _ _

/-- The passages join the cycle that a door has. -/
theorem joins_cycle {r q : DoorRec} {c e : Cycle} {xs : List Passage} (hq : q.cycle = some e)
    (hc : r.cycle = some c ∨ r.cycle = none ∧ c.passages = []) (he : e.passages ⊆ c.passages ++ xs)
    (hcfg : q.cfg = r.cfg) (hok : q.checkOk = r.checkOk) (hw : q.pairWait = r.pairWait) : Joins xs r q := by
  refine ⟨by rw [hcfg], fun h => hok.trans h, fun p hp => ?_, .inr (by unfold waiter; rw [hw])⟩
  unfold entrants at hp
  rw [hq] at hp
  obtain ⟨x, hx, rfl⟩ := List.mem_map.1 hp
  obtain ⟨hxe, hdir⟩ := List.mem_filter.1 hx
  rcases List.mem_append.1 (he hxe) with hxc | hxs
  · refine List.mem_append_left _ ?_
    rcases hc with hc | ⟨_, hc⟩
    · unfold entrants
      rw [hc]
      exact List.mem_map.2 ⟨x, List.mem_filter.2 ⟨hxc, hdir⟩, rfl⟩
    · rw [hc] at hxc
      cases hxc
  · exact List.mem_append_right _ (List.mem_map.2 ⟨x, List.mem_filter.2 ⟨hxs, hdir⟩, rfl⟩)

/-- After a release request every door stems from the one that it was, or its cycle was joined by the passages. -/
structure DoorsJoin (d : Nat) (r : DoorRec) (xs : List Passage) (s t : State) : Prop where
  rising : s.door.doors.wf = true → t.door.doors.wf = true
  joins  : ∀ {k q}, (k, q) ∈ t.door.doors → (∃ w, (k, w) ∈ s.door.doors ∧ Kin w q) ∨ (k = d ∧ Joins xs r q)

namespace DoorsJoin

variable {s t u : State} {d : Nat} {r : DoorRec} {xs : List Passage}

theorem of_kin (h : DoorsKin s t) : DoorsJoin d r xs s t := ⟨h.rising, fun hq => .inl (h.kin hq)⟩

theorem trans (h : DoorsJoin d r xs s t) (k : DoorsKin t u) : DoorsJoin d r xs s u := by
  refine ⟨k.rising ∘ h.rising, fun hq => ?_⟩
  obtain ⟨w, hw, k1⟩ := k.kin hq
  rcases h.joins hw with ⟨v, hv, k2⟩ | ⟨hk, k2⟩
  · exact .inl ⟨v, hv, k2.trans k1⟩
  · exact .inr ⟨hk, k2.trans k1⟩

theorem putDoor {q : DoorRec} (h : Joins xs r q) : DoorsJoin d r xs s (s.putDoor d q) := by
  refine ⟨Table.wf_put _ _, fun hq => ?_⟩
  rcases AlarmsGood.mem_put hq with ⟨rfl, rfl⟩ | hq
  · exact .inr ⟨rfl, h⟩
  · exact .inl ⟨_, hq, .refl _⟩

theorem beginCycle (s : State) (d : Nat) (r : DoorRec) (xs : List Passage) :
    DoorsJoin d r xs s (s.beginCycle d r xs) := by
  have hnew : ∀ x, Joins xs r { r with state := x, cycle := some (s.newCycle r xs) } :=
    fun _ => joins_new rfl rfl rfl rfl rfl
  unfold State.beginCycle
  split
  · exact putDoor ((hnew r.state).trans (DoorsKin.beginLead_plain _ _).kin)
  · exact (putDoor (hnew _)).trans (.arbitrate _ d)

theorem releaseRequest (hd : s.door? d = some r) (xs : List Passage) :
    DoorsJoin d r xs s (s.releaseRequest d xs).1 := by
  unfold State.releaseRequest
  rw [hd]
  dsimp only
  have hjoin : DoorsJoin d r xs s (match joinCycle (r.cycle.getD (s.newCycle r [])) xs with
      | none => (s, Joined.full)
      | some c => ((s.putDoor d { r with cycle := some c }).arbitrate d, Joined.taken)).1 := by
    split
    · exact of_kin (.refl s)
    · rename_i c hc
      have hjoins : Joins xs r { r with cycle := some c } := by
        refine joins_cycle rfl ?_ (joinCycle_passages hc) rfl rfl rfl
        cases r.cycle with
        | none => exact .inr ⟨rfl, rfl⟩
        | some e => exact .inl rfl
      exact (putDoor hjoins).trans (.arbitrate _ d)
  split
  · exact of_kin (.refl s)
  · exact beginCycle s d r xs
  · split
    · have hnew : Joins xs r { r with cycle := some (s.newCycle r xs) } := joins_new rfl rfl rfl rfl rfl
      exact putDoor (hnew.trans (DoorsKin.beginLead_plain _ _).kin)
    · exact beginCycle s d r xs
  all_goals exact hjoin

end DoorsJoin
end Sys2Proof.Machine

/-! ## Every sound occupancy record names a person record that exists (R47, R83) -/

namespace Sys2Proof.Machine

/-- The persons that sound occupancy records, pending ENTRY passages and pair waits name have records, and so have those
who are known. -/
structure Identified (c : Scope) (s : State) : Prop where
  known    : ∀ p ∈ c.known, (s.person? p).isSome = true
  records  : ∀ i r, (i, r) ∈ s.occ.recs → r.sound = true → (s.person? r.person).isSome = true
  entrants : ∀ d r p, (d, r) ∈ s.door.doors → some p ∈ entrants r → (s.person? p).isSome = true
  waiter   : ∀ d r p, (d, r) ∈ s.door.doors → waiter r = some p → (s.person? p).isSome = true

theorem mem_entrants {r : DoorRec} {p : Option Nat} :
    p ∈ entrants r ↔ ∃ c x, r.cycle = some c ∧ x ∈ c.passages ∧ x.dir = .entry ∧ x.person = p := by
  unfold entrants
  cases r.cycle with
  | none => simp
  | some c => simp [and_assoc]

theorem waiter_eq_some {r : DoorRec} {p : Nat} : waiter r = some p ↔ ∃ w, r.pairWait = some w ∧ w.person = p := by
  unfold waiter
  exact Option.map_eq_some_iff

theorem identified_iff (s : State) : Identified {} s ↔ s.PersonsExist := by
  constructor
  · intro h
    refine ⟨h.records, fun d r c x p hr hc hx hp => ?_, fun d r w hr hw => h.waiter d r _ hr (waiter_eq_some.2 ⟨w, hw, rfl⟩)⟩
    unfold State.entrant at hp
    split at hp
    · rename_i hdir
      exact h.entrants d r p hr (mem_entrants.2 ⟨c, x, hc, hx, hdir, hp⟩)
    · cases hp
  · intro h
    refine ⟨by simp, h.records, fun d r p hr hp => ?_, fun d r p hr hp => ?_⟩
    · obtain ⟨c, x, hc, hx, hdir, hxp⟩ := mem_entrants.1 hp
      exact h.passages d r c x p hr hc hx (by rw [State.entrant, if_pos hdir, hxp])
    · obtain ⟨w, hw, rfl⟩ := waiter_eq_some.1 hp
      exact h.waits d r w hr hw

theorem mem_changeDoor {s : State} {d k : Nat} {f : DoorRec → DoorRec} {q : DoorRec}
    (h : (k, q) ∈ (s.changeDoor d f).door.doors) : ∃ r, (k, r) ∈ s.door.doors ∧ (q = r ∨ k = d ∧ q = f r) := mem_change h

namespace Identified

variable {c : Scope} {s t : State}

/-- The doors change by edits that add no person. -/
theorem of_kin (h : Identified c s) (hd : DoorsKin s t) (ha : t.adm = s.adm) (ho : t.occ = s.occ) : Identified c t := by
  have hp : ∀ p, t.person? p = s.person? p := fun p => by unfold State.person?; rw [ha]
  refine ⟨fun p hk => hp p ▸ h.known p hk, fun i r hr hs => hp _ ▸ h.records i r (ho ▸ hr) hs, fun d q p hq hm => ?_,
    fun d q p hq hm => ?_⟩ <;> obtain ⟨r, hr, k⟩ := hd.kin hq <;> rw [hp]
  · exact h.entrants d r p hr (k.entrants hm)
  · rcases k.waiter with hw | hw
    · rw [hw] at hm
      cases hm
    · exact h.waiter d r p hr (hw ▸ hm)

theorem of_only (h : Identified c s) (hd : DoorsKin s t) (ho : DoorsOnly s t) : Identified c t := of_kin h hd ho.adm ho.occ

/-- Neither persons nor records nor doors change. -/
theorem of_eq (h : Identified c s) (hd : t.door.doors = s.door.doors) (ha : t.adm = s.adm) (ho : t.occ = s.occ) :
    Identified c t := of_kin h (.of_doors hd) ha ho

/-- No person's record is lost. -/
theorem of_persons (h : Identified c s) (hd : t.door = s.door) (ho : t.occ = s.occ)
    (hp : ∀ p, (s.person? p).isSome = true → (t.person? p).isSome = true) : Identified c t :=
  ⟨fun p hk => hp p (h.known p hk), fun i r hr hs => hp _ (h.records i r (ho ▸ hr) hs),
    fun d r p hr hm => hp p (h.entrants d r p (hd ▸ hr) hm), fun d r p hr hm => hp p (h.waiter d r p (hd ▸ hr) hm)⟩

/-- One person more is known. -/
theorem know (h : Identified c s) {p : Nat} (hp : (s.person? p).isSome = true) : Identified (c.knowing p) s :=
  ⟨fun _ hq => (List.mem_cons.1 hq).elim (fun e => e ▸ hp) (h.known _), h.records, h.entrants, h.waiter⟩

/-- The known persons are a part of this invariant only by their list. -/
theorem scope {b : Option Nat} {k : List Nat} (h : Identified c s) (hk : k ⊆ c.known) :
    Identified { but := b, known := k } s := ⟨fun p hp => h.known p (hk hp), h.records, h.entrants, h.waiter⟩

/-- Occupancy records change by those of known persons. -/
theorem recs (h : Identified c s) {u : Table OccRec} (hu : ∀ i r, (i, r) ∈ u → r.sound = true →
    r.person ∈ c.known ∨ ∃ j q, (j, q) ∈ s.occ.recs ∧ q.sound = true ∧ q.person = r.person) :
    Identified c (s.setOcc { s.occ with recs := u }) := by
  refine ⟨h.known, fun i r hr hs => ?_, h.entrants, h.waiter⟩
  rcases hu i r hr hs with hk | ⟨j, q, hq, hqs, hp⟩
  · exact h.known _ hk
  · exact hp ▸ h.records j q hq hqs

/-- A person held nowhere in the part leaves it (R47). -/
theorem dropPerson {b : Option Nat} (h : Identified { but := b } s) {k : Nat} (hk : s.heldInPart k = false) :
    Identified { but := b } (s.setAdm { s.adm with persons := s.adm.persons.del k }) := by
  unfold State.heldInPart at hk
  rw [Bool.or_eq_false_iff, List.any_eq_false, List.any_eq_false] at hk
  obtain ⟨hrecs, hdoors⟩ := hk
  have keep : ∀ p, p ≠ k → (s.person? p).isSome = true →
      (State.person? (s.setAdm { s.adm with persons := s.adm.persons.del k }) p).isSome = true := by
    intro p hne hp
    unfold State.person?
    dsimp only [State.setAdm_adm]
    rw [Table.find_del, if_neg hne]
    exact hp
  refine ⟨by simp, fun i r hr hs => keep _ ?_ (h.records i r hr hs), fun d r p hr hp => keep _ ?_ (h.entrants d r p hr hp),
    fun d r p hr hp => keep _ ?_ (h.waiter d r p hr hp)⟩ <;> rintro rfl
  · exact hrecs (i, r) hr (by simp)
  · obtain ⟨c, x, hc, hx, _, hxp⟩ := mem_entrants.1 hp
    refine hdoors (d, r) hr ?_
    rw [Bool.or_eq_true]
    left
    rw [hc]
    exact List.any_eq_true.2 ⟨x, hx, by simp [hxp]⟩
  · obtain ⟨w, hw, hwp⟩ := waiter_eq_some.1 hp
    exact hdoors (d, r) hr (by simp [hw, hwp])

/-- Entries of known persons join a cycle (R21). -/
theorem release (h : Identified c s) {d : Nat} {r : DoorRec} (hd : s.door? d = some r) {xs : List Passage}
    (hx : Admissible c s r xs) : Identified c (s.releaseRequest d xs).1 := by
  have ho := DoorsOnly.releaseRequest s d xs
  have hj := DoorsJoin.releaseRequest hd xs
  have hp : ∀ p, (s.releaseRequest d xs).1.person? p = s.person? p := fun p => by unfold State.person?; rw [ho.adm]
  refine ⟨fun p hk => hp p ▸ h.known p hk, fun i q hq hs => hp _ ▸ h.records i q (ho.occ ▸ hq) hs, fun k q p hq hm => ?_,
    fun k q p hq hm => ?_⟩ <;> rw [hp] <;> rcases hj.joins hq with ⟨w, hw, kin⟩ | ⟨rfl, joins⟩
  · exact h.entrants k w p hw (kin.entrants hm)
  · rcases List.mem_append.1 (joins.entrants hm) with hm | hm
    · exact h.entrants k r p (Table.mem_of_find hd) hm
    · obtain ⟨x, hxs, hxp⟩ := List.mem_map.1 hm
      obtain ⟨hmem, hdir⟩ := List.mem_filter.1 hxs
      exact h.known p ((hx x hmem (by simpa using hdir)).2 p hxp)
  · rcases kin.waiter with hk | hk
    · rw [hk] at hm
      cases hm
    · exact h.waiter k w p hw (hk ▸ hm)
  · rcases joins.waiter with hk | hk
    · rw [hk] at hm
      cases hm
    · exact h.waiter k r p (Table.mem_of_find hd) (hk ▸ hm)

/-- A pair wait of a known person begins (R69). -/
theorem beginWait (h : Identified c s) (d : Nat) {w : PairWait} (hw : w.person ∈ c.known) :
    Identified c (s.changeDoor d (fun q => { q with pairWait := some w })) := by
  refine ⟨h.known, h.records, fun k q p hq hm => ?_, fun k q p hq hm => ?_⟩ <;>
    obtain ⟨r, hr, rfl | ⟨_, rfl⟩⟩ := mem_changeDoor hq
  · exact h.entrants k q p hr hm
  · exact h.entrants k r p hr hm
  · exact h.waiter k q p hr hm
  · obtain ⟨_, e, rfl⟩ := waiter_eq_some.1 hm
    cases e
    exact h.known _ hw

/-- A door is stored that names no more persons than one that was there, or none. -/
theorem putDoor (h : Identified c s) (d : Nat) {q : DoorRec}
    (hq : (Machine.entrants q = [] ∧ Machine.waiter q = none) ∨ ∃ r, s.door? d = some r ∧
      Machine.entrants q = Machine.entrants r ∧ Machine.waiter q = Machine.waiter r) : Identified c (s.putDoor d q) := by
  refine ⟨h.known, h.records, fun k w p hw hm => ?_, fun k w p hw hm => ?_⟩ <;>
    rcases AlarmsGood.mem_put hw with ⟨rfl, rfl⟩ | hw
  · rcases hq with ⟨hq, _⟩ | ⟨r, hr, he, _⟩
    · rw [hq] at hm
      cases hm
    · exact h.entrants k r p (Table.mem_of_find hr) (he ▸ hm)
  · exact h.entrants k w p hw hm
  · rcases hq with ⟨_, hq⟩ | ⟨r, hr, _, he⟩
    · rw [hq] at hm
      cases hm
    · exact h.waiter k r p (Table.mem_of_find hr) (he ▸ hm)
  · exact h.waiter k w p hw hm

/-- That the persons named have records is closed under the edits of the operations. -/
theorem closed : Closed Identified where
  alm := fun _ _ h => of_eq h rfl rfl rfl
  rel := fun _ _ h => of_eq h rfl rfl rfl
  link := fun _ _ h => of_eq h rfl rfl rfl
  ret := fun _ _ _ h => of_eq h rfl rfl rfl
  host := fun _ h => of_eq h rfl rfl rfl
  free := fun _ h => of_eq h rfl rfl rfl
  pending := fun _ h => of_eq h rfl rfl rfl
  adm := fun _ hu h => of_persons h rfl rfl hu.persons
  dropPerson := fun _ hk h => dropPerson h hk
  zones := fun _ _ h => ⟨h.known, h.records, h.entrants, h.waiter⟩
  recs := fun _ hu h => recs h hu.sound
  classes := fun _ _ h => of_eq h rfl rfl rfl
  forget := fun _ hl h => scope h hl
  know := fun _ hp h => know h hp
  knowEntrant := fun p hd hm h => know h (h.entrants _ _ p (Table.mem_of_find hd) hm)
  knowWaiter := fun p hd hm h => know h (h.waiter _ _ p (Table.mem_of_find hd) hm)
  await := fun _ h => scope h (List.Subset.refl _)
  awaited := fun _ _ h => scope h (List.Subset.refl _)
  takeCycle := fun d h => scope (of_only h (.takeCycle _ d) (.takeCycle _ d)) (List.Subset.refl _)
  putDoor := fun _ hr hp _ h => of_only h (.putDoor hr hp.kin) rfl
  changeDoor := fun d _ hp _ h => of_only h (.changeDoor _ d fun r => (hp r).kin) rfl
  mapDoors := fun _ hp _ h => of_only h (.mapDoors _ fun r => (hp r).kin) rfl
  secure := fun _ hr hp _ _ h => of_only h (.putDoor hr hp.kin) rfl
  arbitrate := fun d h => of_only h (.arbitrate _ d) (.arbitrate _ d)
  release := fun _ hd hx h => release h hd hx
  beginWait := fun _ _ _ hw h => beginWait h _ hw
  reopen := fun hr _ h => of_only h (.reopen hr) (.reopen _ _ _)
  override := fun {_ s d _} _ _ h => by
    obtain ⟨u, _, e⟩ := overrideRight_spec s d
    rw [e]
    exact of_eq (of_only h (.overriding s d) (overriding_only s d)) rfl rfl rfl
  placeDoor := fun k _ _ _ _ h => of_only (putDoor h k (.inl ⟨rfl, rfl⟩)) (.repair _ _ _ _) (.repair _ _ _ _)
  editDoor := fun {_ _ k q} x hd _ h =>
    of_only (putDoor h k (q := { q with cfg := x, suspect := false, checkOk := true }) (.inr ⟨q, hd, rfl, rfl⟩))
      (.repair _ _ _ _) (.repair _ _ _ _)
  dropDoor := fun _ _ _ h => of_only h (.delDoor _ _) rfl

/-- Damage takes no person away, and a damaged occupancy record is not sound (log entry 5). -/
theorem damageOne (h : Identified c s) (d : Damage) : Identified c (s.damageOne d) := by
  unfold State.damageOne
  cases d with
  | person k x =>
    dsimp only
    split
    · exact h
    · refine of_persons h rfl rfl fun p hp => ?_
      rw [State.person?_putPerson]
      split
      · rfl
      · exact hp
  | grant k x =>
    dsimp only
    split
    · exact h
    · exact of_persons h rfl rfl fun _ => id
  | occupancy k x =>
    refine recs h fun i r hr hs => ?_
    obtain ⟨q, hq, rfl | ⟨_, rfl⟩⟩ := mem_change hr
    · exact .inr ⟨i, r, hq, hs, rfl⟩
    · exact absurd hs (by cases q.suspect <;> simp [OccRec.sound])
  | zone k x => exact ⟨h.known, h.records, h.entrants, h.waiter⟩
  | door n x =>
    dsimp only
    refine ⟨h.known, h.records, fun k q p hq hm => ?_, fun k q p hq hm => ?_⟩ <;>
      obtain ⟨r, hr, rfl | ⟨_, rfl⟩⟩ := mem_changeDoor hq
    · exact h.entrants k q p hr hm
    · exact h.entrants k r p hr hm
    · exact h.waiter k q p hr hm
    · exact h.waiter k r p hr hm
  | _ => exact of_eq h rfl rfl rfl

end Identified

/-- Settles O9: the persons named have records before and after every edit that an operation makes. -/
theorem stepKeepsPersons : Obligations.StepKeepsPersons := by
  intro s t _ hs h
  have hreset : Identified {} State.reset := ⟨by simp, fun _ _ hr => (List.not_mem_nil hr).elim,
    fun _ _ _ hr => (List.not_mem_nil hr).elim, fun _ _ _ hr => (List.not_mem_nil hr).elim⟩
  exact (identified_iff t).1 (step_keeps Identified.closed hreset (fun _ _ d _ _ hu => hu.damageOne d)
    ((identified_iff s).2 hs) h)

end Sys2Proof.Machine

/-! ## A HELD zone has no admission in flight (R75) -/

namespace Sys2Proof.Machine

/-- The doors' table is canonical, and no door into a zone that is HELD holds an ENTRY passage or a pair wait. -/
structure HeldEmpty (s : State) : Prop where
  rising : s.door.doors.wf = true
  empty  : ∀ d r, (d, r) ∈ s.door.doors → s.zoneHeld r.cfg.inner = true → entrants r = [] ∧ waiter r = none

theorem heldHasNone_iff {s : State} (hw : s.door.doors.wf = true) : s.HeldHasNone ↔ HeldEmpty s := by
  constructor
  · intro h
    refine ⟨hw, fun d r hr hz => ?_⟩
    obtain ⟨he, hp⟩ := inFlight_eq_zero.1 (h _ hz) d r hr rfl
    exact ⟨he, waiter_eq_none.2 hp⟩
  · intro h z hz
    refine inFlight_eq_zero.2 fun d r hr e => ?_
    obtain ⟨he, hp⟩ := h.empty d r hr (e ▸ hz)
    exact ⟨he, waiter_eq_none.1 hp⟩

/-- A door changes its inner zone only where the old one is HELD (R17). -/
theorem doorRefusal_none {s : State} {d : Nat} {q : DoorRec} {x : DoorCfg} (h : s.doorRefusal d q x = none) :
    x.inner = q.cfg.inner ∨ s.zoneHeld q.cfg.inner = true := by
  by_contra hne
  rw [not_or] at hne
  obtain ⟨hne, hheld⟩ := hne
  unfold State.doorRefusal at h
  split at h
  · cases h
  · dsimp only at h
    rw [if_pos (by simpa using hne)] at h
    split at h
    · cases h
    · rename_i hm
      unfold State.moveDoorRefusal at hm
      split at hm
      · cases hm
      · split at hm
        · cases hm
        · rw [if_pos (by simp [hheld])] at hm
          cases hm

theorem wf_changeDoor {s : State} (d : Nat) (f : DoorRec → DoorRec) (h : s.door.doors.wf = true) :
    (s.changeDoor d f).door.doors.wf = true := Table.wf_change _ _ h

namespace HeldEmpty

variable {s t : State}

theorem of_kin (h : HeldEmpty s) (hd : DoorsKin s t) (ho : t.occ = s.occ) : HeldEmpty t := by
  have hz : ∀ z, t.zoneHeld z = s.zoneHeld z := fun z => by unfold State.zoneHeld State.zone?; rw [ho]
  refine ⟨hd.rising h.rising, fun d q hq hheld => ?_⟩
  obtain ⟨r, hr, k⟩ := hd.kin hq
  rw [hz, k.inner] at hheld
  obtain ⟨he, hp⟩ := h.empty d r hr hheld
  refine ⟨List.subset_nil.1 (he ▸ k.entrants), ?_⟩
  rcases k.waiter with hk | hk
  · exact hk
  · exact hk.trans hp

theorem of_only (h : HeldEmpty s) (hd : DoorsKin s t) (ho : DoorsOnly s t) : HeldEmpty t := of_kin h hd ho.occ

theorem of_eq (h : HeldEmpty s) (hd : t.door.doors = s.door.doors) (ho : t.occ = s.occ) : HeldEmpty t :=
  of_kin h (.of_doors hd) ho

/-- A zone becomes HELD only with nothing in flight into it. -/
theorem zones (h : HeldEmpty s) {u : Table ZoneRec} (hu : ZonesTame s u) :
    HeldEmpty (s.setOcc { s.occ with zones := u }) := by
  refine ⟨h.rising, fun d r hr hz => ?_⟩
  rcases hu.held _ hz with hz | hz
  · exact h.empty d r hr hz
  · obtain ⟨he, hp⟩ := inFlight_eq_zero.1 hz d r hr rfl
    exact ⟨he, waiter_eq_none.2 hp⟩

/-- A THAWED zone is not HELD. -/
theorem not_held_of_thawed {r : DoorRec} (h : thawedAt s r) : s.zoneHeld r.cfg.inner ≠ true := by
  obtain ⟨z, hz, hf⟩ := h
  unfold State.zoneHeld
  rw [hz]
  simp [hf]

theorem release (h : HeldEmpty s) {c : Scope} {d : Nat} {r : DoorRec} (hd : s.door? d = some r) {xs : List Passage}
    (hx : Admissible c s r xs) : HeldEmpty (s.releaseRequest d xs).1 := by
  have ho := DoorsOnly.releaseRequest s d xs
  have hj := DoorsJoin.releaseRequest hd xs
  have hz : ∀ z, (s.releaseRequest d xs).1.zoneHeld z = s.zoneHeld z :=
    fun z => by unfold State.zoneHeld State.zone?; rw [ho.occ]
  refine ⟨hj.rising h.rising, fun k q hq hheld => ?_⟩
  rw [hz] at hheld
  rcases hj.joins hq with ⟨w, hw, kin⟩ | ⟨rfl, joins⟩
  · rw [kin.inner] at hheld
    obtain ⟨he, hp⟩ := h.empty k w hw hheld
    exact ⟨List.subset_nil.1 (he ▸ kin.entrants), kin.waiter.elim id fun e => e.trans hp⟩
  · rw [joins.inner] at hheld
    obtain ⟨he, hp⟩ := h.empty k r (Table.mem_of_find hd) hheld
    have hnone : xs.filter (fun x => x.dir = .entry) = [] := List.filter_eq_nil_iff.2 fun x hm hdir =>
      not_held_of_thawed (hx x hm (by simpa using hdir)).1 hheld
    refine ⟨List.subset_nil.1 ?_, joins.waiter.elim id fun e => e.trans hp⟩
    have := joins.entrants
    rw [he, hnone] at this
    exact this

theorem beginWait (h : HeldEmpty s) {d : Nat} {r : DoorRec} (hd : s.door? d = some r) (ht : thawedAt s r) (w : PairWait) :
    HeldEmpty (s.changeDoor d (fun q => { q with pairWait := some w })) := by
  refine ⟨?_, fun k q hq hheld => ?_⟩
  · exact wf_changeDoor d _ h.rising
  obtain ⟨v, hv, rfl | ⟨rfl, rfl⟩⟩ := mem_changeDoor hq
  · exact h.empty k q hv hheld
  · have : v = r := by
      have := Table.find_of_mem h.rising hv
      rw [show s.door.doors.find k = some r from hd] at this
      cases this
      rfl
    exact absurd hheld (this ▸ not_held_of_thawed ht)

/-- A door stored that holds nothing, or what it held. -/
theorem putDoor (h : HeldEmpty s) (k : Nat) {q : DoorRec}
    (hq : s.zoneHeld q.cfg.inner = true → entrants q = [] ∧ waiter q = none) : HeldEmpty (s.putDoor k q) := by
  refine ⟨Table.wf_put _ _ h.rising, fun d r hr hheld => ?_⟩
  rcases AlarmsGood.mem_put hr with ⟨rfl, rfl⟩ | hr
  · exact hq hheld
  · exact h.empty d r hr hheld

/-- A door's fields change: its inner zone only where that was HELD. -/
theorem editDoor (h : HeldEmpty s) {k : Nat} {q : DoorRec} {x : DoorCfg} (hd : s.door? k = some q)
    (hx : s.doorRefusal k q x = none) : HeldEmpty (s.putDoor k { q with cfg := x, suspect := false, checkOk := true }) := by
  refine putDoor h k fun hheld => h.empty k q (Table.mem_of_find hd) ?_
  rcases doorRefusal_none hx with hi | hi
  · exact hi ▸ hheld
  · exact hi

/-- That a HELD zone has no admission in flight is closed under the edits of the operations. -/
theorem closed : Closed (fun _ s => HeldEmpty s) where
  alm := fun _ _ h => of_eq h rfl rfl
  rel := fun _ _ h => of_eq h rfl rfl
  link := fun _ _ h => of_eq h rfl rfl
  ret := fun _ _ _ h => of_eq h rfl rfl
  host := fun _ h => of_eq h rfl rfl
  free := fun _ h => of_eq h rfl rfl
  pending := fun _ h => of_eq h rfl rfl
  adm := fun _ _ h => of_eq h rfl rfl
  dropPerson := fun _ _ h => of_eq h rfl rfl
  zones := fun _ hu h => zones h hu
  recs := fun _ _ h => ⟨h.rising, h.empty⟩
  classes := fun _ _ h => of_eq h rfl rfl
  forget := fun _ _ h => h
  know := fun _ _ h => h
  knowEntrant := fun _ _ _ h => h
  knowWaiter := fun _ _ _ h => h
  await := fun _ h => h
  awaited := fun _ _ h => h
  takeCycle := fun d h => of_only h (.takeCycle _ d) (.takeCycle _ d)
  putDoor := fun _ hr hp _ h => of_only h (.putDoor hr hp.kin) rfl
  changeDoor := fun d _ hp _ h => of_only h (.changeDoor _ d fun r => (hp r).kin) rfl
  mapDoors := fun _ hp _ h => of_only h (.mapDoors _ fun r => (hp r).kin) rfl
  secure := fun _ hr hp _ _ h => of_only h (.putDoor hr hp.kin) rfl
  arbitrate := fun d h => of_only h (.arbitrate _ d) (.arbitrate _ d)
  release := fun _ hd hx h => release h hd hx
  beginWait := fun w hd ht _ h => beginWait h hd ht w
  reopen := fun hr _ h => of_only h (.reopen hr) (.reopen _ _ _)
  override := fun {_ s d _} _ _ h => by
    obtain ⟨u, _, e⟩ := overrideRight_spec s d
    rw [e]
    exact of_eq (of_only h (.overriding s d) (overriding_only s d)) rfl rfl
  placeDoor := fun k x _ _ _ h =>
    of_only (putDoor h k (q := { cfg := x }) fun _ => ⟨rfl, rfl⟩) (.repair _ _ _ _) (.repair _ _ _ _)
  editDoor := fun _ hd hx h => of_only (editDoor h hd hx) (.repair _ _ _ _) (.repair _ _ _ _)
  dropDoor := fun _ _ _ h => of_only h (.delDoor _ _) rfl

end HeldEmpty

/-- Settles O8: no edit that an operation makes puts an admission in flight into a HELD zone. -/
theorem stepKeepsHeldEmpty : Obligations.StepKeepsHeldEmpty := by
  intro s t hw hs hd h
  have hreset : HeldEmpty State.reset := ⟨rfl, fun _ _ hr => (List.not_mem_nil hr).elim⟩
  have ht := step_keeps_of_undamaging HeldEmpty.closed hreset hd ((heldHasNone_iff hw.doors).1 hs) h
  exact (heldHasNone_iff ht.rising).2 ht

end Sys2Proof.Machine

/-! ## The check values: steps without damage, a reading of the tables, and a warm restart (R178, R180, R181) -/

namespace Sys2Proof.Machine

/-! ### A table whose records are marked key by key -/

/-- Marking every record that is not good, key by key, leaves only good records. -/
theorem foldl_marks {σ α : Type} (table : σ → Table α) (Good : α → Prop) (mark : σ → Nat → σ)
    (hmark : ∀ s k, (table s).wf = true → (table (mark s k)).wf = true ∧
      ∀ j x, (j, x) ∈ table (mark s k) → Good x ∨ (j ≠ k ∧ ∃ y, (j, y) ∈ table s ∧ (Good y → Good x)))
    (l : List Nat) (s : σ) (hw : (table s).wf = true) (hl : ∀ j x, (j, x) ∈ table s → Good x ∨ j ∈ l) :
    ∀ j x, (j, x) ∈ table (l.foldl mark s) → Good x := by
  induction l generalizing s with
  | nil => exact fun j x hx => (hl j x hx).resolve_right List.not_mem_nil
  | cons k l ih =>
    obtain ⟨hw', hm⟩ := hmark s k hw
    refine ih _ hw' fun j x hx => ?_
    rcases hm j x hx with hg | ⟨hne, y, hy, hyx⟩
    · exact .inl hg
    · rcases hl j y hy with hg | hj
      · exact .inl (hyx hg)
      · exact .inr ((List.mem_cons.1 hj).resolve_left hne)

theorem mem_change_cases {α : Type} {t : Table α} {k i : Nat} {f : α → α} {x : α} (h : (i, x) ∈ t.change k f) :
    (i ≠ k ∧ (i, x) ∈ t) ∨ ∃ q, (i, q) ∈ t ∧ x = f q := by
  obtain ⟨⟨j, q⟩, hq, e⟩ := List.mem_map.1 h
  dsimp only at e
  split at e <;> cases e
  · exact .inr ⟨q, hq, rfl⟩
  · exact .inl ⟨by assumption, hq⟩

theorem mem_keys {α : Type} {t : Table α} {k : Nat} {x : α} (h : (k, x) ∈ t) : k ∈ t.keys := List.mem_map.2 ⟨_, h, rfl⟩

/-! ### All stored items agree -/

/-- Every stored item but the person and grant records agrees with its check value, and where `b` says so those do that
are not suspect, and the retention marker. -/
structure Agrees (b : Prop) (s : State) : Prop where
  zones    : ZonesAgree s.occ.zones
  doors    : ∀ d r, (d, r) ∈ s.door.doors → r.checkOk = true
  classes  : ClassesAgree s.door.classes
  recs     : ∀ i r, (i, r) ∈ s.occ.recs → r.checkOk = true
  rel      : RelAgrees s.rel
  alarms   : AllAlarms (fun r => r.checkOk = true) s.alm.recs
  rest     : RestAgrees s.alm
  link     : LinkAgrees s.link
  calendar : s.ret.calendarOk = true
  persons  : b → ∀ k r, (k, r) ∈ s.adm.persons → (r.checkOk || r.suspect) = true
  grants   : b → ∀ k r, (k, r) ∈ s.adm.grants → (r.checkOk || r.suspect) = true
  marker   : b → s.ret.markerCheck = true

theorem all_checkOk {α : Type} {t : Table α} {p : α → Bool} :
    t.all (fun x => p x.2) = true ↔ ∀ k r, (k, r) ∈ t → p r = true := by
  rw [List.all_eq_true]
  exact ⟨fun h k r hr => h _ hr, fun h x hx => h x.1 x.2 hx⟩

theorem eight_all {p : Nat → Bool} : State.eight.all p = true ↔ ∀ k < 8, p k = true := by
  rw [List.all_eq_true]
  have : ∀ k, k ∈ State.eight ↔ k < 8 := fun k => by
    simp only [State.eight, List.mem_cons, List.not_mem_nil, or_false]
    omega
  simp only [this]

theorem range_all {n : Nat} {p : Nat → Bool} : (List.range n).all p = true ↔ ∀ k < n, p k = true := by
  rw [List.all_eq_true]
  simp only [List.mem_range]

theorem intact_iff (s : State) : s.intact = true ↔ Agrees False s := by
  unfold State.intact
  simp only [Bool.and_eq_true, all_checkOk, eight_all, range_all, decide_eq_true_eq]
  constructor
  · rintro ⟨⟨⟨⟨⟨⟨⟨⟨⟨⟨⟨⟨hz, hd⟩, hc⟩, ho⟩, ha⟩, hl⟩, hr⟩, hlim⟩, hal⟩, hst⟩, hcal⟩, hm⟩, hh⟩
    exact ⟨hz, hd, hc, ho, ⟨ha, hl⟩, hal, ⟨hr, hlim, hm, hh⟩, hst, hcal, nofun, nofun, nofun⟩
  · intro h
    obtain ⟨ha, hl⟩ := h.rel
    obtain ⟨hr, hlim, hm, hh⟩ := h.rest
    exact ⟨⟨⟨⟨⟨⟨⟨⟨⟨⟨⟨⟨h.zones, h.doors⟩, h.classes⟩, h.recs⟩, ha⟩, hl⟩, hr⟩, hlim⟩, h.alarms⟩, h.link⟩, h.calendar⟩, hm⟩, hh⟩

theorem Agrees.full {s : State} (h : Agrees False s) (hp : ∀ k r, (k, r) ∈ s.adm.persons → (r.checkOk || r.suspect) = true)
    (hg : ∀ k r, (k, r) ∈ s.adm.grants → (r.checkOk || r.suspect) = true) (hm : s.ret.markerCheck = true) :
    Agrees True s :=
  ⟨h.zones, h.doors, h.classes, h.recs, h.rel, h.alarms, h.rest, h.link, h.calendar, fun _ => hp, fun _ => hg, fun _ => hm⟩

theorem Agrees.weaken {b : Prop} {s : State} (h : Agrees b s) : Agrees False s :=
  ⟨h.zones, h.doors, h.classes, h.recs, h.rel, h.alarms, h.rest, h.link, h.calendar, nofun, nofun, nofun⟩

theorem checksAgree_iff (s : State) : s.checksAgree = true ↔ Agrees True s := by
  unfold State.checksAgree
  simp only [Bool.and_eq_true, intact_iff, all_checkOk (p := fun r : PersonRec => r.checkOk || r.suspect),
    all_checkOk (p := fun r : GrantRec => r.checkOk || r.suspect)]
  exact ⟨fun ⟨⟨⟨h, hp⟩, hg⟩, hm⟩ => h.full hp hg hm, fun h => ⟨⟨⟨h.weaken, h.persons trivial⟩, h.grants trivial⟩, h.marker trivial⟩⟩

namespace Agrees

variable {b : Prop} {s t : State}

/-- The doors change, and nothing else. -/
theorem of_doors (h : Agrees b s) (ho : DoorsOnly s t) (hc : t.door.classes = s.door.classes)
    (hd : ∀ d r, (d, r) ∈ t.door.doors → r.checkOk = true) : Agrees b t :=
  ⟨ho.occ ▸ h.zones, hd, hc ▸ h.classes, ho.occ ▸ h.recs, ho.rel ▸ h.rel, ho.alm ▸ h.alarms, ho.alm ▸ h.rest,
    ho.link ▸ h.link, ho.ret ▸ h.calendar, ho.adm ▸ h.persons, ho.adm ▸ h.grants, ho.ret ▸ h.marker⟩

theorem of_kin (h : Agrees b s) (ho : DoorsOnly s t) (hc : t.door.classes = s.door.classes) (hd : DoorsKin s t) :
    Agrees b t := by
  refine of_doors h ho hc fun d q hq => ?_
  obtain ⟨r, hr, k⟩ := hd.kin hq
  exact k.checkOk (h.doors d r hr)

theorem setAlm (h : Agrees b s) {u : AlarmUnit} (hu : AlmTame s.alm u) : Agrees b (s.setAlm u) :=
  ⟨h.zones, h.doors, h.classes, h.recs, h.rel, hu.recs .checkOk h.alarms, hu.rest h.rest, h.link, h.calendar, h.persons,
    h.grants, h.marker⟩

theorem putDoor (h : Agrees b s) (d : Nat) {q : DoorRec} (hq : q.checkOk = true) : Agrees b (s.putDoor d q) := by
  refine of_doors h (.putDoor _ _ _) rfl fun k r hr => ?_
  rcases AlarmsGood.mem_put hr with ⟨_, rfl⟩ | hr
  · exact hq
  · exact h.doors k r hr

end Agrees

/-! ### The operations on doors leave the class records -/

theorem arbitrate_classes (s : State) (d : Nat) : (s.arbitrate d).door.classes = s.door.classes := by
  unfold State.arbitrate
  (repeat' split) <;> rfl

theorem beginCycle_classes (s : State) (d : Nat) (r : DoorRec) (xs : List Passage) :
    (s.beginCycle d r xs).door.classes = s.door.classes := by
  unfold State.beginCycle
  split
  · rfl
  · exact arbitrate_classes _ _

theorem releaseRequest_classes (s : State) (d : Nat) (xs : List Passage) :
    (s.releaseRequest d xs).1.door.classes = s.door.classes := by
  unfold State.releaseRequest
  split
  · rfl
  · split
    · rfl
    · exact beginCycle_classes _ _ _ _
    · split
      · rfl
      · exact beginCycle_classes _ _ _ _
    all_goals
      split
      · rfl
      · exact arbitrate_classes _ _

theorem reopen_classes (s : State) (d : Nat) (r : DoorRec) : (s.reopen d r).door.classes = s.door.classes := by
  unfold State.reopen
  (repeat' split) <;> rfl

theorem overriding_classes (s : State) (d : Nat) : (overriding s d).door.classes = s.door.classes := by
  unfold overriding
  split <;> rfl

theorem repair_classes (s : State) (d : Nat) (o n : Option Nat) : (s.repair d o n).door.classes = s.door.classes := by
  unfold State.repair State.dissolve
  (repeat' split) <;> rfl

/-! ### Agreement is closed under the edits of the operations -/

namespace Agrees

theorem closed (b : Prop) : Closed (fun _ s => Agrees b s) where
  alm := fun _ hu h => h.setAlm hu
  rel := fun _ hu h => ⟨h.zones, h.doors, h.classes, h.recs, hu h.rel, h.alarms, h.rest, h.link, h.calendar, h.persons,
    h.grants, h.marker⟩
  link := fun _ hu h => ⟨h.zones, h.doors, h.classes, h.recs, h.rel, h.alarms, h.rest, hu h.link, h.calendar, h.persons,
    h.grants, h.marker⟩
  ret := fun _ hc hm h => ⟨h.zones, h.doors, h.classes, h.recs, h.rel, h.alarms, h.rest, h.link, hc h.calendar, h.persons,
    h.grants, fun hb => hm (h.marker hb)⟩
  host := fun _ h => ⟨h.zones, h.doors, h.classes, h.recs, h.rel, h.alarms, h.rest, h.link, h.calendar, h.persons,
    h.grants, h.marker⟩
  free := fun _ h => ⟨h.zones, h.doors, h.classes, h.recs, h.rel, h.alarms, h.rest, h.link, h.calendar, h.persons,
    h.grants, h.marker⟩
  pending := fun _ h => ⟨h.zones, h.doors, h.classes, h.recs, h.rel, h.alarms, h.rest, h.link, h.calendar, h.persons,
    h.grants, h.marker⟩
  adm := fun _ hu h => ⟨h.zones, h.doors, h.classes, h.recs, h.rel, h.alarms, h.rest, h.link, h.calendar,
    fun hb => hu.agree (h.persons hb), fun hb => hu.grants (h.grants hb), h.marker⟩
  dropPerson := fun _ _ h => ⟨h.zones, h.doors, h.classes, h.recs, h.rel, h.alarms, h.rest, h.link, h.calendar,
    fun hb k r hr => h.persons hb k r (List.mem_filter.1 hr).1, h.grants, h.marker⟩
  zones := fun _ hu h => ⟨hu.agree h.zones, h.doors, h.classes, h.recs, h.rel, h.alarms, h.rest, h.link, h.calendar,
    h.persons, h.grants, h.marker⟩
  recs := fun _ hu h => ⟨h.zones, h.doors, h.classes, hu.agree h.recs, h.rel, h.alarms, h.rest, h.link, h.calendar,
    h.persons, h.grants, h.marker⟩
  classes := fun _ hu h => ⟨h.zones, h.doors, hu h.classes, h.recs, h.rel, h.alarms, h.rest, h.link, h.calendar,
    h.persons, h.grants, h.marker⟩
  forget := fun _ _ h => h
  know := fun _ _ h => h
  knowEntrant := fun _ _ _ h => h
  knowWaiter := fun _ _ _ h => h
  await := fun _ h => h
  awaited := fun _ _ h => h
  takeCycle := fun d h => of_kin h (.takeCycle _ d) rfl (.takeCycle _ d)
  putDoor := fun _ hr hp _ h => of_kin h (.putDoor _ _ _) rfl (.putDoor hr hp.kin)
  changeDoor := fun d _ hp _ h => of_kin h (.changeDoor _ _ _) rfl (.changeDoor _ d fun r => (hp r).kin)
  mapDoors := fun _ hp _ h => of_kin h rfl rfl (.mapDoors _ fun r => (hp r).kin)
  secure := fun _ hr hp _ _ h => of_kin h (.putDoor _ _ _) rfl (.putDoor hr hp.kin)
  arbitrate := fun d h => of_kin h (.arbitrate _ d) (arbitrate_classes _ d) (.arbitrate _ d)
  release := fun {_ _ d r} xs hd _ h => by
    refine of_doors h (.releaseRequest _ _ _) (releaseRequest_classes _ _ _) fun k q hq => ?_
    rcases (DoorsJoin.releaseRequest hd xs).joins hq with ⟨w, hw, kin⟩ | ⟨_, joins⟩
    · exact kin.checkOk (h.doors k w hw)
    · exact joins.checkOk (h.doors d r (Table.mem_of_find hd))
  beginWait := fun _ _ _ _ h => by
    refine of_doors h (.changeDoor _ _ _) rfl fun k q hq => ?_
    obtain ⟨r, hr, rfl | ⟨_, rfl⟩⟩ := mem_changeDoor hq
    · exact h.doors k q hr
    · exact h.doors k r hr
  reopen := fun hr _ h => of_kin h (.reopen _ _ _) (reopen_classes _ _ _) (.reopen hr)
  override := fun {_ s d _} _ _ h => by
    obtain ⟨u, hu, e⟩ := overrideRight_spec s d
    have h1 := of_kin h (overriding_only s d) (overriding_classes s d) (.overriding s d)
    rw [e]
    exact h1.setAlm ((overriding_only s d).alm ▸ hu)
  placeDoor := fun k x _ _ _ h =>
    of_kin (h.putDoor k (q := { cfg := x }) rfl) (.repair _ _ _ _) (repair_classes _ _ _ _) (.repair _ _ _ _)
  editDoor := fun {_ _ k q} x _ _ h =>
    of_kin (h.putDoor k (q := { q with cfg := x, suspect := false, checkOk := true }) rfl) (.repair _ _ _ _)
      (repair_classes _ _ _ _) (.repair _ _ _ _)
  dropDoor := fun _ _ _ h => of_kin h rfl rfl (.delDoor _ _)

theorem reset : Agrees True State.reset := (checksAgree_iff _).1 (by decide)

end Agrees

/-! ### The marks of a reading leave every item in agreement -/

/-- Marking zones changes the zone records alone. -/
theorem markZones_eq (s : State) :
    s.markZones = s.setOcc { zones := s.markZones.occ.zones, recs := s.occ.recs } := by
  have hfold : ∀ (l : List Nat) (t : State), l.foldl (fun s k => s.markZone k) t =
      t.setOcc { zones := (l.foldl (fun s k => s.markZone k) t).occ.zones, recs := t.occ.recs } := by
    intro l
    induction l with
    | nil => exact fun _ => rfl
    | cons k l ih =>
      intro t
      rw [List.foldl_cons, ih (t.markZone k)]
      rfl
  exact hfold _ s

theorem markZone_zones (s : State) (k : Nat) : (s.markZone k).occ.zones = s.occ.zones.change k (fun r =>
    if r.checkOk then r
    else { r with suspect := true, checkOk := true, orphan := State.orphaned s.occ.zones k r.cfg.parent }) := rfl

theorem markZones_agree {s : State} (h : s.occ.zones.wf = true) : ZonesAgree s.markZones.occ.zones := by
  refine foldl_marks (fun s : State => s.occ.zones) (fun r => r.checkOk = true) (fun s k => s.markZone k) ?_ _ s h
    fun j x hx => .inr (mem_keys hx)
  refine fun s k hw => ⟨markZone_zones s k ▸ Table.wf_change _ _ hw, fun j x hx => ?_⟩
  rw [markZone_zones] at hx
  rcases mem_change_cases hx with ⟨hne, hx⟩ | ⟨q, _, rfl⟩
  · exact .inr ⟨hne, x, hx, id⟩
  · left
    split
    · assumption
    · rfl

theorem isOrdinary_iff (n : Nat) : AlarmUnit.isOrdinary n = true ↔ n < 60 := by
  unfold AlarmUnit.isOrdinary
  exact decide_eq_true_iff

/-- The table of a count: one record of a class is stored, or one of it edited. -/
theorem count_recs (u : AlarmUnit) (now c : Nat) (f : Bool) : ∃ r, (u.count now c f).recs = u.recs.put (60 + c) r ∧
    (r.checkOk = true ∨ ∃ q, (60 + c, q) ∈ u.recs ∧ r.checkOk = q.checkOk) := by
  unfold AlarmUnit.count
  dsimp only
  split
  · exact ⟨_, rfl, .inl rfl⟩
  · rename_i q hq
    exact ⟨_, rfl, .inr ⟨q, Table.mem_of_find hq, rfl⟩⟩

/-- A record that fails is discarded and counted, or rewritten (R153). -/
theorem fail_marks (u : AlarmUnit) (now k : Nat) (hw : u.recs.wf = true) : (u.fail now k).recs.wf = true ∧
    ∀ j x, (j, x) ∈ (u.fail now k).recs →
      x.checkOk = true ∨ (j ≠ k ∧ ∃ y, (j, y) ∈ u.recs ∧ (y.checkOk = true → x.checkOk = true)) := by
  unfold AlarmUnit.fail
  split
  · rename_i hk
    refine ⟨hw, fun j x hx => .inr ⟨?_, x, hx, id⟩⟩
    rintro rfl
    rw [Table.find_of_mem hw hx] at hk
    cases hk
  · split
    · rename_i hord
      rw [isOrdinary_iff] at hord
      have hdel : (u.remove k).recs = u.recs.del k := rfl
      have hsub : ∀ {j x}, (j, x) ∈ (u.remove k).recs → j ≠ k ∧ (j, x) ∈ u.recs := by
        intro j x hx
        obtain ⟨hx, hne⟩ := List.mem_filter.1 (hdel ▸ hx)
        exact ⟨by simpa using hne, hx⟩
      obtain ⟨r, hr, hq⟩ := count_recs (u.remove k) now 0 true
      rw [hr]
      refine ⟨Table.wf_put _ _ (hdel ▸ Table.wf_del _ hw), fun j x hx => ?_⟩
      rcases AlarmsGood.mem_put hx with ⟨rfl, rfl⟩ | hx
      · rcases hq with hq | ⟨q, hq, e⟩
        · exact .inl hq
        · exact .inr ⟨by omega, q, (hsub hq).2, e.trans⟩
      · exact .inr ⟨(hsub hx).1, x, (hsub hx).2, id⟩
    · refine ⟨Table.wf_put _ _ hw, fun j x hx => ?_⟩
      rcases AlarmsGood.mem_put_wf hw hx with ⟨_, rfl⟩ | ⟨hne, hx⟩
      · exact .inl rfl
      · exact .inr ⟨hne, x, hx, id⟩

theorem testedRecords_agree {u : AlarmUnit} (now : Nat) (h : u.recs.wf = true) :
    AllAlarms (fun r => r.checkOk = true) (State.testedRecords u now).recs := by
  have hfold : (State.testedRecords u now).recs =
      (((u.recs.filter (fun p => !p.2.checkOk)).map (·.1)).foldl (fun v k => v.fail now k) u).recs := by
    rw [List.foldl_map]
    rfl
  intro n r hr
  rw [hfold] at hr
  refine foldl_marks (fun u : AlarmUnit => u.recs) (fun r => r.checkOk = true) (fun v k => v.fail now k)
    (fun v k hw => fail_marks v now k hw) _ u h (fun j x hx => ?_) n r hr
  cases hc : x.checkOk with
  | true => exact .inl rfl
  | false => exact .inr (List.mem_map.2 ⟨(j, x), List.mem_filter.2 ⟨hx, by simp [hc]⟩, rfl⟩)

/-- What holds of an edited element holds of every element of a vector all of which have been edited. -/
theorem mapVec_all {α : Type} {n k : Nat} {f : α → α} {v : Vector α n} {p : α → Prop} (hf : ∀ x, p (f x)) (d : α)
    (hk : k < n) : p (((mapVec f v)[k]?).getD d) := by
  rw [mapVec_getD hk]
  exact hf _

theorem mem_map_snd {α : Type} {t : Table α} {f : α → α} {k : Nat} {x : α} (h : (k, x) ∈ t.map (fun p => (p.1, f p.2))) :
    ∃ r, (k, r) ∈ t ∧ x = f r := by
  obtain ⟨⟨j, r⟩, hr, e⟩ := List.mem_map.1 h
  cases e
  exact ⟨r, hr, rfl⟩

/-- The marks leave every item in agreement, but for person and grant records and the marker. -/
theorem markFailed_agrees {s : State} (hz : s.occ.zones.wf = true) (ha : s.alm.recs.wf = true) :
    Agrees False s.markFailed := by
  have hzones : ZonesAgree (s.setAlm (State.testedAlarms s.alm s.now)).markZones.occ.zones := markZones_agree hz
  unfold State.markFailed
  rw [markZones_eq]
  refine ⟨hzones, fun d r hr => ?_, fun k hk => ?_, fun i r hr => ?_, ⟨fun k hk => ?_, fun k hk => ?_⟩,
    testedRecords_agree s.now ha, ⟨fun k hk => ?_, rfl, rfl, rfl⟩, fun a r hr => ?_, rfl, nofun, nofun, nofun⟩
  · obtain ⟨q, _, rfl⟩ := mem_map_snd hr
    exact testedDoor_checkOk q
  · exact mapVec_all (p := fun r : ClassRec => r.checkOk = true) testedClass_checkOk _ hk
  · obtain ⟨q, _, rfl⟩ := mem_map_snd hr
    exact testedOcc_checkOk q
  · exact mapVec_all (p := fun r : AgentRec => r.checkOk = true) testedAgent_checkOk _ hk
  · exact mapVec_all (p := fun r : LogicRec => r.checkOk = true) testedLogic_checkOk _ hk
  · exact mapVec_all (v := s.alm.routes) (p := fun r => r.checkOk = true) AlmTame.testedRoute_checkOk _ hk
  · obtain ⟨q, _, rfl⟩ := mem_map_snd hr
    exact testedStation_checkOk q

open Kept in
theorem readTables_agrees {s : State} (hz : s.occ.zones.wf = true) (ha : s.alm.recs.wf = true) :
    Agrees False s.readTables := by
  unfold State.readTables
  split
  · rename_i h
    exact (intact_iff s).1 h
  · have h : Kept (fun _ s => Agrees False s) {} s.markFailed := ⟨Agrees.closed False, markFailed_agrees hz ha⟩
    exact (finish (recomputeFor (conclude (syncEntries (tellFailed h s))) _)).holds

/-! ### The full check of a warm restart -/

theorem testPerson_grants (s : State) (k : Nat) : (s.testPerson k).adm.grants = s.adm.grants := by
  unfold State.testPerson
  (repeat' split) <;> rfl

theorem testPersons_grants (s : State) (l : List Nat) : (s.testPersons l).adm.grants = s.adm.grants := by
  unfold State.testPersons
  induction l generalizing s with
  | nil => rfl
  | cons k l ih => exact (ih _).trans (testPerson_grants s k)

theorem testGrant_persons (s : State) (k : Nat) : (s.testGrant k).adm.persons = s.adm.persons := by
  unfold State.testGrant
  (repeat' split) <;> rfl

theorem testGrants_persons (s : State) (l : List Nat) :
    (l.foldl (fun s k => s.testGrant k) s).adm.persons = s.adm.persons := by
  induction l generalizing s with
  | nil => rfl
  | cons k l ih => exact (ih _).trans (testGrant_persons s k)

/-- The records of a table after one has been tested and stored suspect, or left. -/
theorem marks_of_put {α : Type} {t t' : Table α} {Good : α → Prop} {k : Nat} (hw : t.wf = true)
    (h : (t' = t ∧ ∀ r, t.find k = some r → Good r) ∨ ∃ w, t' = t.put k w ∧ Good w) : t'.wf = true ∧
      ∀ j x, (j, x) ∈ t' → Good x ∨ (j ≠ k ∧ ∃ y, (j, y) ∈ t ∧ (Good y → Good x)) := by
  rcases h with ⟨rfl, hk⟩ | ⟨w, rfl, hg⟩
  · refine ⟨hw, fun j x hx => ?_⟩
    by_cases hj : j = k
    · subst hj
      exact .inl (hk x (Table.find_of_mem hw hx))
    · exact .inr ⟨hj, x, hx, id⟩
  · refine ⟨Table.wf_put _ _ hw, fun j x hx => ?_⟩
    rcases AlarmsGood.mem_put_wf hw hx with ⟨_, rfl⟩ | ⟨hne, hx⟩
    · exact .inl hg
    · exact .inr ⟨hne, x, hx, id⟩

theorem testPersons_agree {s : State} (h : s.adm.persons.wf = true) {l : List Nat}
    (hl : ∀ k r, (k, r) ∈ s.adm.persons → k ∈ l) :
    ∀ k r, (k, r) ∈ (s.testPersons l).adm.persons → (r.checkOk || r.suspect) = true := by
  refine foldl_marks (fun s : State => s.adm.persons) (fun r => (r.checkOk || r.suspect) = true)
    (fun s k => s.testPerson k) ?_ _ s h fun j x hx => .inr (hl j x hx)
  refine fun s k hw => marks_of_put hw ?_
  unfold State.testPerson
  split
  · rename_i hk
    exact .inl ⟨rfl, fun r hr => by rw [show s.adm.persons.find k = none from hk] at hr; cases hr⟩
  · rename_i r hk
    split
    · rename_i hg
      refine .inl ⟨rfl, fun q hq => ?_⟩
      rw [show s.adm.persons.find k = some r from hk] at hq
      cases hq
      exact hg
    · exact .inr ⟨_, rfl, by simp⟩

theorem testGrants_agree {s : State} (h : s.adm.grants.wf = true) {l : List Nat}
    (hl : ∀ k r, (k, r) ∈ s.adm.grants → k ∈ l) :
    ∀ k r, (k, r) ∈ (l.foldl (fun s k => s.testGrant k) s).adm.grants → (r.checkOk || r.suspect) = true := by
  refine foldl_marks (fun s : State => s.adm.grants) (fun r => (r.checkOk || r.suspect) = true)
    (fun s k => s.testGrant k) ?_ _ s h fun j x hx => .inr (hl j x hx)
  refine fun s k hw => marks_of_put hw ?_
  unfold State.testGrant
  split
  · rename_i hk
    exact .inl ⟨rfl, fun r hr => by rw [show s.adm.grants.find k = none from hk] at hr; cases hr⟩
  · rename_i r hk
    split
    · rename_i hg
      refine .inl ⟨rfl, fun q hq => ?_⟩
      rw [show s.adm.grants.find k = some r from hk] at hq
      cases hq
      exact hg
    · exact .inr ⟨_, rfl, by simp⟩

theorem testGrants_ret (s : State) (l : List Nat) : (l.foldl (fun s k => s.testGrant k) s).ret = s.ret := by
  induction l generalizing s with
  | nil => rfl
  | cons k l ih => exact (ih _).trans (State.testGrant_ret s k)

open Kept in
theorem fullCheck_agrees {s : State} (h : s.TablesRising) (hm : s.ret.markerCheck = true) : Agrees True s.fullCheck := by
  have hadm : s.markFailed.adm = s.adm := by
    unfold State.markFailed
    rw [markZones_eq]
    rfl
  have hret : s.markFailed.ret.markerCheck = s.ret.markerCheck := by
    unfold State.markFailed
    rw [markZones_eq]
    rfl
  have h0 : Kept (fun _ s => Agrees False s) {} s.markFailed :=
    ⟨Agrees.closed False, markFailed_agrees h.zones h.alarms⟩
  have h1 : Kept (fun _ s => Agrees False s) {}
      (s.adm.grants.keys.foldl (fun s k => s.testGrant k) (s.markFailed.testPersons s.adm.persons.keys)) :=
    Kept.foldl (fun _ k ht => testGrant ht k) _ (testPersons h0 _)
  have hpersons := testPersons_agree (s := s.markFailed) (hadm ▸ h.persons) (l := s.adm.persons.keys)
    fun k r hr => mem_keys (hadm ▸ hr)
  have hgrants := testGrants_agree (s := s.markFailed.testPersons s.adm.persons.keys) (l := s.adm.grants.keys)
    (by rw [testPersons_grants, hadm]; exact h.grants)
    fun k r hr => mem_keys (by rw [testPersons_grants, hadm] at hr; exact hr)
  have h2 : Agrees True
      (s.adm.grants.keys.foldl (fun s k => s.testGrant k) (s.markFailed.testPersons s.adm.persons.keys)) :=
    h1.holds.full (by rw [testGrants_persons]; exact hpersons) hgrants
      (by rw [testGrants_ret, State.testPersons_ret, hret]; exact hm)
  exact (tellFailed (P := fun _ s => Agrees True s) (sc := {}) ⟨Agrees.closed True, h2⟩ s).holds

/-- Settles O11: agreement is closed under every edit of an operation, and the marks of a reading restore it. -/
theorem stepKeepsChecks : Obligations.StepKeepsChecks := by
  refine ⟨fun s t hs hd h => ?_, fun s hs => ?_, fun s hs hm => ?_, fun s => ?_⟩
  · exact (checksAgree_iff t).2
      (step_keeps_of_undamaging (Agrees.closed True) Agrees.reset hd ((checksAgree_iff s).1 hs) h)
  · exact (intact_iff _).2 (readTables_agrees hs.zones hs.alarms)
  · have h : Kept (fun _ s => Agrees True s) {} s.fullCheck := ⟨Agrees.closed True, fullCheck_agrees hs hm⟩
    exact (checksAgree_iff _).2 (Kept.warmRestart_of_fullCheck h).holds
  · unfold State.checksAgree
    simp only [Bool.and_eq_true, List.all_eq_true, Bool.or_eq_true, and_assoc]

end Sys2Proof.Machine

/-! ## The queue, the idle tick, and a cold start -/

namespace Sys2Proof.Machine

/-- Settles O1: a step at a queue that is not empty is `exec` of its front. -/
theorem stepTakesFront : Obligations.StepTakesFront := by
  intro i rest s
  rfl

/-- Settles O2: a step at an empty queue is the idle tick. -/
theorem idleTick : Obligations.IdleTick := by
  intro s hq
  unfold step
  rw [hq]
  rfl

theorem heldHasNone_of_no_doors {s : State} (h : s.door.doors = []) : s.HeldHasNone := by
  refine fun z _ => inFlight_eq_zero.2 fun d r hr _ => ?_
  rw [h] at hr
  cases hr

theorem timesFit_reset : State.reset.TimesFit := by
  intro a
  by_cases h : a < 8
  · have hall : ∀ a < 8, State.reset.agent a = { cfg := {}, cw := 0x00020000#32 } := by decide
    rw [hall a h]
    exact ⟨nofun, nofun, nofun⟩
  · rw [State.agent_above _ (by omega)]
    exact ⟨nofun, nofun, nofun⟩

theorem sound_reset : State.reset.Sound :=
  ⟨⟨⟨rfl, rfl, rfl, rfl, rfl, rfl, rfl⟩, ⟨Nat.zero_le _, trivial⟩⟩,
    fun _ _ _ _ hi => (List.not_mem_nil hi).elim,
    fun i j x y hi hj _ _ _ _ => by cases List.mem_singleton.1 hi; cases List.mem_singleton.1 hj; rfl, duressFirst_reset⟩

/-- Settles O5: the fields by evaluation, and the invariants on tables that are empty but for CLOCK_UNSET. -/
theorem coldStartState : Obligations.ColdStartState := by
  refine ⟨⟨rfl, rfl, rfl, rfl, rfl, rfl, rfl, rfl, by decide, by decide, by decide, rfl, ⟨_, rfl, rfl, rfl, rfl⟩, rfl, rfl,
    rfl, rfl, rfl, rfl, rfl, rfl, rfl, rfl⟩, sound_reset, ?_, ?_, heldHasNone_of_no_doors rfl, ?_, timesFit_reset,
    by decide⟩
  · exact fun _ _ hr => (List.not_mem_nil hr).elim
  · exact fun d p r q _ hr => by cases hr
  · exact ⟨fun _ _ hr => (List.not_mem_nil hr).elim, fun _ _ _ _ _ hr => (List.not_mem_nil hr).elim,
      fun _ _ _ hr => (List.not_mem_nil hr).elim⟩

end Sys2Proof.Machine

/-! ## A door's cycle and right fit its state (R19) -/

namespace Sys2Proof.Machine

/-- Every door fits, but for one whose completion has not yet taken its cycle. -/
structure AllFit (c : Scope) (s : State) : Prop where
  rising : s.door.doors.wf = true
  fits   : ∀ d r, s.door? d = some r → NearlyFits (c.but = some d) r

theorem Fits.nearly {b : Prop} {r : DoorRec} (h : Fits r) : NearlyFits b r := .inl h

/-- A door that is not SECURED fits. -/
theorem NearlyFits.fits {b : Prop} {r : DoorRec} (h : NearlyFits b r) (hs : r.state ≠ .secured) : Fits r :=
  h.resolve_right fun ⟨_, hr, _⟩ => hs hr

theorem NearlyFits.weaken {b e : Prop} {r : DoorRec} (h : NearlyFits b r) (hb : b → e) : NearlyFits e r :=
  h.imp id fun ⟨h1, h2⟩ => ⟨hb h1, h2⟩

/-- A door in a state in which none may hold the right does not hold it. -/
theorem NearlyFits.right_false {b : Prop} {r : DoorRec} (h : NearlyFits b r) (hs : State.mayHold r.state = false) :
    r.right = false := by
  rcases h with ⟨_, hr⟩ | ⟨_, _, hr⟩
  · exact Bool.eq_false_iff.2 fun h => by rw [hr h] at hs; cases hs
  · exact hr

/-- A door that gives up the right, or has no more a partner to share it with. -/
theorem NearlyFits.drop_right {b : Prop} {r q : DoorRec} (h : NearlyFits b r) (hs : q.state = r.state)
    (hc : q.cycle = r.cycle) (hr : q.right = false) : NearlyFits b q := by
  rcases h with ⟨h, _⟩ | ⟨hb, h, _⟩
  · refine .inl ⟨?_, by simp [hr]⟩
    unfold State.cycleFits at h ⊢
    rw [hs, hc]
    exact h
  · exact .inr ⟨hb, hs.trans h, hr⟩

/-- A door that begins a lead with a cycle (R22). -/
theorem beginLead_fits (base : Nat) {r : DoorRec} {c : Cycle} (h : r.cycle = some c) : Fits (beginLead base r) := by
  unfold beginLead
  rw [h]
  dsimp only
  split <;> exact ⟨rfl, fun _ => rfl⟩

/-- A door in INTERLOCK_WAIT has a cycle. -/
theorem Fits.cycle {r : DoorRec} (h : Fits r) (hs : r.state ≠ .secured) (hu : r.state ≠ .unknown) :
    ∃ c, r.cycle = some c := by
  have := h.1
  unfold State.cycleFits at this
  split at this <;> first | contradiction | exact Option.isSome_iff_exists.1 this

theorem idleDoor_iff (r : DoorRec) :
    State.idleDoor r = true ↔ (r.state = .secured ∨ r.state = .unknown) ∧ r.cycle = none ∧ r.pairWait = none := by
  simp [State.idleDoor, State.atRest, and_assoc]

namespace AllFit

variable {c : Scope} {s t : State}

theorem of_doors (h : AllFit c s) (hd : t.door.doors = s.door.doors) : AllFit c t := by
  refine ⟨hd ▸ h.rising, fun d r hr => h.fits d r ?_⟩
  unfold State.door? at hr ⊢
  rw [← hd]
  exact hr

theorem putDoor (h : AllFit c s) (d : Nat) {q : DoorRec} (hq : NearlyFits (c.but = some d) q) :
    AllFit c (s.putDoor d q) := by
  refine ⟨Table.wf_put _ _ h.rising, fun e r hr => ?_⟩
  rw [State.door?_putDoor] at hr
  split at hr
  · rename_i he
    cases hr
    exact he ▸ hq
  · exact h.fits e r hr

theorem changeDoor (h : AllFit c s) (d : Nat) {f : DoorRec → DoorRec}
    (hf : ∀ r, s.door? d = some r → NearlyFits (c.but = some d) (f r)) : AllFit c (s.changeDoor d f) := by
  refine ⟨wf_changeDoor d f h.rising, fun e r hr => ?_⟩
  rw [State.door?_changeDoor] at hr
  split at hr
  · rename_i he
    obtain ⟨q, hq, rfl⟩ := Option.map_eq_some_iff.1 hr
    subst he
    exact hf q hq
  · exact h.fits e r hr

/-- An edit that keeps a door fit whatever it was. -/
theorem changeDoor' (h : AllFit c s) (d : Nat) {f : DoorRec → DoorRec}
    (hf : ∀ b r, NearlyFits b r → NearlyFits b (f r)) : AllFit c (s.changeDoor d f) :=
  changeDoor h d fun r hr => hf _ r (h.fits d r hr)

theorem delDoor (h : AllFit c s) (k : Nat) :
    AllFit c (s.setDoor { s.door with doors := s.door.doors.del k }) := by
  refine ⟨Table.wf_del _ h.rising, fun d r hr => h.fits d r ?_⟩
  unfold State.door? at hr ⊢
  dsimp only [State.setDoor_door] at hr
  rw [Table.find_del] at hr
  split at hr
  · cases hr
  · exact hr

theorem mapDoors (h : AllFit c s) {f : DoorRec → DoorRec} (hf : ∀ r, Yields r (f r)) :
    AllFit c (s.setDoor { s.door with doors := s.door.doors.map (fun p => (p.1, f p.2)) }) := by
  refine ⟨Table.wf_map _ (fun _ => rfl) h.rising, fun d r hr => ?_⟩
  obtain ⟨q, hq, rfl⟩ := mem_map_snd (Table.mem_of_find hr)
  exact (hf q).fits _ (h.fits d q (Table.find_of_mem h.rising hq))

/-! ### The arbiter and release requests -/

theorem giveRight (h : AllFit c s) {d p : Nat} (hd : ∀ r, s.door? d = some r → r.cycle.isSome = true) :
    AllFit c (s.giveRight d p) := by
  have h1 := changeDoor' h p (f := fun q => { q with right := false }) fun _ _ k => k.drop_right rfl rfl rfl
  refine changeDoor h1 d fun r hr => ?_
  rw [State.door?_changeDoor] at hr
  have hc : r.cycle.isSome = true := by
    split at hr
    · obtain ⟨q, hq, rfl⟩ := Option.map_eq_some_iff.1 hr
      exact hd q hq
    · exact hd r hr
  obtain ⟨e, he⟩ := Option.isSome_iff_exists.1 hc
  exact (beginLead_fits _ (r := { r with right := true }) he).nearly

theorem mayTake_iff (r q : DoorRec) : State.mayTake r q = true ↔ r.state = .interlockWait ∧ r.cycle.isSome = true ∧
    closedForPair q.state = true ∧ (q.right = false ∨ q.state = .relocking) := by
  simp [State.mayTake, and_assoc]

theorem arbitrate (h : AllFit c s) (d : Nat) : AllFit c (s.arbitrate d) := by
  unfold State.arbitrate
  split
  · exact h
  · rename_i r hr
    split
    · split
      · rename_i hw
        refine changeDoor h d fun q hq => ?_
        rw [hr] at hq
        cases hq
        obtain ⟨e, he⟩ := ((h.fits d r hr).fits (by simp [hw])).cycle (by simp [hw]) (by simp [hw])
        exact (beginLead_fits _ he).nearly
      · exact h
    · rename_i p _
      split
      · exact h
      · rename_i q hq
        have give : State.mayTake r q = true → AllFit c (s.giveRight d p) := fun hm =>
          giveRight h fun w hw => by rw [hr] at hw; cases hw; exact ((mayTake_iff r q).1 hm).2.1
        have gave : State.mayTake q r = true → AllFit c (s.giveRight p d) := fun hm =>
          giveRight h fun w hw => by rw [hq] at hw; cases hw; exact ((mayTake_iff q r).1 hm).2.1
        split
        · exact give ‹_›
        · exact gave ‹_›
        · exact h
        · split
          · split
            · exact give ‹_›
            · exact gave ‹_›
          · exact h

/-- A cycle begins at a door without the right (R21). -/
theorem beginCycle (h : AllFit c s) (d : Nat) {r : DoorRec} (hr : r.right = false) (xs : List Passage) :
    AllFit c (s.beginCycle d r xs) := by
  unfold State.beginCycle
  split
  · exact putDoor h d (beginLead_fits _ (r := { r with cycle := some (s.newCycle r xs) }) rfl).nearly
  · exact arbitrate (putDoor h d (Fits.nearly ⟨rfl, by simp [hr]⟩)) d

theorem releaseRequest (h : AllFit c s) (d : Nat) (xs : List Passage) : AllFit c (s.releaseRequest d xs).1 := by
  unfold State.releaseRequest
  split
  · exact h
  rename_i r hr
  have hfit := h.fits d r hr
  have join : r.state ≠ .secured → r.state ≠ .unknown →
      AllFit c (match joinCycle (r.cycle.getD (s.newCycle r [])) xs with
        | none => (s, Joined.full)
        | some c => ((s.putDoor d { r with cycle := some c }).arbitrate d, Joined.taken)).1 := by
    intro hs hu
    split
    · exact h
    · rename_i e _
      obtain ⟨f, hf⟩ := (hfit.fits hs).cycle hs hu
      refine arbitrate (putDoor h d ((Yields.of_same (r := r) (q := { r with cycle := some e }) rfl rfl ?_).fits _ hfit)) d
      rw [hf]
      rfl
  split
  case h_1 => exact h
  case h_2 hs => exact beginCycle h d (hfit.right_false (by rw [hs]; rfl)) xs
  case h_3 hs =>
    split
    · exact putDoor h d (beginLead_fits _ (r := { r with cycle := some (s.newCycle r xs) }) rfl).nearly
    · exact beginCycle h d (Bool.eq_false_iff.2 ‹_›) xs
  all_goals
    rename_i hs
    exact join (by simp [hs]) (by simp [hs])

/-! ### Contact openings, overrides and completions -/

/-- A door that reopens is OPEN with its cycle (R25, R28). -/
theorem opened_fits {r q : DoorRec} (h : Fits r) (hs : r.state = .relocking) {g : Cycle → Cycle} (hq : q.state = .opened)
    (hc : q.cycle = r.cycle.map g) : Fits q := by
  obtain ⟨e, he⟩ := h.cycle (by simp [hs]) (by simp [hs])
  refine ⟨?_, fun _ => by rw [hq]; rfl⟩
  simp [State.cycleFits, hq, hc, he]

/-- A door that waits again for the right (R28). -/
theorem waits_fits {r q : DoorRec} (h : r.cycle.isSome = true) {g : Cycle → Cycle} (hq : q.state = .interlockWait)
    (hc : q.cycle = r.cycle.map g) (hr : q.right = false) : Fits q := by
  refine ⟨?_, by simp [hr]⟩
  simp [State.cycleFits, hq, hc, h]

theorem reopen (h : AllFit c s) {d : Nat} {r : DoorRec} (hr : s.door? d = some r) (hs : r.state = .relocking) :
    AllFit c (s.reopen d r) := by
  have hfit := (h.fits d r hr).fits (by simp [hs])
  have hopen : ∀ b, Fits { r with
      state := .opened, right := b,
      cycle := r.cycle.map (fun c => { c with relockEnd := none, heldEnd := some (s.base + c.vals.heldOpen * 100) }) } :=
    fun b => opened_fits hfit hs rfl rfl
  unfold State.reopen
  dsimp only
  split
  · exact putDoor h d (hopen r.right).nearly
  · split
    · exact putDoor h d (hopen r.right).nearly
    · rename_i p _ _ q hq
      split
      · exact putDoor h d (hopen r.right).nearly
      · split
        · rename_i hrel
          obtain ⟨_, hqs⟩ : q.right = true ∧ q.state = .releasing := by simpa using hrel
          obtain ⟨e, he⟩ := ((h.fits p q hq).fits (by simp [hqs])).cycle (by simp [hqs]) (by simp [hqs])
          refine putDoor (putDoor h p ?_) d (hopen true).nearly
          exact (waits_fits (r := q) (by rw [he]; rfl) rfl rfl rfl).nearly
        · split
          · exact putDoor h d (hopen r.right).nearly
          · exact putDoor h d (hopen true).nearly

/-- A door without cycle, state and right fits (R29). -/
theorem rest_fits (r : DoorRec) : Fits { r with state := .secured, cycle := none, right := false } := ⟨rfl, nofun⟩

theorem overridden_fits {b : Prop} {q : DoorRec} (h : NearlyFits b q) : NearlyFits b (State.overridden q) := by
  unfold State.overridden
  split
  · exact (rest_fits q).nearly
  · dsimp only
    split
    · exact (rest_fits q).nearly
    · exact Fits.nearly ⟨rfl, nofun⟩
  · exact h.drop_right rfl rfl rfl

theorem enterReleased_fits {r : DoorRec} (h : r.cycle.isSome = true) : Fits (enterReleased r) := by
  refine ⟨?_, fun _ => rfl⟩
  simp [State.cycleFits, enterReleased, h]

theorem overriding (h : AllFit c s) {d : Nat} {r : DoorRec} (hr : s.door? d = some r) (hs : r.state = .interlockWait) :
    AllFit c (Machine.overriding s d) := by
  obtain ⟨e, he⟩ := ((h.fits d r hr).fits (by simp [hs])).cycle (by simp [hs]) (by simp [hs])
  have hsome : r.cycle.isSome = true := by rw [he]; rfl
  unfold Machine.overriding
  split
  · refine changeDoor h d fun w hw => ?_
    rw [hr] at hw
    cases hw
    exact (enterReleased_fits hsome).nearly
  · rename_i p hp
    obtain ⟨_, _, _, _, _, _, hne⟩ := partnerOf_eq_some.1 hp
    have h1 := changeDoor' h p (f := State.overridden) fun _ _ => overridden_fits
    refine changeDoor h1 d fun w hw => ?_
    rw [State.door?_changeDoor, if_neg hne.symm, hr] at hw
    cases hw
    exact (enterReleased_fits (r := { r with right := true }) hsome).nearly

/-- A door whose completion takes its cycle fits (R24). -/
theorem taken_fits {b : Prop} {r : DoorRec} (h : NearlyFits b r) : Fits (if r.state = .secured then { r with cycle := none }
    else { r with cycle := r.cycle.map (fun c => { c with passages := [], unlisted := false, exitDue := none }) }) := by
  split
  · rename_i hs
    have hright := h.right_false (by rw [hs]; rfl)
    exact ⟨by simp [State.cycleFits, hs], by simp [hright]⟩
  · rename_i hs
    have hfit := h.fits hs
    refine (((Yields.of_same (r := r) (q := { r with cycle := r.cycle.map _ }) rfl rfl ?_).fits False hfit.nearly)
      ).resolve_right (·.1)
    simp

theorem takeCycle {d : Nat} {k : List Nat} (h : AllFit { but := some d, known := k } s) :
    AllFit { known := k } (s.takeCycle d) := by
  refine ⟨wf_changeDoor d _ h.rising, fun e r hr => ?_⟩
  unfold State.takeCycle at hr
  rw [State.door?_changeDoor] at hr
  split at hr
  · rename_i he
    obtain ⟨q, hq, rfl⟩ := Option.map_eq_some_iff.1 hr
    exact (taken_fits (h.fits e q hq)).nearly
  · rename_i he
    exact (h.fits e r hr).weaken fun hb => absurd (Option.some.inj hb).symm he

/-- The scope tells of no door that a completion waits at. -/
theorem scope {e : Scope} (h : AllFit c s) (hb : ∀ d, c.but = some d → e.but = some d) : AllFit e s :=
  ⟨h.rising, fun d r hr => (h.fits d r hr).weaken (hb d)⟩

theorem awaited {d : Nat} {k : List Nat} (hc : ∀ r, s.door? d = some r → r.cycle = none)
    (h : AllFit { but := some d, known := k } s) : AllFit { known := k } s := by
  refine ⟨h.rising, fun e r hr => ?_⟩
  rcases h.fits e r hr with hf | ⟨hb, hs, hright⟩
  · exact hf.nearly
  · cases hb
    exact Fits.nearly ⟨by simp [State.cycleFits, hs, hc r hr], by simp [hright]⟩

/-! ### Door records -/

theorem setPartner (h : AllFit c s) (n : Nat) (o : Option Nat) : AllFit c (s.setPartner n o) :=
  changeDoor' h n fun _ _ k => k.drop_right rfl rfl rfl

theorem rightOnPairing_fits {b : Prop} {r : DoorRec} (h : NearlyFits b r) (o : Option Nat) :
    NearlyFits b { r with right := State.rightOnPairing r o } := by
  rcases h with ⟨h, _⟩ | ⟨hb, hs, _⟩
  · refine .inl ⟨h, fun hr => ?_⟩
    obtain ⟨_, hs⟩ : o.isSome = true ∧ (r.state = .releasing ∨ r.state = .released) := by
      simpa [State.rightOnPairing] using hr
    rcases hs with hs | hs <;> (dsimp only; rw [hs]; rfl)
  · exact .inr ⟨hb, hs, by simp [State.rightOnPairing, hs]⟩

theorem dissolve (h : AllFit c s) (d : Nat) (o : Option Nat) : AllFit c (s.dissolve d o) := by
  unfold State.dissolve
  split
  · exact h
  · split
    · exact h
    · split
      · exact setPartner h _ _
      · exact h

theorem repair (h : AllFit c s) (d : Nat) (o n : Option Nat) : AllFit c (s.repair d o n) := by
  unfold State.repair
  split
  · exact h
  · dsimp only
    split
    · exact changeDoor' (dissolve h d o) d fun _ _ k => rightOnPairing_fits k _
    · exact changeDoor' (setPartner (dissolve h d o) _ _) d fun _ _ k => rightOnPairing_fits k _

/-- That every door fits is closed under the edits of the operations. -/
theorem closed : Closed AllFit where
  alm := fun _ _ h => of_doors h rfl
  rel := fun _ _ h => of_doors h rfl
  link := fun _ _ h => of_doors h rfl
  ret := fun _ _ _ h => of_doors h rfl
  host := fun _ h => of_doors h rfl
  free := fun _ h => of_doors h rfl
  pending := fun _ h => of_doors h rfl
  adm := fun _ _ h => of_doors h rfl
  dropPerson := fun _ _ h => of_doors h rfl
  zones := fun _ _ h => of_doors h rfl
  recs := fun _ _ h => of_doors h rfl
  classes := fun _ _ h => of_doors h rfl
  forget := fun _ _ h => scope h fun _ => id
  know := fun _ _ h => scope h fun _ => id
  knowEntrant := fun _ _ _ h => scope h fun _ => id
  knowWaiter := fun _ _ _ h => scope h fun _ => id
  await := fun _ h => scope h fun _ hb => by cases hb
  awaited := fun _ hc h => awaited hc h
  takeCycle := fun _ h => takeCycle h
  putDoor := fun {_ _ d r} q hr _ hy h => putDoor h d (hy.fits _ (h.fits d r hr))
  changeDoor := fun d _ _ hy h => changeDoor h d fun r hr => (hy r hr).fits _ (h.fits d r hr)
  mapDoors := fun _ _ hy h => mapDoors h hy
  secure := fun {_ _ d _} q _ _ hs hr h => putDoor h d (.inr ⟨rfl, hs, hr⟩)
  arbitrate := fun d h => arbitrate h d
  release := fun {_ _ d _} xs _ _ h => releaseRequest h d xs
  beginWait := fun {_ _ d _} w _ _ _ h => changeDoor' h d fun _ r k =>
    (Yields.of_same (r := r) (q := { r with pairWait := some w }) rfl rfl rfl).fits _ k
  reopen := fun hr hs h => reopen h hr hs
  override := fun {_ s d _} hr hs h => by
    obtain ⟨u, _, e⟩ := overrideRight_spec s d
    rw [e]
    exact of_doors (overriding h hr hs) rfl
  placeDoor := fun k x _ _ _ h => repair (putDoor h k (q := { cfg := x }) (Fits.nearly ⟨rfl, nofun⟩)) _ _ _
  editDoor := fun {_ _ k q} x hq _ h => repair (putDoor h k ((Yields.of_same (r := q)
    (q := { q with cfg := x, suspect := false, checkOk := true }) rfl rfl rfl).fits _ (h.fits k q hq))) _ _ _
  dropDoor := fun {_ _ k _} _ _ _ h => delDoor h k

/-- Damage changes no door's state, cycle and right. -/
theorem damageOne (h : AllFit c s) (d : Damage) : AllFit c (s.damageOne d) := by
  unfold State.damageOne
  cases d with
  | door k x =>
    exact changeDoor' h k fun _ r k => (Yields.of_same (r := r) (q := { r with cfg := x, checkOk := r.suspect })
      rfl rfl rfl).fits _ k
  | person | grant =>
    dsimp only
    split
    · exact h
    · exact of_doors h rfl
  | _ => exact of_doors h rfl

theorem reset : AllFit {} State.reset := ⟨rfl, fun _ _ hr => (List.not_mem_nil (Table.mem_of_find hr)).elim⟩

end AllFit

theorem allFit_iff {s : State} (hw : s.door.doors.wf = true) : AllFit {} s ↔ s.CyclesFit := by
  constructor
  · exact fun h d r hr => (h.fits d r (Table.find_of_mem hw hr)).resolve_right fun ⟨hb, _⟩ => by cases hb
  · exact fun h => ⟨hw, fun d r hr => Fits.nearly (h d r (Table.mem_of_find hr))⟩

end Sys2Proof.Machine

/-! ## The open right of a vestibule pair (R27) -/

namespace Sys2Proof.Machine

/-- The law of the open right for two doors: one that releases holds it and the other does not release, and never do both
hold it. -/
structure PairLaw (r q : DoorRec) : Prop where
  left  : State.releases r = true → r.right = true ∧ State.releases q = false
  right : State.releases q = true → q.right = true ∧ State.releases r = false
  one   : ¬ (r.right = true ∧ q.right = true)

theorem PairLaw.symm {r q : DoorRec} (h : PairLaw r q) : PairLaw q r := ⟨h.right, h.left, fun ⟨a, b⟩ => h.one ⟨b, a⟩⟩

/-- Two doors of a state are a pair. -/
structure Paired (s : State) (d p : Nat) (r q : DoorRec) : Prop where
  first  : s.door? d = some r
  second : s.door? p = some q
  names  : r.cfg.partner = some p
  back   : q.cfg.partner = some d
  ne     : p ≠ d

theorem Paired.symm {s : State} {d p : Nat} {r q : DoorRec} (h : Paired s d p r q) : Paired s p d q r :=
  ⟨h.second, h.first, h.back, h.names, h.ne.symm⟩

theorem paired_of_partnerOf {s : State} {d p : Nat} {r q : DoorRec} (h : s.partnerOf d = some p) (hr : s.door? d = some r)
    (hq : s.door? p = some q) : Paired s d p r q := by
  obtain ⟨r', q', hr', hq', hn, hb, hne⟩ := partnerOf_eq_some.1 h
  rw [hr] at hr'
  rw [hq] at hq'
  cases hr'
  cases hq'
  exact ⟨hr, hq, hn, hb, hne⟩

theorem Paired.partnerOf {s : State} {d p : Nat} {r q : DoorRec} (h : Paired s d p r q) : s.partnerOf d = some p :=
  partnerOf_eq_some.2 ⟨r, q, h.first, h.second, h.names, h.back, h.ne⟩

/-- Every pair that holds none of certain doors keeps the law. -/
def LawsBut (X : Nat → Prop) (s : State) : Prop := ∀ d p r q, Paired s d p r q → ¬ X d → ¬ X p → PairLaw r q

/-- Every pair keeps the law. -/
def Laws (s : State) : Prop := ∀ d p r q, Paired s d p r q → PairLaw r q

theorem laws_iff (s : State) : Laws s ↔ s.PairsLawful := by
  constructor
  · intro h d p r q hp hr hq
    have := h d p r q (paired_of_partnerOf hp hr hq)
    exact ⟨this.left, this.one⟩
  · intro h d p r q hp
    have h1 := h d p r q hp.partnerOf hp.first hp.second
    have h2 := h p d q r hp.symm.partnerOf hp.second hp.first
    exact ⟨h1.1, h2.1, h1.2⟩

namespace Laws

variable {s t : State}

theorem but (h : Laws s) (X : Nat → Prop) : LawsBut X s := fun d p r q hp _ _ => h d p r q hp

theorem of_doors (h : Laws s) (hd : t.door.doors = s.door.doors) : Laws t := by
  have he : ∀ x, t.door? x = s.door? x := fun x => by unfold State.door?; rw [hd]
  exact fun d p r q hp => h d p r q ⟨he d ▸ hp.first, he p ▸ hp.second, hp.names, hp.back, hp.ne⟩

/-- One door changes and keeps its partner: the law of its own pair is all there is to see. -/
theorem change_one (h : Laws s) {d : Nat} {r r' : DoorRec} (hr : s.door? d = some r) (ht : t.door? d = some r')
    (ho : ∀ x, x ≠ d → t.door? x = s.door? x) (hc : r'.cfg.partner = r.cfg.partner)
    (hl : ∀ p q, Paired s d p r q → PairLaw r' q) : Laws t := by
  have own : ∀ {p a q}, Paired t d p a q → PairLaw a q := by
    intro p a q hp
    have ha := hp.first
    rw [ht] at ha
    cases ha
    exact hl p q ⟨hr, ho p hp.ne ▸ hp.second, hc ▸ hp.names, hp.back, hp.ne⟩
  intro x p a q hp
  by_cases hx : x = d
  · subst hx
    exact own hp
  · by_cases hy : p = d
    · subst hy
      exact (own hp.symm).symm
    · exact h x p a q ⟨ho x hx ▸ hp.first, ho p hy ▸ hp.second, hp.names, hp.back, hp.ne⟩

/-- The two doors of a pair change and keep their partners. -/
theorem change_pair (h : Laws s) {d p : Nat} {r q r' q' : DoorRec} (hp : Paired s d p r q) (hr : t.door? d = some r')
    (hq : t.door? p = some q') (ho : ∀ x, x ≠ d → x ≠ p → t.door? x = s.door? x)
    (hcr : r'.cfg.partner = r.cfg.partner) (hcq : q'.cfg.partner = q.cfg.partner) (hl : PairLaw r' q') : Laws t := by
  intro x y a b hxy
  by_cases hx : x = d
  · subst hx
    have ha := hxy.first
    rw [hr] at ha
    cases ha
    have hn := hxy.names
    rw [hcr, hp.names] at hn
    cases hn
    have hb := hxy.second
    rw [hq] at hb
    cases hb
    exact hl
  · by_cases hx' : x = p
    · subst hx'
      have ha := hxy.first
      rw [hq] at ha
      cases ha
      have hn := hxy.names
      rw [hcq, hp.back] at hn
      cases hn
      have hb := hxy.second
      rw [hr] at hb
      cases hb
      exact hl.symm
    · have hy : y ≠ d := by
        rintro rfl
        have hb := hxy.second
        rw [hr] at hb
        cases hb
        have hn := hxy.back
        rw [hcr, hp.names] at hn
        exact hx' (Option.some.inj hn).symm
      have hy' : y ≠ p := by
        rintro rfl
        have hb := hxy.second
        rw [hq] at hb
        cases hb
        have hn := hxy.back
        rw [hcq, hp.back] at hn
        exact hx (Option.some.inj hn).symm
      exact h x y a b ⟨ho x hx hx' ▸ hxy.first, ho y hy hy' ▸ hxy.second, hxy.names, hxy.back, hxy.ne⟩

theorem putDoor (h : Laws s) {d : Nat} {r r' : DoorRec} (hr : s.door? d = some r)
    (hc : r'.cfg.partner = r.cfg.partner) (hl : ∀ p q, Paired s d p r q → PairLaw r' q) : Laws (s.putDoor d r') :=
  change_one h hr (by simp) (fun x hx => by simp [hx]) hc hl

theorem changeDoor (h : Laws s) (d : Nat) {f : DoorRec → DoorRec} (hc : ∀ r, (f r).cfg.partner = r.cfg.partner)
    (hl : ∀ r, s.door? d = some r → ∀ p q, Paired s d p r q → PairLaw (f r) q) : Laws (s.changeDoor d f) := by
  cases hr : s.door? d with
  | none =>
    have he : ∀ x, (s.changeDoor d f).door? x = s.door? x := by
      intro x
      rw [State.door?_changeDoor]
      split
      · rename_i hx
        rw [hx, hr]
        rfl
      · rfl
    exact fun x p a q hp => h x p a q ⟨he x ▸ hp.first, he p ▸ hp.second, hp.names, hp.back, hp.ne⟩
  | some r =>
    exact change_one h hr (t := s.changeDoor d f) (by simp [hr]) (fun x hx => by simp [hx]) (hc r) (hl r hr)

end Laws

/-- An edit that gains no right and no release keeps the law. -/
theorem PairLaw.yields {r q w : DoorRec} (h : PairLaw r q) (hf : NearlyFits True r) (hy : Yields r w) : PairLaw w q := by
  refine ⟨fun hw => ?_, fun hq => ⟨(h.right hq).1, ?_⟩, fun ⟨h1, h2⟩ => h.one ⟨hy.right h1, h2⟩⟩
  · obtain ⟨hr, hright⟩ := hy.releases hf hw
    exact ⟨hright.trans (h.left hr).1, (h.left hr).2⟩
  · refine Bool.eq_false_iff.2 fun hw => ?_
    exact absurd (hy.releases hf hw).1 (by simp [(h.right hq).2])

/-- A door that neither releases nor holds the right. -/
theorem PairLaw.rest {r q w : DoorRec} (h : PairLaw r q) (hrel : State.releases w = false) (hr : w.right = false) :
    PairLaw w q :=
  ⟨fun hw => absurd hw (by simp [hrel]), fun hq => ⟨(h.right hq).1, hrel⟩, fun ⟨h1, _⟩ => absurd h1 (by simp [hr])⟩

/-- A door that holds the right, beside one that neither releases nor holds it. -/
theorem PairLaw.holder {w q : DoorRec} (hw : w.right = true) (hrel : State.releases q = false) (hq : q.right = false) :
    PairLaw w q :=
  ⟨fun _ => ⟨hw, hrel⟩, fun h => absurd h (by simp [hrel]), fun ⟨_, h2⟩ => absurd h2 (by simp [hq])⟩

/-- Beside a door that holds the right the other is no releaser and no holder. -/
theorem PairLaw.other {r q : DoorRec} (h : PairLaw r q) (hr : r.right = true) :
    State.releases q = false ∧ q.right = false := by
  have hq : q.right = false := Bool.eq_false_iff.2 fun hq => h.one ⟨hr, hq⟩
  exact ⟨Bool.eq_false_iff.2 fun hrel => absurd (h.right hrel).1 (by simp [hq]), hq⟩

theorem beginLead_partner (base : Nat) (r : DoorRec) : (beginLead base r).cfg = r.cfg ∧ (beginLead base r).right = r.right := by
  unfold beginLead
  split
  · exact ⟨rfl, rfl⟩
  · split <;> exact ⟨rfl, rfl⟩

theorem releases_of_state {r : DoorRec} {x : DoorState} (h : r.state = x) (hx : x ≠ .releasing) (hx' : x ≠ .released) :
    State.releases r = false := by
  simp [State.releases, h, hx, hx']

/-- Every door fits, and every pair keeps the law. -/
structure Lawful (c : Scope) (s : State) : Prop where
  fit  : AllFit c s
  laws : Laws s

namespace Laws

variable {s : State} {c : Scope}

/-! ### The arbiter and release requests -/

theorem giveRight (h : Laws s) {d p : Nat} {r q : DoorRec} (hp : Paired s d p r q) (hm : State.mayTake r q = true) :
    Laws (s.giveRight d p) := by
  obtain ⟨hs, hc, hclosed, hq⟩ := (AllFit.mayTake_iff r q).1 hm
  refine change_pair h hp (t := s.giveRight d p) (r' := beginLead s.base { r with right := true })
    (q' := { q with right := false }) ?_ ?_ ?_ ?_ rfl ?_
  · simp [State.giveRight, hp.first, hp.ne.symm]
  · simp [State.giveRight, hp.second, hp.ne]
  · intro x hx hx'
    simp [State.giveRight, hx, hx']
  · rw [(beginLead_partner _ _).1]
  · refine .holder (beginLead_partner _ _).2 ?_ rfl
    unfold State.releases
    dsimp only
    revert hclosed
    cases q.state <;> simp [closedForPair]

theorem arbitrate (h : Laws s) (d : Nat) : Laws (s.arbitrate d) := by
  unfold State.arbitrate
  split
  · exact h
  · rename_i r hr
    split
    · rename_i hn
      split
      · refine changeDoor h d (fun r => by rw [(beginLead_partner _ _).1]) fun w _ p q hp => ?_
        rw [hp.partnerOf] at hn
        cases hn
      · exact h
    · rename_i p hp
      split
      · exact h
      · rename_i q hq
        have hpair := paired_of_partnerOf hp hr hq
        split
        · exact giveRight h hpair ‹_›
        · exact giveRight h hpair.symm ‹_›
        · exact h
        · split
          · split
            · exact giveRight h hpair ‹_›
            · exact giveRight h hpair.symm ‹_›
          · exact h

theorem beginCycle (h : Laws s) {d : Nat} {r : DoorRec} (hr : s.door? d = some r) (hright : r.right = false)
    (xs : List Passage) : Laws (s.beginCycle d r xs) := by
  unfold State.beginCycle
  split
  · rename_i hn
    refine putDoor h hr (by rw [(beginLead_partner _ _).1]) fun p q hp => ?_
    rw [hp.partnerOf] at hn
    cases hn
  · have hl : ∀ p q, Paired s d p r q → PairLaw { r with state := .interlockWait, cycle := some (s.newCycle r xs) } q :=
      fun p q hp => (h d p r q hp).rest rfl hright
    exact arbitrate (putDoor h hr (by rfl) hl) d

theorem releaseRequest (h : Laws s) (hf : AllFit c s) (d : Nat) (xs : List Passage) : Laws (s.releaseRequest d xs).1 := by
  unfold State.releaseRequest
  split
  · exact h
  rename_i r hr
  have hfit := hf.fits d r hr
  have join : r.state ≠ .secured → r.state ≠ .unknown →
      Laws (match joinCycle (r.cycle.getD (s.newCycle r [])) xs with
        | none => (s, Joined.full)
        | some c => ((s.putDoor d { r with cycle := some c }).arbitrate d, Joined.taken)).1 := by
    intro hs hu
    split
    · exact h
    · rename_i e _
      obtain ⟨f, hf⟩ := (hfit.fits hs).cycle hs hu
      have hy : Yields r { r with cycle := some e } := .of_same rfl rfl (by rw [hf]; rfl)
      have hl : ∀ p q, Paired s d p r q → PairLaw { r with cycle := some e } q :=
        fun p q hp => (h d p r q hp).yields (hfit.weaken fun _ => trivial) hy
      exact arbitrate (putDoor h hr (by rfl) hl) d
  split
  case h_1 => exact h
  case h_2 hs => exact beginCycle h hr (hfit.right_false (by rw [hs]; rfl)) xs
  case h_3 hs =>
    split
    · rename_i hright
      refine putDoor h hr (by rw [(beginLead_partner _ _).1]) fun p q hp => ?_
      obtain ⟨hrel, hq⟩ := (h d p r q hp).other hright
      exact .holder ((beginLead_partner _ _).2.trans hright) hrel hq
    · exact beginCycle h hr (Bool.eq_false_iff.2 ‹_›) xs
  all_goals
    rename_i hs
    exact join (by simp [hs]) (by simp [hs])

/-! ### Contact openings and overrides -/

theorem reopen (h : Laws s) {d : Nat} {r : DoorRec} (hr : s.door? d = some r) : Laws (s.reopen d r) := by
  have same : ∀ g, Laws (s.putDoor d { r with state := .opened, cycle := g }) := fun g => putDoor h hr rfl fun p q hp => by
    refine ⟨nofun, fun hq => ⟨((h d p r q hp).right hq).1, rfl⟩, (h d p r q hp).one⟩
  unfold State.reopen
  dsimp only
  split
  · exact same _
  · rename_i p hp
    split
    · exact same _
    · rename_i q hq
      have hpair := paired_of_partnerOf hp hr hq
      split
      · exact same _
      · split
        · refine change_pair h hpair (t := State.putDoor _ d _) (q' := { q with
              state := .interlockWait, right := false, cycle := q.cycle.map (fun c => { c with leadEnd := none }) })
            (r' := { r with
              state := .opened, right := true,
              cycle := r.cycle.map (fun c => { c with relockEnd := none,
                                                      heldEnd := some (s.base + c.vals.heldOpen * 100) }) })
            (by simp) (by simp [hpair.ne]) (fun x hx hx' => by simp [hx, hx']) rfl rfl (.holder rfl rfl rfl)
        · split
          · exact same _
          · rename_i hnq
            refine putDoor h hr rfl fun p' q' hp' => ?_
            have hpp : p' = p := by
              have := hp'.names
              rw [hpair.names] at this
              exact (Option.some.inj this).symm
            subst hpp
            have hqq := hp'.second
            rw [hq] at hqq
            cases hqq
            have hright : q.right = false := Bool.eq_false_iff.2 hnq
            refine .holder rfl (Bool.eq_false_iff.2 fun hrel => ?_) hright
            have := ((h _ _ _ _ hpair).right hrel).1
            rw [hright] at this
            cases this

theorem overridden_partner (q : DoorRec) : (State.overridden q).cfg = q.cfg ∧ (State.overridden q).right = false := by
  unfold State.overridden
  split
  · exact ⟨rfl, rfl⟩
  · dsimp only
    split <;> exact ⟨rfl, rfl⟩
  · exact ⟨rfl, rfl⟩

/-- A door that fits does not release after its partner's override (R29). -/
theorem overridden_releases {b : Prop} {q : DoorRec} (hf : NearlyFits b q) : State.releases (State.overridden q) = false := by
  unfold State.overridden
  split
  · rfl
  · dsimp only
    split <;> rfl
  · rename_i h1 h2
    refine Bool.eq_false_iff.2 fun hrel => ?_
    have hrel : q.state = .releasing ∨ q.state = .released := by simpa [State.releases] using hrel
    rcases hrel with hs | hs
    · obtain ⟨e, he⟩ := (hf.fits (by simp [hs])).cycle (by simp [hs]) (by simp [hs])
      exact h2 e hs he
    · exact h1 hs

theorem overriding (h : Laws s) (hf : AllFit c s) {d : Nat} {r : DoorRec} (hr : s.door? d = some r) :
    Laws (Machine.overriding s d) := by
  unfold Machine.overriding
  split
  · rename_i hn
    refine changeDoor h d (fun _ => rfl) fun w _ p q hp => ?_
    rw [hp.partnerOf] at hn
    cases hn
  · rename_i p hp
    obtain ⟨_, q, _, hq, _⟩ := partnerOf_eq_some.1 hp
    have hpair := paired_of_partnerOf hp hr hq
    refine change_pair h hpair (t := State.changeDoor _ d _) (q' := State.overridden q)
      (r' := enterReleased { r with right := true }) ?_ ?_ ?_ rfl ?_
      (.holder rfl (overridden_releases (hf.fits p q hq)) (overridden_partner q).2)
    · simp [hpair.ne.symm, hr]
    · simp [hpair.ne, hq]
    · intro x hx hx'
      simp [hx, hx']
    · rw [(overridden_partner q).1]



end Laws

namespace LawsBut

variable {s t : State} {k : Nat}

/-- Other doors than `k` lose their partner, or take `k` for it. -/
theorem setPartner (h : LawsBut (· = k) s) (n : Nat) {o : Option Nat} (ho : o = none ∨ o = some k) :
    LawsBut (· = k) (s.setPartner n o) := by
  have hdoor : ∀ {x w}, (s.setPartner n o).door? x = some w → x ≠ n ∨ w.cfg.partner = o := by
    intro x w hw
    by_cases hx : x = n
    · right
      unfold State.setPartner at hw
      rw [State.door?_changeDoor, if_pos hx] at hw
      obtain ⟨v, _, rfl⟩ := Option.map_eq_some_iff.1 hw
      rfl
    · exact .inl hx
  have hold : ∀ {x w}, (s.setPartner n o).door? x = some w → x ≠ n → s.door? x = some w := by
    intro x w hw hx
    unfold State.setPartner at hw
    rwa [State.door?_changeDoor, if_neg hx] at hw
  have hnot : ∀ {y}, y ≠ k → o ≠ some y := by
    rintro y hy rfl
    rcases ho with ho | ho
    · cases ho
    · exact hy (Option.some.inj ho)
  intro d p r q hp hd hpk
  rcases hdoor hp.first with hdn | hrn
  · rcases hdoor hp.second with hpn | hqn
    · exact h d p r q ⟨hold hp.first hdn, hold hp.second hpn, hp.names, hp.back, hp.ne⟩ hd hpk
    · exact absurd (hqn.symm.trans hp.back) (hnot hd)
  · exact absurd (hrn.symm.trans hp.names) (hnot hpk)

theorem dissolve (h : LawsBut (· = k) s) (o : Option Nat) : LawsBut (· = k) (s.dissolve k o) := by
  unfold State.dissolve
  split
  · exact h
  · split
    · exact h
    · split
      · exact setPartner h _ (.inl rfl)
      · exact h

/-- Door `k` changes. -/
theorem changeDoor (h : LawsBut (· = k) s) (f : DoorRec → DoorRec) : LawsBut (· = k) (s.changeDoor k f) := by
  intro d p r q hp hd hpk
  refine h d p r q ⟨?_, ?_, hp.names, hp.back, hp.ne⟩ hd hpk
  · have := hp.first
    rwa [State.door?_changeDoor, if_neg hd] at this
  · have := hp.second
    rwa [State.door?_changeDoor, if_neg hpk] at this

theorem putDoor (h : LawsBut (· = k) s) (w : DoorRec) : LawsBut (· = k) (s.putDoor k w) := by
  intro d p r q hp hd hpk
  refine h d p r q ⟨?_, ?_, hp.names, hp.back, hp.ne⟩ hd hpk
  · have := hp.first
    rwa [State.door?_putDoor, if_neg hd] at this
  · have := hp.second
    rwa [State.door?_putDoor, if_neg hpk] at this

/-- The law of the pairs of `k` is all there is to see yet. -/
theorem full (h : LawsBut (· = k) s) (hk : ∀ p r q, Paired s k p r q → PairLaw r q) : Laws s := by
  intro d p r q hp
  by_cases hd : d = k
  · subst hd
    exact hk p r q hp
  · by_cases hpk : p = k
    · subst hpk
      exact (hk d q r hp.symm).symm
    · exact h d p r q hp hd hpk

end LawsBut

/-! ### Door records -/

theorem dissolve_self {s : State} {k : Nat} {w : DoorRec} (hw : s.door? k = some w) (hn : w.cfg.partner ≠ some k)
    (o : Option Nat) : (s.dissolve k o).door? k = some w := by
  unfold State.dissolve
  split
  · exact hw
  · rename_i e
    split
    · exact hw
    · rename_i q hq
      split
      · rename_i hb
        have he : k ≠ e := by
          rintro rfl
          rw [hw] at hq
          cases hq
          exact hn hb
        unfold State.setPartner
        rw [State.door?_changeDoor, if_neg he]
        exact hw
      · exact hw

/-- A door that a pair is dissolved at keeps its state. -/
theorem dissolve_state {s : State} {k x : Nat} {w : DoorRec} {o : Option Nat} (hw : (s.dissolve k o).door? x = some w) :
    ∃ v, s.door? x = some v ∧ w.state = v.state := by
  unfold State.dissolve at hw
  split at hw
  · exact ⟨w, hw, rfl⟩
  · split at hw
    · exact ⟨w, hw, rfl⟩
    · split at hw
      · unfold State.setPartner at hw
        rw [State.door?_changeDoor] at hw
        split at hw
        · obtain ⟨v, hv, rfl⟩ := Option.map_eq_some_iff.1 hw
          exact ⟨v, hv, rfl⟩
        · exact ⟨w, hw, rfl⟩
      · exact ⟨w, hw, rfl⟩

/-- A door takes another partner, which is at rest, or none (R16, R17). -/
theorem repair_laws {s : State} {k : Nat} {w : DoorRec} {o : Option Nat} (h : LawsBut (· = k) s) (hw : s.door? k = some w)
    (hne : w.cfg.partner ≠ o) (hn : ∀ n, w.cfg.partner = some n → n ≠ k ∧ ∀ v, s.door? n = some v →
      v.state = .secured ∨ v.state = .unknown) : Laws (s.repair k o w.cfg.partner) := by
  have hself := dissolve_self hw (fun e => (hn k e).1 rfl) o
  unfold State.repair
  rw [if_neg hne]
  dsimp only
  split
  · rename_i hp
    refine ((h.dissolve o).changeDoor _).full fun p r q hpair => ?_
    have hr := hpair.first
    rw [State.door?_changeDoor, if_pos rfl, hself] at hr
    cases hr
    have := hpair.names
    rw [show w.cfg.partner = none from hp] at this
    cases this
  · rename_i n hp
    obtain ⟨hnk, hrest⟩ := hn n hp
    refine (((h.dissolve o).setPartner n (.inr rfl)).changeDoor _).full fun p r q hpair => ?_
    have hr := hpair.first
    unfold State.setPartner at hr
    rw [State.door?_changeDoor, if_pos rfl, State.door?_changeDoor, if_neg hnk.symm, hself] at hr
    cases hr
    have hpn := hpair.names
    rw [show w.cfg.partner = some n from hp] at hpn
    cases hpn
    have hq := hpair.second
    unfold State.setPartner at hq
    rw [State.door?_changeDoor, if_neg hnk, State.door?_changeDoor, if_pos rfl] at hq
    obtain ⟨v, hv, rfl⟩ := Option.map_eq_some_iff.1 hq
    obtain ⟨u, hu, hst⟩ := dissolve_state hv
    have hrel : State.releases { v with cfg := { v.cfg with partner := some k }, right := false } = false := by
      rcases hrest u hu with hs | hs <;> exact releases_of_state (hst.trans hs) nofun nofun
    refine ⟨fun hw => ⟨?_, hrel⟩, fun hv => absurd hv (by rw [hrel]; exact nofun), fun ⟨_, h2⟩ => by cases h2⟩
    unfold State.releases at hw
    unfold State.rightOnPairing
    rw [hp]
    exact hw

/-- A partner that R16 admits is another door, at rest. -/
theorem pairRefusal_none {s : State} {d inner p : Nat} (h : s.pairRefusal d inner p = none) :
    p ≠ d ∧ ∃ q, s.door? p = some q ∧ (q.state = .secured ∨ q.state = .unknown) := by
  unfold State.pairRefusal at h
  split at h
  · cases h
  rename_i q hq
  split at h
  · cases h
  rename_i hne
  split at h
  · cases h
  split at h
  · cases h
  split at h
  · cases h
  rename_i hi
  refine ⟨hne, q, hq, ((idleDoor_iff q).1 ?_).1⟩
  simpa using hi

/-- A partner that a door takes by an AMEND is admitted by R16. -/
theorem doorRefusal_partner {s : State} {d p : Nat} {q : DoorRec} {x : DoorCfg} (h : s.doorRefusal d q x = none)
    (hne : x.partner ≠ q.cfg.partner) (hp : x.partner = some p) : s.pairRefusal d x.inner p = none := by
  unfold State.doorRefusal at h
  split at h
  · cases h
  dsimp only at h
  split at h
  · cases h
  rw [if_pos (by simpa using hne)] at h
  unfold State.partnerRefusal at h
  rw [hp] at h
  dsimp only at h
  split at h
  · cases h
  · assumption

namespace Laws

variable {s : State}

theorem placeDoor (h : Laws s) {k : Nat} {x : DoorCfg} (hp : ∀ p, x.partner = some p → s.pairRefusal k x.inner p = none) :
    Laws ((s.putDoor k { cfg := x }).repair k none x.partner) := by
  have hput : (s.putDoor k { cfg := x }).door? k = some { cfg := x } := by simp
  have hbut := (h.but (· = k)).putDoor { cfg := x }
  by_cases hn : x.partner = none
  · have he : (s.putDoor k { cfg := x }).repair k none x.partner = s.putDoor k { cfg := x } := by
      unfold State.repair
      rw [if_pos hn]
    rw [he]
    refine hbut.full fun p r q hpair => ?_
    have hr := hpair.first
    rw [hput] at hr
    cases hr
    have := hpair.names
    rw [hn] at this
    cases this
  · refine repair_laws hbut hput hn fun n hx => ?_
    obtain ⟨hne, q, hq, hs⟩ := pairRefusal_none (hp n hx)
    refine ⟨hne, fun v hv => ?_⟩
    rw [State.door?_putDoor, if_neg hne, hq] at hv
    cases hv
    exact hs

theorem editDoor (h : Laws s) {k : Nat} {q : DoorRec} {x : DoorCfg} (hq : s.door? k = some q)
    (hx : s.doorRefusal k q x = none) :
    Laws ((s.putDoor k { q with cfg := x, suspect := false, checkOk := true }).repair k q.cfg.partner x.partner) := by
  have hput : (s.putDoor k { q with cfg := x, suspect := false, checkOk := true }).door? k =
      some { q with cfg := x, suspect := false, checkOk := true } := by simp
  by_cases hn : x.partner = q.cfg.partner
  · have he : (s.putDoor k { q with cfg := x, suspect := false, checkOk := true }).repair k q.cfg.partner x.partner =
        s.putDoor k { q with cfg := x, suspect := false, checkOk := true } := by
      unfold State.repair
      rw [if_pos hn]
    rw [he]
    refine putDoor h hq hn fun p w hp => ?_
    obtain ⟨h1, h2, h3⟩ := h k p q w hp
    exact ⟨h1, h2, h3⟩
  · refine repair_laws ((h.but (· = k)).putDoor _) hput hn fun n hxn => ?_
    obtain ⟨hne, v, hv, hs⟩ := pairRefusal_none (doorRefusal_partner hx hn hxn)
    refine ⟨hne, fun w hw => ?_⟩
    rw [State.door?_putDoor, if_neg hne, hv] at hw
    cases hw
    exact hs

theorem delDoor (h : Laws s) (k : Nat) : Laws (s.setDoor { s.door with doors := s.door.doors.del k }) := by
  have hdoor : ∀ {x w}, (s.setDoor { s.door with doors := s.door.doors.del k }).door? x = some w → s.door? x = some w := by
    intro x w hw
    unfold State.door? at hw ⊢
    dsimp only [State.setDoor_door] at hw
    rw [Table.find_del] at hw
    split at hw
    · cases hw
    · exact hw
  exact fun d p r q hp => h d p r q ⟨hdoor hp.first, hdoor hp.second, hp.names, hp.back, hp.ne⟩

theorem mapDoors (h : Laws s) {c : Scope} (hf : AllFit c s) {f : DoorRec → DoorRec} (hc : ∀ r, Plain r (f r))
    (hy : ∀ r, Yields r (f r)) :
    Laws (s.setDoor { s.door with doors := s.door.doors.map (fun p => (p.1, f p.2)) }) := by
  have hdoor : ∀ {x w}, (s.setDoor { s.door with doors := s.door.doors.map (fun p => (p.1, f p.2)) }).door? x = some w →
      ∃ v, s.door? x = some v ∧ w = f v := by
    intro x w hw
    obtain ⟨v, hv, e⟩ := mem_map_snd (Table.mem_of_find hw)
    exact ⟨v, Table.find_of_mem hf.rising hv, e⟩
  intro d p r q hp
  obtain ⟨r', hr, rfl⟩ := hdoor hp.first
  obtain ⟨q', hq, rfl⟩ := hdoor hp.second
  have hpair := h d p r' q' ⟨hr, hq, (hc r').cfg ▸ hp.names, (hc q').cfg ▸ hp.back, hp.ne⟩
  have h1 := hpair.yields ((hf.fits d r' hr).weaken fun _ => trivial) (hy r')
  exact (h1.symm.yields ((hf.fits p q' hq).weaken fun _ => trivial) (hy q')).symm

end Laws

/-- The law of pairs, with every door fit, is closed under the edits of the operations. -/
theorem Lawful.closed : Closed Lawful where
  alm := fun _ hu h => ⟨AllFit.closed.alm _ hu h.fit, h.laws.of_doors rfl⟩
  rel := fun _ hu h => ⟨AllFit.closed.rel _ hu h.fit, h.laws.of_doors rfl⟩
  link := fun _ hu h => ⟨AllFit.closed.link _ hu h.fit, h.laws.of_doors rfl⟩
  ret := fun _ hc hm h => ⟨AllFit.closed.ret _ hc hm h.fit, h.laws.of_doors rfl⟩
  host := fun _ h => ⟨AllFit.closed.host _ h.fit, h.laws.of_doors rfl⟩
  free := fun _ h => ⟨AllFit.closed.free _ h.fit, h.laws.of_doors rfl⟩
  pending := fun _ h => ⟨AllFit.closed.pending _ h.fit, h.laws.of_doors rfl⟩
  adm := fun _ hu h => ⟨AllFit.closed.adm _ hu h.fit, h.laws.of_doors rfl⟩
  dropPerson := fun _ hk h => ⟨AllFit.closed.dropPerson _ hk h.fit, h.laws.of_doors rfl⟩
  zones := fun _ hu h => ⟨AllFit.closed.zones _ hu h.fit, h.laws.of_doors rfl⟩
  recs := fun _ hu h => ⟨AllFit.closed.recs _ hu h.fit, h.laws.of_doors rfl⟩
  classes := fun _ hu h => ⟨AllFit.closed.classes _ hu h.fit, h.laws.of_doors rfl⟩
  forget := fun _ hl h => ⟨AllFit.closed.forget _ hl h.fit, h.laws⟩
  know := fun _ hp h => ⟨AllFit.closed.know _ hp h.fit, h.laws⟩
  knowEntrant := fun _ hr hp h => ⟨AllFit.closed.knowEntrant _ hr hp h.fit, h.laws⟩
  knowWaiter := fun _ hr hp h => ⟨AllFit.closed.knowWaiter _ hr hp h.fit, h.laws⟩
  await := fun d h => ⟨AllFit.closed.await d h.fit, h.laws⟩
  awaited := fun d hc h => ⟨AllFit.closed.awaited d hc h.fit, h.laws⟩
  takeCycle := fun {_ s} d h => by
    refine ⟨h.fit.takeCycle, h.laws.changeDoor d (fun r => ?_) fun r hr p q hp => ?_⟩
    · split <;> rfl
    · obtain ⟨h1, h2, h3⟩ := h.laws d p r q hp
      split <;> exact ⟨h1, h2, h3⟩
  putDoor := fun {_ _ d r} q hr hc hy h => ⟨AllFit.closed.putDoor q hr hc hy h.fit, h.laws.putDoor hr (by rw [hc.cfg])
    fun p w hp => (h.laws d p r w hp).yields ((h.fit.fits d r hr).weaken fun _ => trivial) hy⟩
  changeDoor := fun d f hc hy h => ⟨AllFit.closed.changeDoor d f hc hy h.fit, h.laws.changeDoor d (fun r => by rw [(hc r).cfg])
    fun r hr p w hp => (h.laws d p r w hp).yields ((h.fit.fits d r hr).weaken fun _ => trivial) (hy r hr)⟩
  mapDoors := fun f hc hy h => ⟨AllFit.closed.mapDoors f hc hy h.fit, h.laws.mapDoors h.fit hc hy⟩
  secure := fun {_ _ d r} q hr hc hs hright h => ⟨AllFit.closed.secure q hr hc hs hright h.fit,
    h.laws.putDoor hr (by rw [hc.cfg]) fun p w hp =>
      (h.laws d p r w hp).rest (releases_of_state hs nofun nofun) hright⟩
  arbitrate := fun d h => ⟨h.fit.arbitrate d, h.laws.arbitrate d⟩
  release := fun xs _ _ h => ⟨h.fit.releaseRequest _ xs, h.laws.releaseRequest h.fit _ xs⟩
  beginWait := fun {_ _ d _} w hr ht hw h => ⟨AllFit.closed.beginWait w hr ht hw h.fit,
    h.laws.changeDoor d (fun _ => rfl) fun r _ p q hp =>
      let ⟨h1, h2, h3⟩ := h.laws d p r q hp
      ⟨h1, h2, h3⟩⟩
  reopen := fun hr hs h => ⟨h.fit.reopen hr hs, h.laws.reopen hr⟩
  override := fun {_ s d _} hr hs h => by
    refine ⟨AllFit.closed.override hr hs h.fit, ?_⟩
    obtain ⟨u, _, e⟩ := overrideRight_spec s d
    rw [e]
    exact (h.laws.overriding h.fit hr).of_doors rfl
  placeDoor := fun k x hk hz hp h => ⟨AllFit.closed.placeDoor k x hk hz hp h.fit, h.laws.placeDoor hp⟩
  editDoor := fun x hq hx h => ⟨AllFit.closed.editDoor x hq hx h.fit, h.laws.editDoor hq hx⟩
  dropDoor := fun hq hp hi h => ⟨AllFit.closed.dropDoor hq hp hi h.fit, h.laws.delDoor _⟩

/-- Settles O7: a fit of every door, and with it the law of every pair, is kept by each edit of an operation. -/
theorem stepKeepsDoorLaws : Obligations.StepKeepsDoorLaws := by
  constructor
  · intro s t hw hs h
    have ht := step_keeps AllFit.closed AllFit.reset (fun _ _ d _ _ hu => hu.damageOne d) ((allFit_iff hw.doors).2 hs) h
    exact (allFit_iff ht.rising).1 ht
  · intro s t hw hs hl hd h
    have hreset : Lawful {} State.reset := ⟨AllFit.reset, fun _ _ _ _ hp =>
      (List.not_mem_nil (Table.mem_of_find hp.first)).elim⟩
    have ht := step_keeps_of_undamaging Lawful.closed hreset hd ⟨(allFit_iff hw.doors).2 hs, (laws_iff s).2 hl⟩ h
    exact (laws_iff t).1 ht.laws

end Sys2Proof.Machine

/-! ## The end of a command -/

namespace Sys2Proof.Machine

namespace State

theorem freezeReached_eq (s : State) : s.freezeReached = s.setOcc { s.occ with zones := s.occ.zones.map (fun p =>
    (p.1, { p.2 with freeze := if p.2.freeze = .requested ∧ s.inFlight p.1 = 0 then .held else p.2.freeze })) } := by
  have hzone : ∀ p ∈ s.occ.zones, (if p.2.freeze = .requested && s.inFlight p.1 = 0
      then (p.1, { p.2 with freeze := .held }) else p) =
      (p.1, { p.2 with freeze := if p.2.freeze = .requested ∧ s.inFlight p.1 = 0 then .held else p.2.freeze }) := by
    intro p _
    by_cases h : p.2.freeze = .requested ∧ s.inFlight p.1 = 0
    · rw [if_pos (by simpa using h), if_pos h]
    · rw [if_neg (by simpa using h), if_neg h]
  unfold freezeReached
  rw [List.map_congr_left hzone]

theorem syncStations_eq (s : State) : s.syncStations = s.setLink { s.link with
    stations := s.link.stations.map (fun p => (p.1,
      if s.ownerOutputs p.1 p.2 = p.2.desired then p.2
      else { p.2 with desired := s.ownerOutputs p.1 p.2, token := (p.2.token + 1) % 8 })) } := rfl

end State

theorem settle_eq (s : State) : s.settle = State.settleLoop 32 0x0003BC00#32 s := by
  unfold State.settle State.settleBits
  rfl

theorem settleLoop_succ (n : Nat) (mask : BitVec 32) (s : State) :
    State.settleLoop (n + 1) mask s = if (State.settleRound mask s).rel.agents = s.rel.agents then State.settleRound mask s
      else State.settleLoop n 0x0003BC00#32 (State.settleRound mask s) := by
  rw [State.settleLoop]
  rfl

/-! ### Resolved sounders (R149) -/

/-- The rank of a sounder, from OFF up to EVACUATE (R149). -/
def sounderRank : Sounder → Nat | .off => 0 | .steady => 1 | .slow => 2 | .fast => 3 | .evacuate => 4

theorem louder_eq (a b : Sounder) : AlarmUnit.louder a b = if sounderRank a < sounderRank b then b else a := by
  cases a <;> cases b <;> rfl

/-- The record asks for a sounder in the zone: RAISED or NOTIFIED with that zone, DURESS apart. -/
def asksSounder (z : Nat) (r : AlarmRec) : Prop :=
  r.zone = some z ∧ (r.state = .raised ∨ r.state = .notified) ∧ r.kind ≠ some .duress

theorem asksSounder_iff (z : Nat) (r : AlarmRec) :
    (r.zone = some z && r.state != .acknowledged && r.kind != some .duress) = true ↔ asksSounder z r := by
  unfold asksSounder
  cases r.state <;> simp

/-- The louder of a sounder and of the one that a record asks for in the zone. -/
def withAsked (z : Nat) (acc : Sounder) (p : Nat × AlarmRec) : Sounder :=
  if p.2.zone = some z && p.2.state != .acknowledged && p.2.kind != some .duress then AlarmUnit.louder acc p.2.sounder
  else acc

theorem withAsked_spec (z : Nat) (a : Sounder) (p : Nat × AlarmRec) :
    (withAsked z a p = a ∨ asksSounder z p.2 ∧ withAsked z a p = p.2.sounder) ∧
      sounderRank a ≤ sounderRank (withAsked z a p) ∧
      (asksSounder z p.2 → sounderRank p.2.sounder ≤ sounderRank (withAsked z a p)) := by
  unfold withAsked
  rw [louder_eq]
  by_cases hp : asksSounder z p.2
  · rw [if_pos ((asksSounder_iff z p.2).2 hp)]
    split
    · exact ⟨.inr ⟨hp, rfl⟩, by omega, fun _ => le_refl _⟩
    · exact ⟨.inl rfl, le_refl _, fun _ => by omega⟩
  · rw [if_neg fun h => hp ((asksSounder_iff z p.2).1 h)]
    exact ⟨.inl rfl, le_refl _, fun h => absurd h hp⟩

/-- The loudest of a sounder and of those that the records of a list ask for. -/
theorem foldl_withAsked (z : Nat) (l : List (Nat × AlarmRec)) (a : Sounder) :
    (l.foldl (withAsked z) a = a ∨ ∃ p ∈ l, asksSounder z p.2 ∧ p.2.sounder = l.foldl (withAsked z) a) ∧
      sounderRank a ≤ sounderRank (l.foldl (withAsked z) a) ∧
      ∀ p ∈ l, asksSounder z p.2 → sounderRank p.2.sounder ≤ sounderRank (l.foldl (withAsked z) a) := by
  induction l generalizing a with
  | nil => exact ⟨.inl rfl, le_refl _, fun _ hp => absurd hp List.not_mem_nil⟩
  | cons p l ih =>
    rw [List.foldl_cons]
    obtain ⟨hfrom, hle, hall⟩ := ih (withAsked z a p)
    obtain ⟨hp, hpa, hpp⟩ := withAsked_spec z a p
    refine ⟨?_, hpa.trans hle, fun q hq hask => ?_⟩
    · rcases hfrom with he | ⟨q, hq, h⟩
      · rw [he]
        exact hp.imp id fun ⟨hask, h⟩ => ⟨p, List.mem_cons_self, hask, h.symm⟩
      · exact .inr ⟨q, List.mem_cons_of_mem _ hq, h⟩
    · rcases List.mem_cons.1 hq with rfl | hq
      · exact (hpp hask).trans hle
      · exact hall q hq hask

theorem recordSounder_eq (u : AlarmUnit) (z : Nat) : u.recordSounder z = u.recs.foldl (withAsked z) .off := rfl

theorem recordSounder_spec (u : AlarmUnit) (z : Nat) :
    (u.recordSounder z = .off ∨ ∃ n r, (n, r) ∈ u.recs ∧ asksSounder z r ∧ r.sounder = u.recordSounder z) ∧
      ∀ n r, (n, r) ∈ u.recs → asksSounder z r → sounderRank r.sounder ≤ sounderRank (u.recordSounder z) := by
  rw [recordSounder_eq]
  obtain ⟨hfrom, _, hall⟩ := foldl_withAsked z u.recs .off
  exact ⟨hfrom.imp id fun ⟨p, hp, h⟩ => ⟨p.1, p.2, hp, h⟩, fun n r hr => hall (n, r) hr⟩

theorem inRelease_iff (x : AgentState) :
    State.inRelease x = true ↔ x = .countdown ∨ x = .abortHeld ∨ x = .occupiedHold ∨ x = .discharge := by
  cases x <;> simp [State.inRelease]

/-- Settles O13: the parts of `conclude` and of `settle`, as they are defined, and the resolved sounder by the records. -/
theorem finishFollowsOwners : Obligations.FinishFollowsOwners := by
  refine ⟨fun s => ⟨?_, fun h => ?_, ?_⟩, settle_eq, fun s mask n => ⟨State.settleLoop.eq_1 mask s, ?_⟩, fun s a st => ⟨?_, ?_⟩,
    fun s z => ⟨?_, ?_⟩, fun s a st hst => ⟨?_, ?_⟩⟩
  · rw [← State.freezeReached_eq]
    unfold State.finish State.conclude State.refreshLanes
    rw [State.syncStations_eq]
    rfl
  · exact State.settle_noAgents h
  · unfold State.finish
    rfl
  · have hround : State.settleRound mask s =
        [0, 1, 2, 3, 4, 5, 6, 7].foldl (fun v a => v.readGate a)
          ([0, 1, 2, 3, 4, 5, 6, 7].foldl (fun v a => State.rereadAgent mask v a) s) := rfl
    rw [← hround]
    exact settleLoop_succ n mask s
  · intro h
    simp [State.ownerOutputs, h]
  · intro h
    refine ⟨fun hk => ?_, fun hk => ?_, fun hk d c hd hc => ?_⟩
    · simp [State.ownerOutputs, h, hk]
    · simp only [State.ownerOutputs, h, hk, if_true]
      cases (s.agent st.cfg.bound).state <;> rfl
    · simp only [State.ownerOutputs, h, hk, if_true, hd, desiredStrike, hc]
      cases d.state <;> rfl
  · rintro ⟨a, ha, hr⟩
    simp [State.sounderOf, ha, (inRelease_iff _).2 hr]
  · intro hr
    have hz : s.sounderOf z = s.alm.recordSounder z := by
      unfold State.sounderOf
      split
      · rename_i a ha
        exact if_neg fun h => hr ⟨a, ha, (inRelease_iff _).1 h⟩
      · rfl
    rw [hz]
    exact recordSounder_spec s.alm z
  · simp only [State.safetyHolds, hst, Bool.and_eq_true, Bool.or_eq_true, Bool.not_eq_true', decide_eq_true_eq, bne_iff_ne,
      and_assoc]
    have hdue : s.pollDue st = true ↔ ∀ t, st.lastPoll = some t → t + 25 ≤ s.ret.base := by
      unfold State.pollDue
      cases st.lastPoll with
      | none => simp
      | some t => exact ⟨fun h u hu => by cases hu; exact of_decide_eq_true h, fun h => decide_eq_true (h t rfl)⟩
    rw [hdue]
  · simp [State.doorHolds, hst, delivered, and_assoc]

end Sys2Proof.Machine

/-! ## What a reading of the tables finds (R181) -/

namespace Sys2Proof.Machine

/-! ### A record that has been tested -/

namespace State

theorem testedDoor_eq (r : DoorRec) : testedDoor r = { r with suspect := r.suspect || !r.checkOk, checkOk := true } := by
  obtain ⟨⟩ := r
  unfold testedDoor
  split <;> simp_all

theorem testedClass_eq (r : ClassRec) : testedClass r = { r with suspect := r.suspect || !r.checkOk, checkOk := true } := by
  obtain ⟨⟩ := r
  unfold testedClass
  split <;> simp_all

theorem testedOcc_eq (r : OccRec) : testedOcc r = { r with suspect := r.suspect || !r.checkOk, checkOk := true } := by
  obtain ⟨⟩ := r
  unfold testedOcc
  split <;> simp_all

theorem testedAgent_eq (r : AgentRec) : testedAgent r = { r with suspect := r.suspect || !r.checkOk, checkOk := true } := by
  obtain ⟨⟩ := r
  unfold testedAgent
  split <;> simp_all

theorem testedLogic_eq (r : LogicRec) : testedLogic r = { r with suspect := r.suspect || !r.checkOk, checkOk := true } := by
  obtain ⟨⟩ := r
  unfold testedLogic
  split <;> simp_all

theorem testedRoute_eq (r : RouteRec) : testedRoute r = { r with suspect := r.suspect || !r.checkOk, checkOk := true } := by
  obtain ⟨⟩ := r
  unfold testedRoute
  split <;> simp_all

theorem testedStation_eq (r : StationRec) :
    testedStation r = { r with suspect := r.suspect || !r.checkOk, checkOk := true } := by
  obtain ⟨⟩ := r
  unfold testedStation
  split <;> simp_all

/-! ### The blocks after the marks -/

variable (s : State)

theorem markFailed_door : s.markFailed.door =
    { doors := s.door.doors.map (fun p => (p.1, testedDoor p.2)), classes := mapVec testedClass s.door.classes } := by
  unfold markFailed
  rw [markZones_eq]
  rfl

theorem markFailed_recs : s.markFailed.occ.recs = s.occ.recs.map (fun p => (p.1, testedOcc p.2)) := by
  unfold markFailed
  rw [markZones_eq]
  rfl

theorem markFailed_zones : s.markFailed.occ.zones = (s.setAlm (testedAlarms s.alm s.now)).markZones.occ.zones := by
  unfold markFailed
  rw [markZones_eq]
  rfl

theorem markFailed_rel : s.markFailed.rel =
    { agents := mapVec testedAgent s.rel.agents, logic := mapVec testedLogic s.rel.logic } := by
  unfold markFailed
  rw [markZones_eq]
  rfl

theorem markFailed_alm : s.markFailed.alm = testedAlarms s.alm s.now := by
  unfold markFailed
  rw [markZones_eq]
  rfl

theorem markFailed_stations : s.markFailed.link.stations = s.link.stations.map (fun p => (p.1, testedStation p.2)) := by
  unfold markFailed
  rw [markZones_eq]
  rfl

theorem markFailed_calendar : s.markFailed.ret.calendar = if s.ret.calendarOk then s.ret.calendar else none := by
  unfold markFailed
  rw [markZones_eq]
  rfl

end State

/-- Reading after an edit of every element of a vector; a number beyond it reads the default, which is not edited. -/
theorem mapVec_read {α : Type} {n : Nat} (f : α → α) (v : Vector α n) (d : α) (hd : f d = d) (k : Nat) :
    ((mapVec f v)[k]?).getD d = f ((v[k]?).getD d) := by
  by_cases hk : k < n
  · rw [mapVec_getD hk]
    simp [hk]
  · rw [Vector.getElem?_eq_none (by omega), Vector.getElem?_eq_none (by omega)]
    exact hd.symm

/-! ### Marks of zones -/

/-- What R14 leaves of a zone record that has been tested: its fields, the suspect mark and the check value. -/
theorem foldl_markZone (l : List Nat) (s : State) (z : Nat) :
    ((l.foldl (fun s k => s.markZone k) s).zone? z).map (fun r => (r.cfg, r.suspect, r.checkOk)) =
      (s.zone? z).map (fun r => if z ∈ l then (r.cfg, r.suspect || !r.checkOk, true) else (r.cfg, r.suspect, r.checkOk)) := by
  induction l generalizing s with
  | nil => simp
  | cons k l ih =>
    rw [List.foldl_cons, ih]
    unfold State.markZone
    rw [State.zone?_changeZone]
    by_cases hz : z = k
    · subst hz
      cases hr : s.zone? z with
      | none => simp
      | some r => cases hc : r.checkOk <;> by_cases hl : z ∈ l <;> simp [hc, hl]
    · simp [hz]

theorem markFailed_zone (s : State) (z : Nat) :
    (s.markFailed.zone? z).map (fun r => (r.cfg, r.suspect, r.checkOk)) =
      (s.zone? z).map (fun r => (r.cfg, r.suspect || !r.checkOk, true)) := by
  have h := foldl_markZone s.occ.zones.keys (s.setAlm (State.testedAlarms s.alm s.now)) z
  unfold State.zone? at h ⊢
  rw [State.markFailed_zones]
  refine h.trans ?_
  dsimp only [State.setAlm_occ]
  cases hr : s.occ.zones.find z with
  | none => rfl
  | some r => simp [mem_keys (Table.mem_of_find hr)]

/-! ### Marks of alarm records -/

/-- The ordinary places after a record has failed: its own is free, the others stand (R153). -/
theorem fail_find (u : AlarmUnit) (now k n : Nat) (hn : n < 60) :
    (u.fail now k).recs.find n = if n = k then none else u.recs.find n := by
  unfold AlarmUnit.fail
  split
  · split
    · rename_i hk he
      rw [he, hk]
    · rfl
  · split
    · obtain ⟨r, hr, _⟩ := count_recs (u.remove k) now 0 true
      rw [hr, Table.find_put_ne _ _ (by omega)]
      exact Table.find_del _ _ _
    · rename_i hord
      rw [isOrdinary_iff] at hord
      have hne : n ≠ k := by omega
      rw [if_neg hne]
      exact Table.find_put_ne _ _ hne

theorem foldl_fail_find (now n : Nat) (hn : n < 60) (l : List Nat) (u : AlarmUnit) :
    (l.foldl (fun v k => v.fail now k) u).recs.find n = if n ∈ l then none else u.recs.find n := by
  induction l generalizing u with
  | nil => simp
  | cons k l ih =>
    rw [List.foldl_cons, ih, fail_find _ _ _ _ hn]
    by_cases hl : n ∈ l <;> by_cases hk : n = k <;> simp [hl, hk]

/-- Failures change the records and the hold sets alone (R144, R153). -/
theorem foldl_fail_eq (now : Nat) (l : List (Nat × AlarmRec)) (u : AlarmUnit) :
    l.foldl (fun v p => v.fail now p.1) u = { u with
      recs := (l.foldl (fun v p => v.fail now p.1) u).recs
      holds := (l.foldl (fun v p => v.fail now p.1) u).holds } := by
  induction l generalizing u with
  | nil => rfl
  | cons p l ih =>
    have hfail : u.fail now p.1 = { u with recs := (u.fail now p.1).recs, holds := (u.fail now p.1).holds } := by
      unfold AlarmUnit.fail AlarmUnit.count
      dsimp only
      (repeat' split) <;> rfl
    rw [List.foldl_cons, ih (u.fail now p.1)]
    generalize (l.foldl (fun v p => v.fail now p.1) (u.fail now p.1)) = v
    rw [hfail]

theorem testedAlarms_find {u : AlarmUnit} (now : Nat) (hw : u.recs.wf = true) {n : Nat} {r : AlarmRec} (hn : n < 60)
    (hr : u.recs.find n = some r) : (State.testedAlarms u now).recs.find n = if r.checkOk then some r else none := by
  have hfold : (State.testedAlarms u now).recs =
      (((u.recs.filter (fun p => !p.2.checkOk)).map (·.1)).foldl (fun v k => v.fail now k) u).recs := by
    rw [List.foldl_map]
    rfl
  have hmem : n ∈ (u.recs.filter (fun p => !p.2.checkOk)).map (·.1) ↔ r.checkOk = false := by
    constructor
    · intro h
      obtain ⟨⟨k, x⟩, hx, rfl⟩ := List.mem_map.1 h
      obtain ⟨hx, hc⟩ := List.mem_filter.1 hx
      rw [Table.find_of_mem hw hx] at hr
      cases hr
      simpa using hc
    · exact fun h => List.mem_map.2 ⟨(n, r), List.mem_filter.2 ⟨Table.mem_of_find hr, by simp [h]⟩, rfl⟩
  rw [hfold, foldl_fail_find now n hn, hr]
  cases hc : r.checkOk <;> simp [hmem, hc]

/-- Settles O14: each table after the marks, by the record functions that make them. -/
theorem failedChecksFound : Obligations.FailedChecksFound := by
  intro s
  refine ⟨State.readTables_intact, fun h => ?_, fun d => ?_, fun i => ?_, fun a => ?_, fun a => ?_, fun c => ?_, fun a => ?_,
    fun _ => markFailed_zone s, s.markFailed_calendar, ?_, fun k => ?_, ?_, ?_, fun hw n r hn hr => ?_, fun n r hn hr => ?_,
    fun k r hr => ?_, fun k r hr => ?_, fun k r hr hc => ?_, fun i r => rfl⟩
  · unfold State.readTables
    exact if_neg (by simp [h])
  · unfold State.door?
    rw [State.markFailed_door, Table.find_map _ fun _ => State.testedDoor]
    exact congrArg (s.door.doors.find d).map (funext State.testedDoor_eq)
  · unfold State.occ?
    rw [State.markFailed_recs, Table.find_map _ fun _ => State.testedOcc]
    exact congrArg (s.occ.recs.find i).map (funext State.testedOcc_eq)
  · unfold State.station?
    rw [State.markFailed_stations, Table.find_map _ fun _ => State.testedStation]
    exact congrArg (s.link.stations.find a).map (funext State.testedStation_eq)
  · unfold State.agent
    rw [State.markFailed_rel, mapVec_read _ _ _ rfl, State.testedAgent_eq]
  · unfold State.classRec
    rw [State.markFailed_door, mapVec_read _ _ _ rfl, State.testedClass_eq]
  · unfold State.logicRec
    rw [State.markFailed_rel, mapVec_read _ _ _ rfl, State.testedLogic_eq]
  · rw [State.markFailed_alm]
    rfl
  · rw [State.markFailed_alm]
    unfold AlarmUnit.routeRec
    rw [← State.testedRoute_eq]
    exact mapVec_read _ _ _ rfl k
  · rw [State.markFailed_alm]
    unfold State.testedAlarms State.testedLimit State.testedRecords
    rw [foldl_fail_eq]
  · rw [State.markFailed_alm]
    rfl
  · rw [State.markFailed_alm]
    exact testedAlarms_find s.now hw hn hr
  · unfold AlarmUnit.fail
    rw [hr]
    exact if_pos ((isOrdinary_iff n).2 hn)
  · unfold State.testPerson
    rw [hr]
    simp only [Bool.or_eq_true]
    rfl
  · unfold State.testGrant
    rw [hr]
    simp only [Bool.or_eq_true]
    rfl
  · unfold State.markZone
    rw [State.zone?_changeZone, if_pos rfl, hr]
    simp [hc, State.orphaned]

end Sys2Proof.Machine

/-! ## The Host Port: transactions, and the requests that only read -/

namespace Sys2Proof.Machine

/-- How a request is served: as one that is read, as one that may change records, each by the owner of its table where it
is a record request, or as a restart. -/
inductive ServedBy (code : Nat) (r : Req) : (State → State) → Prop
  | read (f : State.Owner) : ServedBy code r (fun s => s.serveRead r f)
  | write (f : State.Owner) : ServedBy code r (fun s => s.serveWrite r f)
  | readTable (f : Tbl → State.Owner) (h : isRecordCode code = true) :
    ServedBy code r (fun s => s.byTable r State.serveRead f)
  | writeTable (f : Tbl → State.Owner) (h : isRecordCode code = true) :
    ServedBy code r (fun s => s.byTable r State.serveWrite f)
  | restart : ServedBy code r (fun s => s.restartRequest r)

/-- Every command that a request frame carries is served in one of these ways. -/
theorem exec_request {i : Instr} {code : Nat} {r : Req} (h : codeOf i = some (code, r)) :
    ∃ f, ServedBy code r f ∧ ∀ s, exec i s = .next (f s) := by
  cases i <;> cases h
  case lookup | list => exact ⟨_, .readTable _ rfl, fun _ => rfl⟩
  case insert | amend | retire => exact ⟨_, .writeTable _ rfl, fun _ => rfl⟩
  case nextNotice | setMask | status | commission | ackRestart => exact ⟨_, .read _, fun _ => rfl⟩
  case restart => exact ⟨_, .restart, fun _ => rfl⟩
  all_goals exact ⟨_, .write _, fun _ => rfl⟩

namespace State

variable {s : State} {r : Req}

theorem serveRead_none (f : Owner) (h : s.portTakes = false) : s.serveRead r f = s.discardWrite := by
  simp [serveRead, takeWrite_none h]

theorem serveWrite_none (f : Owner) (h : s.portTakes = false) : s.serveWrite r f = s.discardWrite := by
  simp [serveWrite, takeWrite_none h]

theorem serveRead_repeats (f : Owner) (h : s.portTakes = true) (hr : ¬ (ids r.fields).Nodup) :
    s.serveRead r f = s.writeTaken.answeredNo r.tag .badValue := by
  simp [serveRead, takeWrite_taken h, repeatsField, hr, answeredNo]

theorem serveWrite_repeats (f : Owner) (h : s.portTakes = true) (hr : ¬ (ids r.fields).Nodup) :
    s.serveWrite r f = s.writeTaken.answeredNo r.tag .badValue := by
  simp [serveWrite, takeWrite_taken h, repeatsField, hr, answeredNo]

theorem byTable_some {serve : State → Req → Owner → State} {f : Tbl → Owner} {t : Tbl} (h : tableOf r.table = some t) :
    s.byTable r serve f = serve s r (f t) := by
  unfold byTable
  rw [h]

/-- A record request of no table while the port takes no write. -/
theorem byTable_none {serve : State → Req → Owner → State} {f : Tbl → Owner} (h : tableOf r.table = none)
    (hs : s.portTakes = false) : s.byTable r serve f = s.discardWrite := by
  simp [byTable, h, takeWrite_none hs]

/-- A record request of no table (R170). -/
theorem byTable_unknown {serve : State → Req → Owner → State} {f : Tbl → Owner} (h : tableOf r.table = none)
    (hs : s.portTakes = true) : s.byTable r serve f = s.writeTaken.answeredNo r.tag .unknownRequest := by
  simp [byTable, h, takeWrite_taken hs, answeredNo]

/-- A request that carries a field twice is no bare one. -/
theorem bare_false (hr : ¬ (ids r.fields).Nodup) : bare r = false := by
  unfold bare
  cases hf : r.fields with
  | nil => exact absurd ids_nil (hf ▸ hr)
  | cons f l => simp

end State

theorem discarded {code : Nat} {r : Req} {f : State → State} (h : ServedBy code r f) {s : State}
    (hs : s.portTakes = false) : f s = s.discardWrite := by
  cases h with
  | read g => exact State.serveRead_none g hs
  | write g => exact State.serveWrite_none g hs
  | readTable g _ =>
    cases ht : tableOf r.table with
    | none => exact State.byTable_none ht hs
    | some t =>
      dsimp only
      rw [State.byTable_some ht, State.serveRead_none _ hs]
  | writeTable g _ =>
    cases ht : tableOf r.table with
    | none => exact State.byTable_none ht hs
    | some t =>
      dsimp only
      rw [State.byTable_some ht, State.serveWrite_none _ hs]
  | restart => simp [State.restartRequest, State.takeWrite_none hs]

theorem repeated_refused {code : Nat} {r : Req} {f : State → State} (h : ServedBy code r f) {s : State}
    (ht : isRecordCode code = true → (tableOf r.table).isSome = true) (hr : ¬ (ids r.fields).Nodup)
    (hs : s.portTakes = true) : f s = s.writeTaken.answeredNo r.tag .badValue := by
  cases h with
  | read g => exact State.serveRead_repeats g hs hr
  | write g => exact State.serveWrite_repeats g hs hr
  | readTable g hc =>
    obtain ⟨t, htab⟩ := Option.isSome_iff_exists.1 (ht hc)
    dsimp only
    rw [State.byTable_some htab, State.serveRead_repeats _ hs hr]
  | writeTable g hc =>
    obtain ⟨t, htab⟩ := Option.isSome_iff_exists.1 (ht hc)
    dsimp only
    rw [State.byTable_some htab, State.serveWrite_repeats _ hs hr]
  | restart => simp [State.restartRequest, State.takeWrite_taken hs, State.bare_false hr, State.answeredNo]

/-- Settles O15: reads by the port's state, and every request by the way it is served. -/
theorem hostTransactions : Obligations.HostTransactions := by
  refine ⟨⟨fun s p h hb => ?_, fun s h => ?_, fun s => rfl, fun i s h hs => ?_⟩, fun s a tag rest hs => ?_,
    fun s f hf hs => ?_, fun i code r s hi ht hr hs => ?_⟩
  · show Host.Outcome.next s.readTransaction = _
    unfold State.readTransaction
    rw [h, hb]
  · show Host.Outcome.next s.readTransaction = _
    unfold State.readTransaction
    split
    · exact absurd (by assumption) h
    · rfl
  · rcases h with h | ⟨f, rfl⟩
    · obtain ⟨⟨code, r⟩, hc⟩ := Option.isSome_iff_exists.1 h
      obtain ⟨f, hf, he⟩ := exec_request hc
      rw [he, discarded hf hs]
      rfl
    · show Host.Outcome.next (s.refuseFrame f) = _
      unfold State.refuseFrame
      rw [State.takeWrite_none hs]
      rfl
  · show Host.Outcome.next (s.refuseFrame _) = _
    unfold State.refuseFrame
    rw [State.takeWrite_taken hs]
    rfl
  · show Host.Outcome.next (s.refuseFrame f) = _
    unfold State.refuseFrame
    rw [State.takeWrite_taken hs]
    match f, hf with
    | [], _ => rfl
    | [_], _ => rfl
  · obtain ⟨f, hf, he⟩ := exec_request hi
    rw [he, repeated_refused hf ht hr hs]

/-! ### What a read may find -/

/-- A read leaves all but the person and grant records, their marks and the alarms that tell of them (R181). -/
structure Finds (s t : State) : Prop where
  door    : t.door = s.door
  occ     : t.occ = s.occ
  rel     : t.rel = s.rel
  link    : t.link = s.link
  ret     : t.ret = s.ret
  free    : t.free = s.free
  pending : t.pending = s.pending
  waits   : t.adm.waits = s.adm.waits

namespace Finds

variable {s t : State}

theorem refl (s : State) : Finds s s := ⟨rfl, rfl, rfl, rfl, rfl, rfl, rfl, rfl⟩

theorem trans {u : State} (h : Finds s t) (k : Finds t u) : Finds s u :=
  ⟨k.door.trans h.door, k.occ.trans h.occ, k.rel.trans h.rel, k.link.trans h.link, k.ret.trans h.ret,
    k.free.trans h.free, k.pending.trans h.pending, k.waits.trans h.waits⟩

theorem testPerson (s : State) (p : Nat) : Finds s (s.testPerson p) := by
  unfold State.testPerson
  (repeat' split) <;> exact ⟨rfl, rfl, rfl, rfl, rfl, rfl, rfl, rfl⟩

theorem testGrant (s : State) (g : Nat) : Finds s (s.testGrant g) := by
  unfold State.testGrant
  (repeat' split) <;> exact ⟨rfl, rfl, rfl, rfl, rfl, rfl, rfl, rfl⟩

theorem testPersons (s : State) (l : List Nat) : Finds s (s.testPersons l) := by
  unfold State.testPersons
  induction l generalizing s with
  | nil => exact refl s
  | cons p l ih => exact (testPerson s p).trans (ih _)

theorem lookupCredential (s : State) (cred : Nat) : Finds s (s.lookupCredential cred).1 := by
  have h : Finds s (s.resolve cred).1 := testPersons s _
  unfold State.lookupCredential
  split <;> rename_i he <;> rw [he] at h
  · exact h
  · exact h
  · split <;> exact h

theorem lookupPerson (s : State) (r : Req) : Finds s (s.lookupPerson r).1 := by
  unfold State.lookupPerson
  split
  · split
    · exact refl s
    · exact testPerson s _
  · split
    · split
      · exact refl s
      · exact lookupCredential s _
    · exact refl s
  · exact refl s

theorem listPerson (s : State) (r : Req) : Finds s (s.listPerson r).1 := by
  unfold State.listPerson
  split
  · exact refl s
  · split
    · exact refl s
    · exact testPerson s _

theorem lookupGrant (s : State) (r : Req) : Finds s (s.lookupGrant r).1 := by
  unfold State.lookupGrant
  split
  · exact refl s
  · exact testGrant s _

theorem nextGrant (s : State) (t : Table GrantRec) (c : Option Nat) : Finds s (s.nextGrant t c).1 := by
  unfold State.nextGrant
  split
  · exact refl s
  · exact testGrant s _

theorem listGrant (s : State) (r : Req) : Finds s (s.listGrant r).1 := by
  unfold State.listGrant
  split
  · exact refl s
  · exact nextGrant s _ _
  · split
    · split
      · exact refl s
      · split
        · exact refl s
        · exact nextGrant s _ _
    · exact refl s
  · exact refl s

end Finds

theorem lookupOcc_state (s : State) (r : Req) : (s.lookupOcc r).1 = s := by
  unfold State.lookupOcc
  (repeat' split) <;> rfl

theorem lookupZone_state (s : State) (r : Req) : (s.lookupZone r).1 = s := by
  unfold State.lookupZone
  (repeat' split) <;> rfl

theorem lookupDoor_state (s : State) (r : Req) : (s.lookupDoor r).1 = s := by
  unfold State.lookupDoor
  (repeat' split) <;> rfl

theorem lookupClass_state (s : State) (r : Req) : (s.lookupClass r).1 = s := by
  unfold State.lookupClass
  (repeat' split) <;> rfl

theorem lookupAgent_state (s : State) (r : Req) : (s.lookupAgent r).1 = s := by
  unfold State.lookupAgent
  (repeat' split) <;> rfl

theorem lookupLogic_state (s : State) (r : Req) : (s.lookupLogic r).1 = s := by
  unfold State.lookupLogic
  (repeat' split) <;> rfl

theorem lookupRoute_state (s : State) (r : Req) : (s.lookupRoute r).1 = s := by
  unfold State.lookupRoute
  (repeat' split) <;> rfl

theorem lookupAlarm_state (s : State) (r : Req) : (s.lookupAlarm r).1 = s := by
  unfold State.lookupAlarm
  (repeat' split) <;> rfl

theorem lookupStation_state (s : State) (r : Req) : (s.lookupStation r).1 = s := by
  unfold State.lookupStation
  (repeat' split) <;> rfl

theorem listOcc_state (s : State) (r : Req) : (s.listOcc r).1 = s := by
  unfold State.listOcc
  (repeat' split) <;> rfl

theorem listZone_state (s : State) (r : Req) : (s.listZone r).1 = s := by
  unfold State.listZone
  (repeat' split) <;> rfl

theorem listDoor_state (s : State) (r : Req) : (s.listDoor r).1 = s := by
  unfold State.listDoor
  (repeat' split) <;> rfl

theorem listClass_state (s : State) (r : Req) : (s.listClass r).1 = s := by
  unfold State.listClass
  (repeat' split) <;> rfl

theorem listAgent_state (s : State) (r : Req) : (s.listAgent r).1 = s := by
  unfold State.listAgent
  (repeat' split) <;> rfl

theorem listLogic_state (s : State) (r : Req) : (s.listLogic r).1 = s := by
  unfold State.listLogic
  (repeat' split) <;> rfl

theorem listRoute_state (s : State) (r : Req) : (s.listRoute r).1 = s := by
  unfold State.listRoute
  (repeat' split) <;> rfl

theorem listAlarm_state (s : State) (r : Req) : (s.listAlarm r).1 = s := by
  unfold State.listAlarm
  (repeat' split) <;> rfl

theorem listStation_state (s : State) (r : Req) : (s.listStation r).1 = s := by
  unfold State.listStation
  (repeat' split) <;> rfl

/-- On the tables whose records are tested with the rest, LOOKUP changes nothing. -/
theorem lookupIn_state (s : State) (r : Req) {t : Tbl} (hp : t ≠ .person) (hg : t ≠ .grant) : (s.lookupIn t r).1 = s := by
  cases t
  case person => exact absurd rfl hp
  case grant => exact absurd rfl hg
  case occupancy => exact lookupOcc_state s r
  case zone => exact lookupZone_state s r
  case door => exact lookupDoor_state s r
  case cls => exact lookupClass_state s r
  case agent => exact lookupAgent_state s r
  case logic => exact lookupLogic_state s r
  case route => exact lookupRoute_state s r
  case alarm => exact lookupAlarm_state s r
  case station => exact lookupStation_state s r

/-- And so does LIST. -/
theorem listIn_state (s : State) (r : Req) {t : Tbl} (hp : t ≠ .person) (hg : t ≠ .grant) : (s.listIn t r).1 = s := by
  cases t
  case person => exact absurd rfl hp
  case grant => exact absurd rfl hg
  case occupancy => exact listOcc_state s r
  case zone => exact listZone_state s r
  case door => exact listDoor_state s r
  case cls => exact listClass_state s r
  case agent => exact listAgent_state s r
  case logic => exact listLogic_state s r
  case route => exact listRoute_state s r
  case alarm => exact listAlarm_state s r
  case station => exact listStation_state s r

theorem lookupIn_finds (s : State) (r : Req) (t : Tbl) : Finds s (s.lookupIn t r).1 := by
  by_cases hp : t = .person
  · subst hp
    exact .lookupPerson s r
  · by_cases hg : t = .grant
    · subst hg
      exact .lookupGrant s r
    · rw [lookupIn_state s r hp hg]
      exact .refl s

theorem listIn_finds (s : State) (r : Req) (t : Tbl) : Finds s (s.listIn t r).1 := by
  by_cases hp : t = .person
  · subst hp
    exact .listPerson s r
  · by_cases hg : t = .grant
    · subst hg
      exact .listGrant s r
    · rw [listIn_state s r hp hg]
      exact .refl s

/-- After a read that changes at most what it finds, and where `q` says so nothing: from the part as it was, or as it is
asked. -/
def ReadFrom (q : Prop) (s t : State) : Prop :=
  ∃ u, (u = s ∨ u = s.asked) ∧ Finds u t ∧ (q → t.alm = u.alm ∧ t.adm = u.adm)

theorem readFrom_host (q : Prop) (s : State) (u : HostUnit) : ReadFrom q s (s.setHost u) :=
  ⟨s, .inl rfl, ⟨rfl, rfl, rfl, rfl, rfl, rfl, rfl, rfl⟩, fun _ => ⟨rfl, rfl⟩⟩

theorem serveRead_readFrom {q : Prop} (s : State) (r : Req) {f : State.Owner} (hf : ∀ u : State, Finds u (f u r).1)
    (hq : q → ∀ u : State, (f u r).1 = u) : ReadFrom q s (s.serveRead r f) := by
  by_cases hs : s.portTakes = true
  · by_cases hr : (ids r.fields).Nodup
    · rw [State.serveRead_taken f hs hr]
      obtain ⟨h1, h2, h3, h4, h5, h6, h7, h8⟩ := hf s.asked
      refine ⟨s.asked, .inr rfl, ⟨h1, h2, h3, h4, h5, h6, h7, h8⟩, fun h => ?_⟩
      have hu := hq h s.asked
      exact ⟨State.respond_alm .. |>.trans (congrArg State.alm hu), State.respond_adm .. |>.trans (congrArg State.adm hu)⟩
    · rw [State.serveRead_repeats f hs hr]
      exact readFrom_host q s _
  · rw [State.serveRead_none f (by simpa using hs)]
    exact readFrom_host q s _

theorem byTable_readFrom {q : Prop} (s : State) (r : Req) {f : Tbl → State.Owner}
    (hf : ∀ t (u : State), Finds u (f t u r).1)
    (hq : q → ∀ t, tableOf r.table = some t → ∀ u : State, (f t u r).1 = u) :
    ReadFrom q s (s.byTable r State.serveRead f) := by
  cases ht : tableOf r.table with
  | none =>
    cases hs : s.portTakes
    · rw [State.byTable_none ht hs]
      exact readFrom_host q s _
    · rw [State.byTable_unknown ht hs]
      exact readFrom_host q s _
  | some t =>
    rw [State.byTable_some ht]
    exact serveRead_readFrom s r (hf t) fun h => hq h t ht

theorem statusRequest_state (s : State) (r : Req) : (s.statusRequest r).1 = s := by
  unfold State.statusRequest
  split <;> rfl

/-- The three read requests are read so. -/
theorem exec_readFrom {i : Instr} {r : Req} (s : State) (h : i = .lookup r ∨ i = .list r ∨ i = .status r) :
    ∃ t, exec i s = .next t ∧
      ReadFrom (i = .status r ∨ (tableOf r.table ≠ some .person ∧ tableOf r.table ≠ some .grant)) s t := by
  have tables : ∀ {x : Instr} {t : Tbl}, (x = .status r ∨ (tableOf r.table ≠ some .person ∧ tableOf r.table ≠ some .grant)) →
      x ≠ .status r → tableOf r.table = some t → t ≠ .person ∧ t ≠ .grant := by
    rintro x t (rfl | ⟨h1, h2⟩) hx ht
    · exact absurd rfl hx
    · exact ⟨fun e => h1 (e ▸ ht), fun e => h2 (e ▸ ht)⟩
  rcases h with rfl | rfl | rfl
  · refine ⟨_, rfl, byTable_readFrom s r (fun t u => lookupIn_finds u r t) fun hq t ht u => ?_⟩
    obtain ⟨hp, hg⟩ := tables hq nofun ht
    exact lookupIn_state u r hp hg
  · refine ⟨_, rfl, byTable_readFrom s r (fun t u => listIn_finds u r t) fun hq t ht u => ?_⟩
    obtain ⟨hp, hg⟩ := tables hq nofun ht
    exact listIn_state u r hp hg
  · refine ⟨_, rfl, serveRead_readFrom s r (fun u => ?_) fun _ u => statusRequest_state u r⟩
    rw [statusRequest_state]
    exact .refl u

/-! ### LOOKUP and LIST of zones (R7, R172) -/

/-- The next record above a cursor. -/
theorem after_eq_some {α : Type} {t : Table α} (hw : t.wf = true) {c z : Nat} {r : α} (hc : c < z)
    (hz : t.find z = some r) (hn : ∀ y, c < y → y < z → t.find y = none) : t.after (some c) = some (z, r) := by
  induction t with
  | nil => cases hz
  | cons p t ih =>
    obtain ⟨k, v⟩ := p
    rw [Table.find_cons] at hz
    have hw' := (Table.wf_iff _).1 hw
    rw [List.map_cons, List.pairwise_cons] at hw'
    obtain ⟨hlt, hw'⟩ := hw'
    unfold Table.after
    rw [List.find?_cons]
    dsimp only
    split at hz
    · rename_i hk
      cases hz
      rw [hk] at hc
      simp [hc, hk]
    · rename_i hk
      have hkz : k < z := hlt z (List.mem_map.2 ⟨_, Table.mem_of_find hz, rfl⟩)
      have hkc : ¬ c < k := by
        intro h
        have := hn k h hkz
        rw [Table.find_cons, if_pos rfl] at this
        cases this
      simp only [hkc, decide_false]
      refine ih ((Table.wf_iff _).2 hw') hz fun y h1 h2 => ?_
      have := hn y h1 h2
      rw [Table.find_cons] at this
      split at this
      · cases this
      · exact this

theorem after_eq_none {α : Type} {t : Table α} (hw : t.wf = true) {c : Nat} (hn : ∀ y, c < y → t.find y = none) :
    t.after (some c) = none := by
  unfold Table.after
  rw [List.find?_eq_none]
  rintro ⟨k, v⟩ hm
  have hf := Table.find_of_mem hw hm
  intro h
  rw [hn k (by simpa using h)] at hf
  cases hf

theorem answerZone_found {s : State} {z : Nat} {r : ZoneRec} (hz : 1 ≤ z) (h : s.zone? z = some r) :
    s.answerZone z = { status := if r.suspect then .suspect else .ok, fields := zoneImage s z r } := by
  unfold State.answerZone
  rw [if_neg (by omega), h]
  rfl

theorem tableReq_table (tag : Byte) (t : Tbl) (w k : Nat) (fs : List Field) :
    tableOf (tableReq tag t w k fs).table = some t := State.tableOf_code t

theorem cursorAlone_zone (tag : Byte) {c : Nat} (hc : c ≤ 31) :
    cursorAlone 1 0 31 (tableReq tag .zone 1 c []) = some (some c) := by
  have hn : numIn 1 0 31 (toBE 1 c) = some c := numIn_byte (Nat.zero_le c) hc (by decide)
  have ho : optIn 1 0 31 (toBE 1 c) = some (some c) := by
    unfold optIn
    rw [if_neg (show toBE 1 c ≠ [] from List.cons_ne_nil _ _), hn]
  exact ho

/-- Settles O16: a read request changes what it finds at most, and the two zone requests by the table. -/
theorem readRequests : Obligations.ReadRequests := by
  refine ⟨fun i r s h => ?_, fun s tag z r hs h1 h31 hz => ?_, fun s tag hs => ?_, fun s tag c z r hs hw hc h31 hz hn => ?_,
    fun s tag c hs hw hc hn => ?_⟩
  · obtain ⟨t, he, u, hu, hf, hq⟩ := exec_readFrom s h
    exact ⟨t, u, he, hu, hf.door, hf.occ, hf.rel, hf.link, hf.ret, hf.free, hf.pending, hf.waits, hq⟩
  · show Host.Outcome.next (s.byTable _ _ _) = _
    rw [State.byTable_some (tableReq_table tag .zone 1 z []), State.serveRead_taken _ hs State.ids_nil]
    have hk : keyAlone 1 0 31 (tableReq tag .zone 1 z []) = some z := numIn_byte (Nat.zero_le _) h31 (by decide)
    simp only [State.lookupIn, State.lookupZone, hk, answerZone_found h1 hz]
    rfl
  · show Host.Outcome.next (s.byTable _ _ _) = _
    rw [State.byTable_some (t := .zone) rfl, State.serveRead_taken _ hs State.ids_nil]
    rfl
  · show Host.Outcome.next (s.byTable _ _ _) = _
    rw [State.byTable_some (tableReq_table tag .zone 1 c []), State.serveRead_taken _ hs State.ids_nil]
    simp only [State.listIn, State.listZone, cursorAlone_zone tag (show c ≤ 31 by omega), after_eq_some hw hc hz hn, answerZone_found (by omega) hz]
    rfl
  · show Host.Outcome.next (s.byTable _ _ _) = _
    rw [State.byTable_some (tableReq_table tag .zone 1 c []), State.serveRead_taken _ hs State.ids_nil]
    simp only [State.listIn, State.listZone, cursorAlone_zone tag hc, after_eq_none hw hn]
    rfl

end Sys2Proof.Machine

/-! ## The frames of the Host Port and of the station link read back (R160, R170, R184, R186) -/

namespace Sys2Proof.Machine

/-! ### Request frames -/

theorem ofNat_length (l : List Byte) {n : Nat} (h : l.length ≤ n) (hn : n < 256) :
    (BitVec.ofNat 8 l.length).toNat = l.length := by
  rw [BitVec.toNat_ofNat]
  exact Nat.mod_eq_of_lt (by omega)

theorem ofNat_toNat_byte (b : Byte) : BitVec.ofNat 8 b.toNat = b := by
  rw [BitVec.ofNat_toNat, BitVec.setWidth_eq]

theorem readFields_writeFields {fs : List Field} (h : ∀ f ∈ fs, f.2.length ≤ 64) :
    readFields fs.length (writeFields fs) = some fs := by
  induction fs with
  | nil => rfl
  | cons f fs ih =>
    obtain ⟨i, v⟩ := f
    have hv : v.length ≤ 64 := h _ List.mem_cons_self
    have hl := ofNat_length v hv (by decide)
    have hcond : v.length ≤ 64 ∧ v.length ≤ (v ++ writeFields fs).length := by
      rw [List.length_append]
      exact ⟨hv, Nat.le_add_right _ _⟩
    simp only [writeFields, List.length_cons, readFields, hl]
    rw [if_pos hcond, List.drop_left, ih fun f hf => h f (List.mem_cons_of_mem _ hf), List.take_left]

theorem writeFields_readFields {n : Nat} {bs : List Byte} {fs : List Field} (h : readFields n bs = some fs) :
    writeFields fs = bs ∧ fs.length = n := by
  induction n generalizing bs fs with
  | zero =>
    cases bs with
    | nil => cases h; exact ⟨rfl, rfl⟩
    | cons _ _ => cases h
  | succ n ih =>
    match bs, h with
    | i :: l :: rest, h =>
      unfold readFields at h
      split at h
      · rename_i hl
        split at h
        · cases h
        · rename_i gs hg
          cases h
          obtain ⟨hw, hn⟩ := ih hg
          have ht : (rest.take l.toNat).length = l.toNat := by
            rw [List.length_take]
            omega
          refine ⟨?_, by rw [List.length_cons, hn]⟩
          rw [writeFields, hw, ht, ofNat_toNat_byte, List.take_append_drop]
      · cases h

theorem readFrame_writeFrame {code : Nat} {r : Req} (hc : code < 256) (hr : r.wellFormed = true) :
    readFrame (writeFrame code r) = some (code, r) := by
  obtain ⟨⟨hk, hf⟩, hv⟩ : (r.key.length ≤ 5 ∧ r.fields.length ≤ 255) ∧ ∀ f ∈ r.fields, f.2.length ≤ 64 := by
    simpa [Req.wellFormed] using hr
  have hkl := ofNat_length r.key hk (by decide)
  have hcond : r.key.length ≤ 5 ∧
      r.key.length < (r.key ++ BitVec.ofNat 8 r.fields.length :: writeFields r.fields).length := by
    rw [List.length_append, List.length_cons]
    exact ⟨hk, by omega⟩
  have hfl : (BitVec.ofNat 8 r.fields.length).toNat = r.fields.length := by
    rw [BitVec.toNat_ofNat]
    exact Nat.mod_eq_of_lt (by omega)
  have hcode : (BitVec.ofNat 8 code).toNat = code := by
    rw [BitVec.toNat_ofNat]
    exact Nat.mod_eq_of_lt hc
  unfold readFrame writeFrame
  dsimp only
  rw [hkl, if_pos hcond, List.drop_left]
  dsimp only
  rw [hfl, readFields_writeFields hv, List.take_left, hcode]

theorem writeFrame_readFrame {bs : List Byte} {code : Nat} {r : Req} (h : readFrame bs = some (code, r)) :
    writeFrame code r = bs := by
  unfold readFrame at h
  split at h
  · rename_i c tag table klen rest
    split at h
    · rename_i hl
      split at h
      · cases h
      · rename_i count body hd
        split at h
        · cases h
        · rename_i fs hf
          cases h
          obtain ⟨hw, hn⟩ := writeFields_readFields hf
          have ht : (rest.take klen.toNat).length = klen.toNat := by
            rw [List.length_take]
            omega
          unfold writeFrame
          dsimp only
          rw [ht, hn, hw, ofNat_toNat_byte, ofNat_toNat_byte, ofNat_toNat_byte, ← hd, List.take_append_drop]
    · cases h
  · cases h

/-- A request code names the command that carries it. -/
theorem requestOf_eq_some {code : Nat} {r : Req} {i : Instr} : requestOf code r = some i ↔ codeOf i = some (code, r) := by
  constructor
  · intro h
    unfold requestOf at h
    split at h <;> cases h <;> rfl
  · intro h
    cases i <;> cases h <;> rfl

theorem codeOf_lt {i : Instr} {code : Nat} {r : Req} (h : codeOf i = some (code, r)) : code < 256 := by
  cases i <;> cases h <;> decide

theorem wellFormed_of_codeOf {i : Instr} {code : Nat} {r : Req} (h : codeOf i = some (code, r))
    (hw : i.wellFormed = true) : r.wellFormed = true ∧ (isRecordCode code = true → (tableOf r.table).isSome = true) := by
  have record : r.wellFormedRecord = true → r.wellFormed = true ∧ (isRecordCode code = true → (tableOf r.table).isSome = true) := by
    intro hr
    obtain ⟨h1, h2⟩ : r.wellFormed = true ∧ (tableOf r.table).isSome = true := by simpa [Req.wellFormedRecord] using hr
    exact ⟨h1, fun _ => h2⟩
  cases i <;> cases h
  case lookup | list | insert | amend | retire => exact record hw
  all_goals exact ⟨hw, nofun⟩

/-- Settles O3: both directions of the frame's layout, and the code's. -/
theorem frameRoundTrip : Obligations.FrameRoundTrip := by
  constructor
  · intro i hw hc
    obtain ⟨⟨code, r⟩, hcode⟩ := Option.isSome_iff_exists.1 hc
    obtain ⟨hr, htab⟩ := wellFormed_of_codeOf hcode hw
    have hframe : frameOfCommand i = writeFrame code r := by
      unfold frameOfCommand
      rw [hcode]
    have hno : ¬ (isRecordCode code && (tableOf r.table).isNone) = true := by
      intro h
      obtain ⟨h1, h2⟩ : isRecordCode code = true ∧ tableOf r.table = none := by simpa using h
      have := htab h1
      rw [h2] at this
      cases this
    unfold commandOfFrame
    rw [hframe, readFrame_writeFrame (codeOf_lt hcode) hr]
    dsimp only
    rw [requestOf_eq_some.2 hcode]
    dsimp only
    rw [if_neg hno]
  · intro bs
    unfold commandOfFrame
    split
    · rfl
    · rename_i code r hr
      split
      · rfl
      · rename_i i hi
        split
        · rfl
        · unfold frameOfCommand
          rw [requestOf_eq_some.1 hi]
          exact writeFrame_readFrame hr

/-! ### The check value of a message (R160) -/

theorem crcBit_injective {c d : BitVec 16} (h : crcBit c = crcBit d) : c = d := by
  have shift : c <<< 1 = d <<< 1 → c.msb = d.msb → c = d := by
    intro hs hm
    refine BitVec.eq_of_getLsbD_eq fun i hi => ?_
    by_cases h15 : i = 15
    · subst h15
      rwa [BitVec.msb_eq_getLsbD_last, BitVec.msb_eq_getLsbD_last] at hm
    · have := congrArg (fun x => x.getLsbD (i + 1)) hs
      simpa [show i + 1 < 16 by omega, hi] using this
  have low : ∀ x y : BitVec 16, (x <<< 1) ^^^ 0x1021#16 ≠ y <<< 1 := by
    intro x y hx
    have := congrArg (fun x => x.getLsbD 0) hx
    simp at this
  unfold crcBit at h
  cases hc : c.msb <;> cases hd : d.msb <;> simp only [hc, hd, if_true, if_false, Bool.false_eq_true] at h
  · exact shift h (hc.trans hd.symm)
  · exact absurd h.symm (low d c)
  · exact absurd h (low c d)
  · exact shift ((BitVec.xor_left_inj _).1 h) (hc.trans hd.symm)

/-- The register after one byte tells the register before it, and the byte. -/
theorem crcByte_eq {c d : BitVec 16} {x y : Byte} (h : crcByte c x = crcByte d y) :
    c ^^^ (x.setWidth 16 <<< 8) = d ^^^ (y.setWidth 16 <<< 8) := by
  unfold crcByte at h
  iterate 8 replace h := crcBit_injective h
  exact h

theorem crcByte_left {c d : BitVec 16} {x : Byte} (h : crcByte c x = crcByte d x) : c = d :=
  (BitVec.xor_left_inj _).1 (crcByte_eq h)

theorem crcByte_right {c : BitVec 16} {x y : Byte} (h : crcByte c x = crcByte c y) : x = y := by
  have hs := (BitVec.xor_right_inj _).1 (crcByte_eq h)
  refine BitVec.eq_of_getLsbD_eq fun i hi => ?_
  have := congrArg (fun z => z.getLsbD (i + 8)) hs
  simpa [show i + 8 < 16 by omega] using this

theorem foldl_crcByte {c d : BitVec 16} (l : List Byte) (h : l.foldl crcByte c = l.foldl crcByte d) : c = d := by
  induction l generalizing c d with
  | nil => exact h
  | cons x l ih => exact crcByte_left (ih h)

/-! ### Reports -/

theorem toBE_one (n : Nat) : toBE 1 n = [BitVec.ofNat 8 n] := rfl

theorem toBE_length (w n : Nat) : (toBE w n).length = w := by
  induction w with
  | zero => rfl
  | succ w ih => rw [toBE, List.length_cons, ih]

theorem ofBE_toBE_two {n : Nat} (h : n < 65536) : ofBE (toBE 2 n) = n := Option.some.inj (num_two h)

theorem ofBE_toBE_four {n : Nat} (h : n < 4294967296) : ofBE (toBE 4 n) = n := Option.some.inj (num_four h)

theorem toNat_byte {n : Nat} (h : n < 256) : (BitVec.ofNat 8 n).toNat = n := by
  rw [BitVec.toNat_ofNat]
  exact Nat.mod_eq_of_lt h

/-- Two flags in a byte are read back. -/
theorem two_flags : ∀ o l : Bool, (BitVec.ofNat 8 (boolCode o + 2 * boolCode l)).getLsbD 0 = o ∧
    (BitVec.ofNat 8 (boolCode o + 2 * boolCode l)).getLsbD 1 = l := by decide

/-- Six flags in a byte are read back. -/
theorem six_flags : ∀ m a sa sb r p : Bool,
    let f := BitVec.ofNat 8 (boolCode m + 2 * boolCode a + 4 * boolCode sa + 8 * boolCode sb + 16 * boolCode r + 32 * boolCode p)
    f.getLsbD 0 = m ∧ f.getLsbD 1 = a ∧ f.getLsbD 2 = sa ∧ f.getLsbD 3 = sb ∧ f.getLsbD 4 = r ∧ f.getLsbD 5 = p := by
  decide

/-- The status of a report is of its station's kind, in the ranges of R186. -/
def statusFits (k : StationKind) (x : StatusFields) : Prop :=
  match k, x with
  | .door, .door _ _ => True
  | .zone, .zone => True
  | .agent, .agent v1 v2 _ _ _ _ _ _ => v1 ≤ 1023 ∧ v2 ≤ 1023
  | _, _ => False

theorem readStatus_writeStatus {k : StationKind} {x : StatusFields} (h : statusFits k x) :
    readStatus k (writeStatus x) = some x ∧ (writeStatus x).length = statusSize k := by
  unfold statusFits at h
  split at h
  · rename_i o l
    obtain ⟨h0, h1⟩ := two_flags o l
    exact ⟨by simp only [writeStatus, toBE_one, readStatus, h0, h1], rfl⟩
  · exact ⟨rfl, rfl⟩
  · rename_i v1 v2 m a sa sb r p
    obtain ⟨h0, h1, h2, h3, h4, h5⟩ := six_flags m a sa sb r p
    obtain ⟨hv1, hv2⟩ := h
    have e1 : ofBE [BitVec.ofNat 8 (v1 >>> (8 * 1)), BitVec.ofNat 8 (v1 >>> (8 * 0))] = v1 := ofBE_toBE_two (by omega)
    have e2 : ofBE [BitVec.ofNat 8 (v2 >>> (8 * 1)), BitVec.ofNat 8 (v2 >>> (8 * 0))] = v2 := ofBE_toBE_two (by omega)
    refine ⟨?_, rfl⟩
    show (if ofBE _ ≤ 1023 ∧ ofBE _ ≤ 1023 then some (StatusFields.agent (ofBE _) (ofBE _) _ _ _ _ _ _) else none) = _
    rw [e1, e2, if_pos ⟨hv1, hv2⟩]
    simp only [Nat.mul_zero, Nat.shiftRight_zero, h0, h1, h2, h3, h4, h5]
  · exact h.elim

theorem readEvents_writeEvents {es : List Event}
    (h : ∀ e ∈ es, e.type < 256 ∧ e.credential < 4294967296 ∧ e.qualifier < 256) :
    readEvents es.length (es.map writeEvent).flatten = some es ∧ (es.map writeEvent).flatten.length = 6 * es.length := by
  induction es with
  | nil => exact ⟨rfl, rfl⟩
  | cons e es ih =>
    obtain ⟨ht, hc, hq⟩ := h e List.mem_cons_self
    obtain ⟨hr, hl⟩ := ih fun f hf => h f (List.mem_cons_of_mem _ hf)
    have hcred : ofBE [BitVec.ofNat 8 (e.credential >>> (8 * 3)), BitVec.ofNat 8 (e.credential >>> (8 * 2)),
        BitVec.ofNat 8 (e.credential >>> (8 * 1)), BitVec.ofNat 8 (e.credential >>> (8 * 0))] = e.credential :=
      ofBE_toBE_four hc
    constructor
    · simp only [List.map_cons, List.flatten_cons, writeEvent, toBE, List.cons_append, List.nil_append, List.length_cons,
        readEvents, hr, hcred]
      simp only [Nat.mul_zero, Nat.shiftRight_zero, toNat_byte ht, toNat_byte hq]
    · rw [List.map_cons, List.flatten_cons, List.length_append, hl, List.length_cons]
      show 6 + _ = _
      omega

/-- The bytes of a message end with its check value. -/
theorem withCrc_parts (bs : List Byte) : (withCrc bs).take ((withCrc bs).length - 2) = bs ∧
    (withCrc bs).drop ((withCrc bs).length - 2) = toBE 2 (crc bs).toNat := by
  have hl : (withCrc bs).length - 2 = bs.length := by
    unfold withCrc
    rw [List.length_append, toBE_length]
    omega
  rw [hl]
  unfold withCrc
  exact ⟨List.take_left, List.drop_left⟩

theorem readReport_writeReport {k : StationKind} {address : Nat} {r : Report} (ha : address < 256) (hr : reportFits k r) :
    readReport k address (writeReport address r) = some r := by
  obtain ⟨hn, he, hlen, hev, hst⟩ := hr
  obtain ⟨hs, hsl⟩ := readStatus_writeStatus (k := k) (x := r.status) hst
  obtain ⟨hes, hel⟩ := readEvents_writeEvents hev
  generalize hb : toBE 1 address ++ toBE 1 (32 * r.number + 4 * r.echo) ++ toBE 1 r.events.length ++
    writeStatus r.status ++ (r.events.map writeEvent).flatten = body
  have hw : writeReport address r = withCrc body := by rw [← hb]; rfl
  obtain ⟨ht, hd⟩ := withCrc_parts body
  have hbytes : withCrc body = BitVec.ofNat 8 address :: BitVec.ofNat 8 (32 * r.number + 4 * r.echo) ::
      BitVec.ofNat 8 r.events.length :: (writeStatus r.status ++ ((r.events.map writeEvent).flatten ++
        toBE 2 (crc body).toNat)) := by
    unfold withCrc
    rw [← hb]
    simp only [toBE_one, List.append_assoc, List.cons_append, List.nil_append]
  rw [hw]
  generalize hcrc : toBE 2 (crc body).toNat = last at hbytes hd
  have hlast : last.length = 2 := by rw [← hcrc, toBE_length]
  have hc := toNat_byte (n := 32 * r.number + 4 * r.echo) (by omega)
  have hcount := toNat_byte (n := r.events.length) (by omega)
  have hlength : (writeStatus r.status ++ ((r.events.map writeEvent).flatten ++ last)).length =
      statusSize k + 6 * r.events.length + 2 := by
    rw [List.length_append, List.length_append, hsl, hel, hlast]
    omega
  rw [hbytes] at ht hd ⊢
  unfold readReport
  dsimp only
  rw [ht, hd, hc, hcount, toNat_byte ha, hcrc, if_pos ⟨rfl, by omega, hlen, hlength, rfl⟩, ← hsl, List.take_left,
    List.drop_left, ← hel, List.take_left, hs, hes]
  simp only [Option.some.injEq]
  obtain ⟨number, echo, status, events⟩ := r
  dsimp only at hn he ⊢
  congr 1 <;> omega

/-- Settles O4: the layout of a report reads back, and the check register loses nothing. -/
theorem reportRoundTrip : Obligations.ReportRoundTrip := by
  refine ⟨fun k address r => readReport_writeReport, fun before after x y hne h => hne ?_⟩
  unfold crc at h
  rw [List.foldl_append, List.foldl_append, List.foldl_cons, List.foldl_cons] at h
  exact crcByte_right (foldl_crcByte after h)

end Sys2Proof.Machine

/-! ## Record requests: how they are answered; persons, grants and the fixed tables -/

namespace Sys2Proof.Machine

/-! ### A request that its owner has answered -/

/-- What follows a request that its owner answers so. -/
def answered (tag : Byte) (x : State × Answer) : State := (State.followed x).respond tag x.2

theorem answered_with (tag : Byte) (t : State) {a : Answer} (h : a.status = .ok) :
    answered tag (t, a) = t.answeredWith tag a := by
  simp [answered, State.followed, h, State.answeredWith]

theorem answered_ok (tag : Byte) (t : State) (fs : List Field) : answered tag (t, okWith fs) = t.answeredOk tag fs := by
  rw [answered_with _ _ rfl, State.answeredWith, State.answeredOk]

theorem answered_okKey (tag : Byte) (t : State) (w k : Nat) :
    answered tag (t, okKey w k) = t.answeredOk tag [fldN 0 w k] := answered_ok tag t _

theorem answered_not (tag : Byte) (t : State) {a : Answer} (h : a.status ≠ .ok) : answered tag (t, a) = t.respond tag a := by
  simp [answered, State.followed, h]

theorem answered_no (tag : Byte) (t : State) {c : Status} (h : c ≠ .ok) :
    answered tag (t, refusedWith c) = t.answeredNo tag c := answered_not tag t h

/-- The answer of a suspect record changes nothing (R174). -/
theorem answered_suspect (tag : Byte) (t : State) (fs : List Field) :
    answered tag (t, imageOf true fs) = t.respond tag { status := .suspect, fields := fs } := answered_not tag t nofun

variable {s : State} {r : Req} {t : Tbl}

theorem serveWrite_answered {f : State.Owner} (h : s.portTakes = true) (hr : (ids r.fields).Nodup) :
    s.serveWrite r f = answered r.tag (f s.asked r) := State.serveWrite_taken f h hr

theorem exec_insert_taken (h : s.portTakes = true) (ht : tableOf r.table = some t) (hr : (ids r.fields).Nodup) :
    exec (.insert r) s = .next (answered r.tag (s.asked.insertIn t r)) := by
  show Host.Outcome.next (s.byTable _ _ _) = _
  rw [State.byTable_some ht, serveWrite_answered h hr]

theorem exec_amend_taken (h : s.portTakes = true) (ht : tableOf r.table = some t) (hr : (ids r.fields).Nodup) :
    exec (.amend r) s = .next (answered r.tag (s.asked.amendIn t r)) := by
  show Host.Outcome.next (s.byTable _ _ _) = _
  rw [State.byTable_some ht, serveWrite_answered h hr]

theorem exec_retire_taken (h : s.portTakes = true) (ht : tableOf r.table = some t) (hr : (ids r.fields).Nodup) :
    exec (.retire r) s = .next (answered r.tag (s.asked.retireIn t r)) := by
  show Host.Outcome.next (s.byTable _ _ _) = _
  rw [State.byTable_some ht, serveWrite_answered h hr]

/-! ### The key and the fields of a request on a table -/

section
variable {tag : Byte} {w k : Nat} {fs : List Field}

theorem keyIn_byte {lo hi : Nat} (hl : lo ≤ k) (hh : k ≤ hi) (h : hi < 256) : keyIn 1 lo hi (tableReq tag t 1 k fs) = some k :=
  numIn_byte hl hh h

theorem keyIn_two {lo hi : Nat} (hl : lo ≤ k) (hh : k ≤ hi) (h : hi < 65536) :
    keyIn 2 lo hi (tableReq tag t 2 k fs) = some k := numIn_two hl hh h

theorem keyAlone_byte {lo hi : Nat} (hl : lo ≤ k) (hh : k ≤ hi) (h : hi < 256) :
    keyAlone 1 lo hi (tableReq tag t 1 k []) = some k := numIn_byte hl hh h

theorem keyAlone_two {lo hi : Nat} (hl : lo ≤ k) (hh : k ≤ hi) (h : hi < 65536) :
    keyAlone 2 lo hi (tableReq tag t 2 k []) = some k := numIn_two hl hh h

theorem insert_table (h : s.portTakes = true) (hr : (ids fs).Nodup) :
    exec (.insert (tableReq tag t w k fs)) s = .next (answered tag (s.asked.insertIn t (tableReq tag t w k fs))) :=
  exec_insert_taken h (tableReq_table tag t w k fs) hr

theorem amend_table (h : s.portTakes = true) (hr : (ids fs).Nodup) :
    exec (.amend (tableReq tag t w k fs)) s = .next (answered tag (s.asked.amendIn t (tableReq tag t w k fs))) :=
  exec_amend_taken h (tableReq_table tag t w k fs) hr

theorem retire_table (h : s.portTakes = true) :
    exec (.retire (tableReq tag t w k [])) s = .next (answered tag (s.asked.retireIn t (tableReq tag t w k []))) :=
  exec_retire_taken h (tableReq_table tag t w k []) State.ids_nil

/-- A request with one field carries its id alone. -/
theorem carries_one (i : Nat) (v : List Byte) (hi : i < 256) (l : List Nat) :
    carries [fld i v] l = l.all (fun j => decide (j = i)) := by
  have hid : ids [fld i v] = [i] := by
    show [(BitVec.ofNat 8 i).toNat] = [i]
    rw [toNat_byte hi]
  unfold carries
  rw [hid]
  simp

/-- One field is folded into a record by its field function. -/
theorem foldFields_one {α : Type} (f : α → Nat → List Byte → Option α) (a : α) (i : Nat) (v : List Byte) (hi : i < 256) :
    foldFields f a [fld i v] = f a i v := by
  show (match f a (BitVec.ofNat 8 i).toNat v with | none => none | some b => some b) = _
  rw [toNat_byte hi]
  cases f a i v <;> rfl

/-- So are two. -/
theorem foldFields_two {α : Type} (f : α → Nat → List Byte → Option α) (a : α) {b : α} {i j : Nat} {v w : List Byte}
    (hi : i < 256) (hj : j < 256) (hb : f a i v = some b) : foldFields f a [fld i v, fld j w] = f b j w := by
  have h : foldFields f a [fld i v, fld j w] = (match f a (BitVec.ofNat 8 i).toNat v with
      | none => none | some c => foldFields f c [fld j w]) := rfl
  rw [h, toNat_byte hi, hb]
  exact foldFields_one f b j w hj

end

/-! ### Persons and grants -/

theorem holders_eq_nil {c : Nat} (h : ∀ p ∈ s.adm.persons, p.2.cfg.credential ≠ c) : s.holders c = [] := by
  unfold State.holders
  rw [List.filter_eq_nil_iff.2 fun p hp => by simpa using h p hp]
  rfl

theorem testPerson_absent {k : Nat} (h : s.person? k = none) : s.testPerson k = s := by
  unfold State.testPerson
  rw [h]

/-- INSERT of a person with a free number and a free credential (R45). -/
theorem insertPerson_free {tag : Byte} {k c : Nat} (h1 : 1 ≤ k) (hk : k ≤ 65535) (h1c : 1 ≤ c) (hc : c ≤ 4294967295)
    (hp : s.person? k = none) (hf : ∀ p ∈ s.adm.persons, p.2.cfg.credential ≠ c)
    (hl : s.adm.persons.length < Config.maxPersons) :
    s.insertPerson (tableReq tag .person 2 k [fld 2 (toBE 4 c)]) =
      (s.putPerson k { cfg := { credential := c } }, okKey 2 k) := by
  have hfield : State.personField { credential := 0 } 2 (toBE 4 c) = some { credential := c } := by
    show (numIn 4 1 4294967295 (toBE 4 c)).map _ = _
    rw [numIn_four h1c hc (by decide)]
    rfl
  have htaken : s.credentialTaken k c = false := by
    unfold State.credentialTaken
    rw [holders_eq_nil hf]
    rfl
  have hfull : ¬ Config.maxPersons ≤ s.adm.persons.length := by omega
  unfold State.insertPerson
  rw [keyIn_two h1 hk (by decide)]
  dsimp only
  rw [testPerson_absent hp, hp, show (tableReq tag .person 2 k [fld 2 (toBE 4 c)]).fields = [fld 2 (toBE 4 c)] from rfl,
    foldFields_one _ _ _ _ (by decide), hfield, carries_one _ _ (by decide)]
  simp [htaken, hfull, State.storePerson]

/-- Settles O17: the two requests through their owners. -/
theorem personAndGrantRecords : Obligations.PersonAndGrantRecords := by
  constructor
  · intro s tag k c hs h1 hk h1c hc u hp hf hl
    rw [insert_table hs (State.ids_one _)]
    show Host.Outcome.next (answered tag (u.insertPerson _)) = _
    rw [insertPerson_free h1 hk h1c hc hp hf hl, answered_okKey]
  · intro s tag n g hs h1 hn u hg
    refine ⟨?_, fun d => ?_⟩
    · rw [retire_table hs]
      show Host.Outcome.next (answered tag (u.retireGrant _)) = _
      unfold State.retireGrant
      rw [keyAlone_two h1 hn (by decide)]
      dsimp only
      rw [hg, if_neg (by simp), answered_okKey]
      rfl
    · unfold State.markDoor
      have hmark : State.markPassage n = fun x => if x.dir = .entry ∧ x.grant = some n then { x with retiredGrant := true } else x := by
        funext x
        unfold State.markPassage
        simp only [Bool.and_eq_true, decide_eq_true_eq]
      rw [hmark]

/-! ### Classes, routes, the route limit and logic selectors -/

/-- The answer of a request whose record is stored. -/
theorem amendClass_strike {tag : Byte} {k n : Nat} (hk : k ≤ 7) (hn : n ≤ 65535) (hq : (s.classRec k).suspect = false) :
    s.amendClass (tableReq tag .cls 1 k [fld 3 (toBE 2 n)]) =
      (s.putClass k { cfg := { (s.classRec k).cfg with strike := max 10 (min 300 n) } },
        { status := .ok, fields := [fldN 0 1 k], clamped := n < 10 || 300 < n }) := by
  have hfield : State.classField ((s.classRec k).cfg, false) 3 (toBE 2 n) =
      some ({ (s.classRec k).cfg with strike := max 10 (min 300 n) }, n < 10 || 300 < n) := by
    have hclamp : (State.clampTo 10 300 n != n) = (n < 10 || 300 < n : Bool) := by
      unfold State.clampTo
      rw [Bool.eq_iff_iff]
      simp only [bne_iff_ne, Bool.or_eq_true, decide_eq_true_eq]
      omega
    unfold State.classField State.clampIn
    dsimp only
    rw [num_two (by omega)]
    simp only [Option.map_some, hclamp, Bool.false_or]
    rfl
  unfold State.amendClass
  rw [keyIn_byte (Nat.zero_le _) hk (by decide)]
  dsimp only
  rw [hq, show (tableReq tag .cls 1 k [fld 3 (toBE 2 n)]).fields = [fld 3 (toBE 2 n)] from rfl,
    foldFields_one _ _ _ _ (by decide), hfield]
  rfl

theorem amendRoute_class {tag : Byte} {k n : Nat} (h1 : 1 ≤ k) (hk : k ≤ 31) (hn : n ≤ 3)
    (hq : (s.alm.routeRec k).suspect = false) : s.amendRoute (tableReq tag .route 1 k [fldN 2 1 n]) =
      (s.setAlm { s.alm with
        routes := s.alm.routes.setIfInBounds k { cfg := { (s.alm.routeRec k).cfg with cls := n } } }, okKey 1 k) := by
  have hfield : State.routeField (s.alm.routeRec k).cfg 2 (toBE 1 n) = some { (s.alm.routeRec k).cfg with cls := n } := by
    show (numIn 1 0 3 (toBE 1 n)).map _ = _
    rw [numIn_byte (Nat.zero_le _) hn (by decide)]
    rfl
  have hforb : ∀ c fs, State.routeForbidden k c fs = false := fun c fs => by
    simp [State.routeForbidden, show k ≠ 0 by omega]
  unfold State.amendRoute
  rw [keyIn_byte (Nat.zero_le _) (by omega) (by decide)]
  dsimp only
  rw [if_neg (by omega)]
  unfold State.amendEntry
  dsimp only
  rw [hq, show (tableReq tag .route 1 k [fldN 2 1 n]).fields = [fld 2 (toBE 1 n)] from rfl,
    foldFields_one _ _ _ _ (by decide), hfield]
  simp [hforb]

theorem amendRoute_limit {tag : Byte} {fs : List Field} :
    s.amendRoute (tableReq tag .route 1 32 fs) = s.amendLimit (tableReq tag .route 1 32 fs) := by
  unfold State.amendRoute
  rw [keyIn_byte (Nat.zero_le _) (by decide) (by decide)]
  rfl

/-- An AMEND that carries the route limit (R137). -/
theorem amendLimit_carried {tag : Byte} {n : Nat} (h1 : 1 ≤ n) (hn : n ≤ 32) :
    s.amendLimit (tableReq tag .route 1 32 [fldN 5 1 n]) =
      (let v := s.setAlm { s.alm with limit := n, limitSuspect := false, limitOk := true }
       if s.alm.limitSuspect then v.endSuspect .route 32 else v, okKey 1 32) := by
  have hc : carries [fldN 5 1 n] [5] = true := by
    rw [fldN, carries_one _ _ (by decide)]
    rfl
  unfold State.amendLimit
  rw [show (tableReq tag .route 1 32 [fldN 5 1 n]).fields = [fldN 5 1 n] from rfl, hc]
  simp only [Bool.not_true, Bool.and_false, Bool.false_eq_true, if_false]
  rw [show (fldN 5 1 n).2 = toBE 1 n from rfl, numIn_byte h1 hn (by decide)]
  rfl

/-- While it is suspect, an AMEND that does not carry it answers SUSPECT (R174). -/
theorem amendLimit_suspect {tag : Byte} {fs : List Field} (h : s.alm.limitSuspect = true)
    (hfs : fs = [] ∨ ∃ n, fs = [fldN 2 1 n]) : s.amendLimit (tableReq tag .route 1 32 fs) =
      (s, imageOf true [fldN 1 1 32, fldN 5 1 s.alm.limit]) := by
  have hc : carries fs [5] = false := by
    rcases hfs with rfl | ⟨n, rfl⟩
    · rfl
    · rw [fldN, carries_one _ _ (by decide)]
      rfl
  unfold State.amendLimit
  rw [show (tableReq tag .route 1 32 fs).fields = fs from rfl, hc, h]
  simp only [Bool.not_false, Bool.and_true, if_true]
  unfold State.answerRoute
  rw [if_pos rfl, h]
  rfl

theorem amendLogic_release {tag : Byte} {a n : Nat} (ha : a ≤ 7) (hn : n ≤ 31) (hq : (s.logicRec a).suspect = false) :
    s.amendLogic (tableReq tag .logic 1 a [fldN 4 1 n]) =
      if State.releaseUnderWay (s.agent a).state then (s, refusedWith .wrongState)
      else (let v := s.putLogic a { cfg := { (s.logicRec a).cfg with releaseSel := n } }
            if v.logicRuns a then (v.evaluate a).actOutputs a (s.agent a).alertOut (s.agent a).releaseOut else v,
          okKey 1 a) := by
  have hfield : State.logicField (s.logicRec a).cfg 4 (toBE 1 n) = some { (s.logicRec a).cfg with releaseSel := n } := by
    show (numIn 1 0 31 (toBE 1 n)).map _ = _
    rw [numIn_byte (Nat.zero_le _) hn (by decide)]
    rfl
  unfold State.amendLogic
  rw [keyIn_byte (Nat.zero_le _) ha (by decide)]
  dsimp only
  rw [hq, show (tableReq tag .logic 1 a [fldN 4 1 n]).fields = [fld 4 (toBE 1 n)] from rfl,
    foldFields_one _ _ _ _ (by decide), hfield]
  simp [State.storeLogic]

/-- Settles O18: each request through its owner. -/
theorem fixedTablesAmend : Obligations.FixedTablesAmend := by
  intro s tag hs u
  refine ⟨fun k n hk hn hq => ?_, fun k n h1 hk hn hq => ?_, fun n h1 hn hq => ?_, fun hq => ⟨fun fs hfs => ?_, fun n h1 hn => ?_⟩,
    fun a n ha hn hq => ?_⟩
  · rw [amend_table hs (State.ids_one _)]
    show Host.Outcome.next (answered tag (u.amendClass _)) = _
    rw [amendClass_strike hk hn hq, answered_with _ _ rfl]
  · rw [amend_table hs (State.ids_one _)]
    show Host.Outcome.next (answered tag (u.amendRoute _)) = _
    rw [amendRoute_class h1 hk hn hq, answered_okKey]
  · rw [amend_table hs (State.ids_one _)]
    show Host.Outcome.next (answered tag (u.amendRoute _)) = _
    rw [amendRoute_limit, amendLimit_carried h1 hn, answered_okKey]
    simp only [hq, Bool.false_eq_true, if_false]
  · rw [amend_table hs (by rcases hfs with rfl | ⟨n, rfl⟩; exacts [State.ids_nil, State.ids_one _])]
    show Host.Outcome.next (answered tag (u.amendRoute _)) = _
    rw [amendRoute_limit, amendLimit_suspect hq hfs, answered_suspect]
  · rw [amend_table hs (State.ids_one _)]
    show Host.Outcome.next (answered tag (u.amendRoute _)) = _
    rw [amendRoute_limit, amendLimit_carried h1 hn, answered_okKey]
    simp only [hq, if_true]
    rfl
  · rw [amend_table hs (State.ids_one _)]
    show Host.Outcome.next (answered tag (u.amendLogic _)) = _
    rw [amendLogic_release ha hn hq]
    generalize hv : u.putLogic a { cfg := { (u.logicRec a).cfg with releaseSel := n } } = v
    have hagent : v.agent a = u.agent a := by rw [← hv]; rfl
    have hruns : v.logicRuns a = ((u.agent a).state != .unconfigured && !(u.agent a).suspect && !(u.agent a).halted) := by
      unfold State.logicRuns State.active
      rw [hagent]
    dsimp only
    rw [hruns]
    congr 1
    cases hst : (u.agent a).state
    case countdown | abortHeld | occupiedHold | discharge | discharged => exact answered_no _ _ nofun
    case unconfigured => exact answered_okKey _ _ _ _
    all_goals
      simp only [State.releaseUnderWay, Bool.false_eq_true, if_false, answered_okKey]
      cases (u.agent a).suspect <;> cases (u.agent a).halted <;> simp

end Sys2Proof.Machine

/-! ## Requests on occupancy records (R98 to R102) -/

namespace Sys2Proof.Machine

theorem ids_fld {i : Nat} (v : List Byte) (fs : List Field) (hi : i < 256) : ids (fld i v :: fs) = i :: ids fs := by
  show (BitVec.ofNat 8 i).toNat :: ids fs = _
  rw [toNat_byte hi]

theorem ids_two {i j : Nat} (v w : List Byte) (hi : i < 256) (hj : j < 256) (h : i ≠ j) :
    (ids [fld i v, fld j w]).Nodup := by
  rw [ids_fld _ _ hi, ids_fld _ _ hj]
  simp [ids, h]

/-- The search for a free key finds the lowest. -/
theorem freeFrom_eq {α : Type} {t : Table α} {fuel j i : Nat} (hj : j ≤ i) (hi : i < j + fuel) (hn : t.find i = none)
    (hs : ∀ m, j ≤ m → m < i → (t.find m).isSome = true) : Table.freeFrom t fuel j = some i := by
  induction fuel generalizing j with
  | zero => omega
  | succ n ih =>
    unfold Table.freeFrom
    by_cases he : j = i
    · rw [he, hn]
      rfl
    · rw [if_pos (hs j (le_refl _) (by omega))]
      exact ih (by omega) (by omega) fun m hm => hs m (by omega)

variable {s : State} {tag : Byte}

theorem lowestSlot_eq {i : Nat} (hi : i < 256) (hn : s.occ? i = none) (hs : ∀ j < i, (s.occ? j).isSome = true) :
    s.lowestSlot = some i := freeFrom_eq (Nat.zero_le _) (by simpa [Config.occSlots] using hi) hn fun m _ => hs m

theorem checkinFor_eq {z : Nat} {r : ZoneRec} (hz : s.zone? z = some r) (hr : r.suspect = false) : s.checkinFor z =
    if r.hours = .after ∧ r.cfg.checkin ≠ 0 then some (s.now + r.cfg.checkin * 60) else none := by
  simp [State.checkinFor, hz, hr]

/-- INSERT into a HELD sound zone of a person that no record names (R101). -/
theorem insertOcc_free {p z i : Nat} {zr : ZoneRec} (hp1 : 1 ≤ p) (hp : p ≤ 65535) (hz1 : 1 ≤ z) (hz : z ≤ 31)
    (hper : (s.person? p).isSome = true) (hzr : s.zone? z = some zr) (hsus : zr.suspect = false) (hheld : zr.freeze = .held)
    (hno : ∀ q ∈ s.occ.recs, q.2.person ≠ p) (hi : i < 256) (hn : s.occ? i = none)
    (hs : ∀ j < i, (s.occ? j).isSome = true) :
    s.insertOcc { tag := tag, table := 3#8, fields := [fldN 2 2 p, fldN 3 1 z] } =
      ((((s.putOcc i {
            person := p, zone := z, entered := s.now, zoneEntered := s.now, basis := .host
            checkin := if zr.hours = .after ∧ zr.cfg.checkin ≠ 0 then some (s.now + zr.cfg.checkin * 60) else none
          }).pairEvaluateSince s).settle).recomputeFor [z], okKey 1 i) := by
  have hf2 : State.occField s.now {} 2 (toBE 2 p) = some { person := some p } := by
    show (numIn 2 1 65535 (toBE 2 p)).map _ = _
    rw [numIn_two hp1 hp (by decide)]
    rfl
  have hf3 : State.occField s.now { person := some p } 3 (toBE 1 z) = some { person := some p, zone := some z } := by
    show (numIn 1 1 31 (toBE 1 z)).map _ = _
    rw [numIn_byte hz1 hz (by decide)]
    rfl
  have hfields : foldFields (State.occField s.now) {} [fldN 2 2 p, fldN 3 1 z] =
      some { person := some p, zone := some z } :=
    (foldFields_two _ _ (by decide) (by decide) hf2).trans hf3
  have hany : s.occ.recs.any (fun q => q.2.person = p && some q.1 != none) = false := by
    rw [List.any_eq_false]
    intro q hq
    simp [hno q hq]
  have hslot : s.insertSlot none p = .ok (i, false) := by
    unfold State.insertSlot
    dsimp only [Option.bind_none]
    rw [if_neg Bool.false_ne_true, hany, if_neg Bool.false_ne_true, lowestSlot_eq hi hn hs]
  have hkey : State.slotIn { tag := tag, table := 3#8, fields := [fldN 2 2 p, fldN 3 1 z] } = some none := rfl
  unfold State.insertOcc
  rw [hkey, hfields]
  dsimp only
  have hper' : (s.person? p).isNone = false := by rw [← Option.not_isSome, hper]; rfl
  simp only [hper', Bool.false_eq_true, if_false, hzr, hsus, hheld, bne_self_eq_false, hslot, hn]
  unfold State.hostRecord State.storeOcc
  rw [checkinFor_eq hzr hsus]
  rfl

theorem numIn_after {n t : Nat} (ht : t ≤ Config.secondsTop) :
    numIn 4 (n + 1) Config.secondsTop (toBE 4 t) = if t ≤ n then none else some t := by
  have hw : t < 4294967296 := by unfold Config.secondsTop at ht; omega
  revert ht
  generalize Config.secondsTop = top
  intro ht
  unfold numIn
  rw [num_four hw]
  by_cases hn : t ≤ n
  · exact (if_neg (by omega)).trans (if_pos hn).symm
  · exact (if_pos (by omega)).trans (if_neg hn).symm

theorem amendDwell_eq {k t : Nat} {r : OccRec} {v : List Byte}
    (hv : numIn 4 (s.now + 1) Config.secondsTop v = if t ≤ s.now then none else some t) :
    s.amendDwell k r v =
      if t ≤ s.now then (s, refusedWith .badValue)
      else match r.dwell with
        | none => (s, refusedWith .wrongState)
        | some d =>
          if t ≤ d then (s, refusedWith .badValue)
          else ((s.putOcc k { r with dwell := some t, overdue := false }).endAlarm .dwellOverrun (.person r.person),
            okKey 1 k) := by
  unfold State.amendDwell
  rw [hv]
  by_cases hnow : t ≤ s.now
  · rw [if_pos hnow, if_pos hnow]
  · rw [if_neg hnow, if_neg hnow]
    cases r.dwell with
    | none => rfl
    | some d =>
      by_cases hd : t ≤ d
      · exact (if_neg (Nat.not_lt.2 hd)).trans (if_pos hd).symm
      · exact (if_pos (Nat.lt_of_not_le hd)).trans (if_neg hd).symm

theorem amendOcc_dwell {k t : Nat} (hk : k ≤ 255) (ht : t ≤ Config.secondsTop) :
    s.amendOcc (tableReq tag .occupancy 1 k [fld 4 (toBE 4 t)]) =
      match s.occ? k with
      | none => (s, refusedWith .notFound)
      | some r =>
        if r.suspect then (s, imageOf true (occImage k r))
        else if t ≤ s.now then (s, refusedWith .badValue)
        else match r.dwell with
          | none => (s, refusedWith .wrongState)
          | some d =>
            if t ≤ d then (s, refusedWith .badValue)
            else ((s.putOcc k { r with dwell := some t, overdue := false }).endAlarm .dwellOverrun (.person r.person),
              okKey 1 k) := by
  unfold State.amendOcc
  rw [keyIn_byte (Nat.zero_le _) hk (by decide)]
  have hf : (tableReq tag .occupancy 1 k [fld 4 (toBE 4 t)]).fields = [(4#8, toBE 4 t)] := rfl
  rw [hf]
  cases hr : s.occ? k with
  | none => simp only [hr, Bool.false_eq_true, if_false, if_true]
  | some r =>
    by_cases hsus : r.suspect = true
    · simp only [hsus, if_true, State.answerOcc, hr]
    · simp only [hr, hsus, Bool.false_eq_true, if_false, if_true, amendDwell_eq (numIn_after ht)]

theorem amendOcc_suspect {k : Nat} {r : OccRec} (hk : k ≤ 255) (hr : s.occ? k = some r) (hs : r.suspect = true) :
    s.amendOcc (tableReq tag .occupancy 1 k []) = (s, imageOf true (occImage k r)) := by
  unfold State.amendOcc
  rw [keyIn_byte (Nat.zero_le _) hk (by decide)]
  dsimp only
  rw [hr]
  simp only [hs, if_true, State.answerOcc, hr]

theorem retireOcc_eq {k : Nat} (hk : k ≤ 255) : s.retireOcc (tableReq tag .occupancy 1 k []) =
    match s.occ? k with
    | none => (s, refusedWith .notFound)
    | some r =>
      if s.zoneHeld r.zone = false then (s, refusedWith .notHeld)
      else ((((s.retireRecord k r).pairEvaluateSince s).settle).recomputeFor [r.zone],
        okWith [fldN 0 1 k, fldN 2 2 r.person]) := by
  unfold State.retireOcc
  rw [keyAlone_byte (Nat.zero_le _) hk (by decide)]
  dsimp only
  cases s.occ? k with
  | none => rfl
  | some r =>
    dsimp only
    simp only [Bool.not_eq_true']

/-- Settles O19: each request through its owner. -/
theorem occupancyRequests : Obligations.OccupancyRequests := by
  intro s tag hs u
  refine ⟨fun p z i zr hp1 hp hz1 hz hper hzr hsus hheld hno hi hn hslots => ?_, fun k t hk ht => ?_,
    fun k r hk hr hsus => ?_, fun k hk => ⟨?_, fun r => ?_⟩⟩
  · rw [exec_insert_taken hs rfl (ids_two _ _ (by decide) (by decide) (by decide))]
    show Host.Outcome.next (answered tag (u.insertOcc _)) = _
    rw [insertOcc_free hp1 hp hz1 hz hper hzr hsus hheld hno hi hn hslots, answered_okKey]
  · rw [amend_table hs (State.ids_one _)]
    show Host.Outcome.next (answered tag (u.amendOcc _)) = _
    rw [amendOcc_dwell hk ht]
    congr 1
    cases u.occ? k with
    | none => exact answered_no _ _ nofun
    | some r =>
      dsimp only
      split
      · exact answered_suspect _ _ _
      · split
        · exact answered_no _ _ nofun
        · cases r.dwell with
          | none => exact answered_no _ _ nofun
          | some d =>
            dsimp only
            split
            · exact answered_no _ _ nofun
            · exact answered_okKey _ _ _ _
  · rw [amend_table hs State.ids_nil]
    show Host.Outcome.next (answered tag (u.amendOcc _)) = _
    rw [amendOcc_suspect hk hr hsus, answered_suspect]
  · rw [retire_table hs]
    show Host.Outcome.next (answered tag (u.retireOcc _)) = _
    rw [retireOcc_eq hk]
    congr 1
    cases u.occ? k with
    | none => exact answered_no _ _ nofun
    | some r =>
      dsimp only
      split
      · exact answered_no _ _ nofun
      · exact answered_ok _ _ _
  · rfl

end Sys2Proof.Machine

/-! ## Alarms: raises, ends, the notice that is presented, and the supervisor's requests (07_staff_alarms.md) -/

namespace Sys2Proof.Machine

/-! ### The best of a list, as a walk over it finds it -/

section
variable {α : Type} {f : Option α → α → Option α} {ok : α → Prop} {before better : α → α → Prop}

theorem foldl_best_from (ht : ∀ x y z, better x y → better y z → better x z) (hskip : ∀ b x, ¬ ok x → f b x = b)
    (hstep : ∀ q x, before q x → ok q → ok x → (f (some q) x = some x ∧ better x q) ∨ (f (some q) x = some q ∧ better q x))
    (l : List α) (q : α) (hq : ok q) (hp : (q :: l).Pairwise before) :
    ∃ v ∈ q :: l, ok v ∧ l.foldl f (some q) = some v ∧ ∀ w ∈ q :: l, ok w → w = v ∨ better v w := by
  induction l generalizing q with
  | nil => exact ⟨q, List.mem_cons_self, hq, rfl, fun w hw _ => .inl (List.mem_singleton.1 hw)⟩
  | cons x l ih =>
    obtain ⟨hqx, hxl⟩ := List.pairwise_cons.1 hp
    have hql : (q :: l).Pairwise before :=
      List.pairwise_cons.2 ⟨fun y hy => hqx y (List.mem_cons_of_mem _ hy), (List.pairwise_cons.1 hxl).2⟩
    rw [List.foldl_cons]
    by_cases hx : ok x
    · rcases hstep q x (hqx x List.mem_cons_self) hq hx with ⟨he, hb⟩ | ⟨he, hb⟩
      · obtain ⟨v, hv, hok, hf, hall⟩ := ih x hx hxl
        refine ⟨v, List.mem_cons_of_mem _ hv, hok, by rw [he, hf], fun w hw how => ?_⟩
        rcases List.mem_cons.1 hw with rfl | hw
        · rcases hall x List.mem_cons_self hx with rfl | hvx
          · exact .inr hb
          · exact .inr (ht _ _ _ hvx hb)
        · exact hall w hw how
      · obtain ⟨v, hv, hok, hf, hall⟩ := ih q hq hql
        refine ⟨v, ?_, hok, by rw [he, hf], fun w hw how => ?_⟩
        · rcases List.mem_cons.1 hv with rfl | hv
          · exact List.mem_cons_self
          · exact List.mem_cons_of_mem _ (List.mem_cons_of_mem _ hv)
        · rcases List.mem_cons.1 hw with rfl | hw
          · exact hall _ List.mem_cons_self how
          · rcases List.mem_cons.1 hw with rfl | hw
            · rcases hall q List.mem_cons_self hq with rfl | hvq
              · exact .inr hb
              · exact .inr (ht _ _ _ hvq hb)
            · exact hall w (List.mem_cons_of_mem _ hw) how
    · rw [hskip _ _ hx]
      obtain ⟨v, hv, hok, hf, hall⟩ := ih q hq hql
      refine ⟨v, ?_, hok, hf, fun w hw how => ?_⟩
      · rcases List.mem_cons.1 hv with rfl | hv
        · exact List.mem_cons_self
        · exact List.mem_cons_of_mem _ (List.mem_cons_of_mem _ hv)
      · rcases List.mem_cons.1 hw with rfl | hw
        · exact hall _ List.mem_cons_self how
        · rcases List.mem_cons.1 hw with rfl | hw
          · exact absurd how hx
          · exact hall w (List.mem_cons_of_mem _ hw) how

theorem foldl_best (ht : ∀ x y z, better x y → better y z → better x z) (hskip : ∀ b x, ¬ ok x → f b x = b)
    (hnone : ∀ x, ok x → f none x = some x)
    (hstep : ∀ q x, before q x → ok q → ok x → (f (some q) x = some x ∧ better x q) ∨ (f (some q) x = some q ∧ better q x))
    (l : List α) (hp : l.Pairwise before) :
    (l.foldl f none = none ∧ ∀ w ∈ l, ¬ ok w) ∨
      ∃ v ∈ l, ok v ∧ l.foldl f none = some v ∧ ∀ w ∈ l, ok w → w = v ∨ better v w := by
  induction l with
  | nil => exact .inl ⟨rfl, fun w hw => absurd hw (List.not_mem_nil)⟩
  | cons x l ih =>
    rw [List.foldl_cons]
    by_cases hx : ok x
    · rw [hnone x hx]
      exact .inr (foldl_best_from ht hskip hstep l x hx hp)
    · rw [hskip _ _ hx]
      rcases ih (List.pairwise_cons.1 hp).2 with ⟨he, hall⟩ | ⟨v, hv, hok, he, hall⟩
      · refine .inl ⟨he, fun w hw => ?_⟩
        rcases List.mem_cons.1 hw with rfl | hw
        · exact hx
        · exact hall w hw
      · refine .inr ⟨v, List.mem_cons_of_mem _ hv, hok, he, fun w hw how => ?_⟩
        rcases List.mem_cons.1 hw with rfl | hw
        · exact absurd how hx
        · exact hall w hw how

end

/-- The walk keeps what it has where nothing of the list counts. -/
theorem foldl_skip {α β : Type} {f : β → α → β} {l : List α} {b : β} (h : ∀ x ∈ l, ∀ b, f b x = b) : l.foldl f b = b := by
  induction l with
  | nil => rfl
  | cons x l ih =>
    rw [List.foldl_cons, h x List.mem_cons_self]
    exact ih fun y hy => h y (List.mem_cons_of_mem _ hy)

theorem pairwise_keys {t : Table AlarmRec} (h : t.wf = true) : t.Pairwise (fun p q => p.1 < q.1) :=
  List.pairwise_map.1 ((Table.wf_iff t).1 h)

namespace AlarmUnit
variable {u : AlarmUnit}

/-! ### A raise (R138 to R140) -/

theorem openRecord_find {k : Kind} {j : Subject} {n : Nat} {r : AlarmRec} (hw : u.recs.wf = true)
    (h : u.openRecord k j = some (n, r)) : u.recs.find n = some r := Table.find_of_mem hw (openRecord_spec h).1

theorem raiseOne_merges {now n : Nat} {k : Kind} {j : Subject} {z p : Option Nat} {r : AlarmRec}
    (h : u.openRecord k j = some (n, r)) : u.raiseOne now k j z p = { u with recs := u.recs.put n (merged r now k z p) } := by
  unfold raiseOne
  rw [h]

theorem orElse_isSome (x y : Option Nat) : (x.orElse fun _ => y) = if x.isSome then x else y := by cases x <;> rfl

theorem merged_eq (r : AlarmRec) (now : Nat) (k : Kind) (z p : Option Nat) : merged r now k z p = { r with
    count := min 255 (r.count + 1), lastRaised := now, ended := isMomentary k,
    zone := if z.isSome then z else r.zone, person := if p.isSome then p else r.person } := by
  unfold merged
  rw [orElse_isSome, orElse_isSome]

theorem freeFrom_full {α : Type} {t : Table α} {fuel j : Nat} (h : ∀ m, j ≤ m → m < j + fuel → (t.find m).isSome = true) :
    Table.freeFrom t fuel j = none := by
  induction fuel generalizing j with
  | zero => rfl
  | succ n ih =>
    unfold Table.freeFrom
    rw [if_pos (h j (le_refl _) (by omega))]
    exact ih fun m h1 h2 => h m (by omega) (by omega)

theorem raiseOne_new {now n : Nat} {k : Kind} {j : Subject} {z p : Option Nat} (h : u.openRecord k j = none) (hn : n < 60)
    (hf : u.recs.find n = none) (hl : ∀ m < n, (u.recs.find m).isSome = true) :
    u.raiseOne now k j z p = { u with recs := u.recs.put n (u.newRecord now k j z p) } := by
  have hfree : u.recs.freeFrom Config.alarmPlaces 0 = some n :=
    freeFrom_eq (Nat.zero_le _) (by simpa [Config.alarmPlaces] using hn) hf fun m _ => hl m
  unfold raiseOne
  rw [h, hfree]

theorem noneFree (hl : ∀ m < 60, (u.recs.find m).isSome = true) : u.recs.freeFrom Config.alarmPlaces 0 = none :=
  freeFrom_full fun m _ hm => hl m (by simpa [Config.alarmPlaces] using hm)

theorem raiseOne_evicts {now n : Nat} {k : Kind} {j : Subject} {z p : Option Nat} {v : AlarmRec} (h : u.openRecord k j = none)
    (hl : ∀ m < 60, (u.recs.find m).isSome = true) (hv : u.victim (u.routeTaken k).cls = some (n, v)) :
    u.raiseOne now k j z p = { (u.remove n).count now v.cls (v.delivery = .forward) with
      recs := ((u.remove n).count now v.cls (v.delivery = .forward)).recs.put n (u.newRecord now k j z p) } := by
  unfold raiseOne
  rw [h, noneFree hl, hv]

theorem raiseOne_counts {now : Nat} {k : Kind} {j : Subject} {z p : Option Nat} (h : u.openRecord k j = none)
    (hl : ∀ m < 60, (u.recs.find m).isSome = true) (hv : u.victim (u.routeTaken k).cls = none) :
    u.raiseOne now k j z p = u.count now (u.routeTaken k).cls ((u.routeTaken k).delivery = .forward) := by
  unfold raiseOne
  rw [h, noneFree hl, hv]

theorem count_eq (now c : Nat) (fwd : Bool) :
    u.count now c fwd = { u with recs := u.recs.put (60 + c) (match u.recs.find (60 + c) with
      | none => newOverflow now c fwd
      | some r => countedInto r now fwd) } := by
  unfold count Config.alarmPlaces
  dsimp only
  cases u.recs.find (60 + c) <;> rfl

/-- The record that an eviction takes from a class: acknowledged, the earliest raised, then the lowest number. -/
theorem victimIn_spec (hw : u.recs.wf = true) (c : Nat) :
    let ok := fun p : Nat × AlarmRec => p.1 < 60 ∧ p.2.cls = c ∧ p.2.state = .acknowledged
    (u.victimIn c = none ∧ ∀ w ∈ u.recs, ¬ ok w) ∨
      ∃ v ∈ u.recs, ok v ∧ u.victimIn c = some v ∧ ∀ w ∈ u.recs, ok w → w = v ∨
        (v.2.raisedAt < w.2.raisedAt ∨ (v.2.raisedAt = w.2.raisedAt ∧ v.1 < w.1)) := by
  unfold victimIn
  refine foldl_best (before := fun p q : Nat × AlarmRec => p.1 < q.1)
    (better := fun v w : Nat × AlarmRec => v.2.raisedAt < w.2.raisedAt ∨ (v.2.raisedAt = w.2.raisedAt ∧ v.1 < w.1))
    (fun x y z h1 h2 => by omega) ?_ ?_ ?_ _ (pairwise_keys hw)
  · intro b x hx
    rw [if_neg]
    simpa [isOrdinary_iff, and_assoc] using hx
  · intro x hx
    rw [if_pos (by simpa [isOrdinary_iff, and_assoc] using hx)]
  · intro q x hqx _ hx
    rw [if_pos (by simpa [isOrdinary_iff, and_assoc] using hx)]
    dsimp only
    by_cases hr : x.2.raisedAt < q.2.raisedAt
    · exact .inl ⟨if_pos hr, .inl hr⟩
    · exact .inr ⟨if_neg hr, by omega⟩

theorem victim_eq (c : Nat) : u.victim c =
    (if c < 3 then u.victimIn 3 else none).or
      ((if c < 2 then u.victimIn 2 else none).or (if c < 1 then u.victimIn 1 else none)) := by
  unfold victim
  by_cases h1 : c < 1
  · simp [h1, show c < 2 by omega, show c < 3 by omega, List.findSome?]
    cases u.victimIn 3 <;> cases u.victimIn 2 <;> cases u.victimIn 1 <;> rfl
  · by_cases h2 : c < 2
    · simp [h1, h2, show c < 3 by omega, List.findSome?]
      cases u.victimIn 3 <;> cases u.victimIn 2 <;> rfl
    · by_cases h3 : c < 3
      · simp [h1, h2, h3]
      · simp [h1, h2, h3]

/-- The record that R139 evicts for a raise of class `c`. -/
def IsVictim (u : AlarmUnit) (c n : Nat) (v : AlarmRec) : Prop :=
  u.recs.find n = some v ∧ n < 60 ∧ v.state = .acknowledged ∧ c < v.cls ∧ v.cls ≤ 3 ∧
    ∀ m w, u.recs.find m = some w → m < 60 → w.state = .acknowledged → w.cls ≤ 3 →
      w.cls < v.cls ∨ (w.cls = v.cls ∧ (v.raisedAt < w.raisedAt ∨ (v.raisedAt = w.raisedAt ∧ n ≤ m)))

theorem isVictim_of_victimIn {c n x : Nat} {v : AlarmRec} (hw : u.recs.wf = true) (hx : x ≤ 3) (hc : c < x)
    (hv : u.victimIn x = some (n, v)) (habove : ∀ y, x < y → y ≤ 3 → u.victimIn y = none) : u.IsVictim c n v := by
  rcases victimIn_spec hw x with ⟨he, _⟩ | ⟨⟨i, r⟩, hm, ⟨hi, hcls, hst⟩, he, hbest⟩
  · rw [he] at hv
    cases hv
  · rw [he] at hv
    cases hv
    dsimp only at hi hcls hst hbest
    refine ⟨Table.find_of_mem hw hm, hi, hst, by omega, by omega, fun m w hmw hm60 hwst hw3 => ?_⟩
    rcases Nat.lt_trichotomy w.cls x with hlt | heq | hgt
    · exact .inl (by omega)
    · refine .inr ⟨by omega, ?_⟩
      rcases hbest (m, w) (Table.mem_of_find hmw) ⟨hm60, heq, hwst⟩ with hsame | hbetter
      · cases hsame
        exact .inr ⟨rfl, le_refl _⟩
      · exact hbetter.imp_right fun ⟨hb, hlt⟩ => ⟨hb, le_of_lt hlt⟩
    · rcases victimIn_spec hw w.cls with ⟨_, hno⟩ | ⟨y, _, _, hsome, _⟩
      · exact absurd ⟨hm60, rfl, hwst⟩ (hno (m, w) (Table.mem_of_find hmw))
      · rw [habove w.cls hgt hw3] at hsome
        cases hsome

theorem victim_isVictim {c n : Nat} {v : AlarmRec} (hw : u.recs.wf = true) (h : u.victim c = some (n, v)) :
    u.IsVictim c n v := by
  rw [victim_eq] at h
  by_cases h3 : c < 3
  · rw [if_pos h3] at h
    cases hv3 : u.victimIn 3 with
    | some q =>
      rw [hv3] at h
      cases h
      exact isVictim_of_victimIn hw (x := 3) (by omega) h3 hv3 fun y hy hy3 => by omega
    | none =>
      rw [hv3, Option.none_or] at h
      by_cases h2 : c < 2
      · rw [if_pos h2] at h
        cases hv2 : u.victimIn 2 with
        | some q =>
          rw [hv2] at h
          cases h
          exact isVictim_of_victimIn hw (x := 2) (by omega) h2 hv2 fun y hy hy3 => by rw [show y = 3 by omega, hv3]
        | none =>
          rw [hv2, Option.none_or] at h
          by_cases h1 : c < 1
          · rw [if_pos h1] at h
            refine isVictim_of_victimIn hw (x := 1) (by omega) h1 h fun y hy hy3 => ?_
            rcases show y = 2 ∨ y = 3 by omega with rfl | rfl
            · exact hv2
            · exact hv3
          · rw [if_neg h1] at h
            cases h
      · rw [if_neg h2, if_neg (by omega)] at h
        cases h
  · rw [if_neg h3, if_neg (by omega), if_neg (by omega)] at h
    cases h

theorem beyondLimit_iff (k : Kind) : u.beyondLimit k = true ↔ u.limitInForce ≤ kindNum k := decide_eq_true_iff

theorem routeTaken_beyond {k : Kind} (h : u.limitInForce ≤ kindNum k) (hf : k ≠ .routeFault) (hd : k ≠ .duress) :
    u.routeTaken k = ⟨0, .notify, .off⟩ := by
  unfold routeTaken
  rw [if_pos ((beyondLimit_iff k).2 h), if_neg hf, if_neg hd]

theorem routeTaken_entry {k : Kind} (h : kindNum k < u.limitInForce) (hs : (u.routeRec (kindNum k)).suspect = false)
    (hd : k ≠ .duress) : u.routeTaken k = (u.routeRec (kindNum k)).cfg := by
  unfold routeTaken
  dsimp only
  rw [if_neg (fun hb => absurd ((beyondLimit_iff k).1 hb) (Nat.not_le.2 h)), hs, if_neg hd, if_neg Bool.false_ne_true]

theorem routeTaken_duress_cls : (u.routeTaken .duress).cls = 0 := rfl

theorem raise_beyond {now : Nat} {k : Kind} {j : Subject} {z p : Option Nat} (h : u.limitInForce ≤ kindNum k)
    (hf : k ≠ .routeFault) : u.raise now k j z p =
      (u.raiseOne now k j z p).raiseOne now .routeFault (.record .route (kindNum k)) none none := by
  unfold raise
  dsimp only
  rw [if_pos]
  rw [(beyondLimit_iff k).2 h, Bool.true_and, bne_iff_ne]
  exact hf

theorem raise_within {now : Nat} {k : Kind} {j : Subject} {z p : Option Nat} (h : kindNum k < u.limitInForce) :
    u.raise now k j z p = u.raiseOne now k j z p := by
  unfold raise
  have hb : u.beyondLimit k = false := Bool.eq_false_iff.2 fun hb => absurd ((beyondLimit_iff k).1 hb) (Nat.not_le.2 h)
  rw [hb]
  exact if_neg Bool.false_ne_true

end AlarmUnit

open AlarmUnit in
/-- Settles O47. -/
theorem raisePlaces : Obligations.RaisePlaces := by
  unfold Obligations.RaisePlaces
  refine ⟨?_, ?_, fun u c n v hw hv => victim_isVictim hw hv, ?_, ?_⟩
  · intro u now n k j z p r h
    rw [raiseOne_merges h, merged_eq]
    exact ⟨Table.find_put_self _ _ _, fun m hm => Table.find_put_ne _ _ hm, rfl, rfl⟩
  · intro u now k j z p h
    refine ⟨fun n hn hf hl => raiseOne_new h hn hf hl, fun hl => ⟨fun n v hv => raiseOne_evicts h hl hv, fun hv => raiseOne_counts h hl hv⟩⟩
  · intro u now c fwd
    rw [count_eq]
    dsimp only
    cases u.recs.find (60 + c) <;> rfl
  · intro u now k j z p
    exact ⟨fun h hf hd => ⟨routeTaken_beyond h hf hd, raise_beyond h hf⟩,
      fun h => ⟨raise_within h, fun hs hd => routeTaken_entry h hs hd⟩, routeTaken_duress_cls⟩

end Sys2Proof.Machine

/-! ## Ends and withdrawals, the notice that is presented, and the supervisor's requests on alarms -/

namespace Sys2Proof.Machine

theorem find_filter {α : Type} {t : Table α} (hw : t.wf = true) (p : Nat × α → Bool) (n : Nat) :
    Table.find (t.filter p) n = (t.find n).filter fun r => p (n, r) := by
  cases h : Table.find (t.filter p) n with
  | some r =>
    obtain ⟨hm, hp⟩ := List.mem_filter.1 (Table.mem_of_find h)
    rw [Table.find_of_mem hw hm, Option.filter_some, if_pos hp]
  | none =>
    cases hf : t.find n with
    | none => rfl
    | some r =>
      rw [Option.filter_some]
      by_cases hp : p (n, r) = true
      · have hm := List.mem_filter.2 ⟨Table.mem_of_find hf, hp⟩
        rw [Table.find_of_mem (Table.wf_filter p hw) hm] at h
        cases h
      · rw [if_neg hp]

namespace AlarmUnit
variable {u : AlarmUnit}

/-! ### Ends (R141, R144) -/

/-- What an end leaves of a record. -/
def leftOf (r : AlarmRec) : Option AlarmRec := if r.state = .acknowledged then none else some { r with ended := true }

theorem endRecord_eq (n : Nat) (r : AlarmRec) : u.endRecord n r =
    if r.state = .acknowledged then { u with recs := u.recs.del n, holds := u.holds.filter (fun h => h.2 != n) }
    else { u with recs := u.recs.put n { r with ended := true } } := rfl

theorem find_endRecord (n m : Nat) (r : AlarmRec) :
    (u.endRecord n r).recs.find m = if m = n then leftOf r else u.recs.find m := by
  rw [endRecord_eq]
  unfold leftOf
  by_cases h : r.state = .acknowledged
  · rw [if_pos h, if_pos h, Table.find_del]
  · rw [if_neg h, if_neg h, Table.find_put]

theorem find_endAll (l : Table AlarmRec) (hl : l.wf = true) (m : Nat) :
    (l.foldl (fun u p => u.endRecord p.1 p.2) u).recs.find m = (l.find m).elim (u.recs.find m) leftOf := by
  induction l generalizing u with
  | nil => rfl
  | cons p l ih =>
    obtain ⟨k, r⟩ := p
    have hp := List.pairwise_cons.1 (pairwise_keys hl)
    rw [List.foldl_cons, ih ((Table.wf_iff l).2 (List.pairwise_map.2 hp.2)), find_endRecord, Table.find_cons]
    by_cases hm : m = k
    · have hno : Table.find l m = none := by
        cases h : Table.find l m with
        | none => rfl
        | some x =>
          have hlt := hp.1 _ (Table.mem_of_find h)
          dsimp only at hlt
          omega
      rw [hno, if_pos hm, if_pos hm]
      rfl
    · rw [if_neg hm, if_neg hm]

/-- A withdrawal ends every open ordinary record with its subject, and no other. -/
theorem find_withdraw (hw : u.recs.wf = true) (j : Subject) (n : Nat) :
    (u.withdraw j).recs.find n = ((u.recs.find n).filter fun r => isOrdinary n && r.subject = some j).elim (u.recs.find n) leftOf := by
  unfold withdraw
  rw [find_endAll _ (Table.wf_filter _ hw), find_filter hw]

end AlarmUnit

open AlarmUnit in
/-- Settles O48. -/
theorem alarmEnds : Obligations.AlarmEnds := by
  unfold Obligations.AlarmEnds
  refine ⟨fun u k j h => by unfold endKind; rw [h], fun u k j n r h => ⟨fun he => ?_, fun hl he => ?_⟩, fun u j n hw => ?_⟩
  · unfold endKind
    rw [h]
    exact if_pos (by rcases he with he | he <;> simp [he])
  · unfold endKind
    rw [h]
    dsimp only
    rw [if_neg (by simp [hl, he]), endRecord_eq]
  · rw [find_withdraw hw]
    cases u.recs.find n with
    | none => rfl
    | some r =>
      rw [Option.filter_some]
      by_cases hj : n < 60 ∧ r.subject = some j
      · rw [if_pos (by simpa [isOrdinary_iff] using hj)]
        exact (if_pos hj).symm
      · rw [if_neg (by simpa [isOrdinary_iff] using hj)]
        exact (if_neg hj).symm

/-! ### The notice that is presented (R145 to R148) -/

namespace AlarmUnit
variable {u : AlarmUnit}

theorem presentable_iff (a : AlarmRec) : u.presentable a = true ↔ a.state = .raised ∧
    if a.kind = some .duress then ¬ ∃ p ∈ u.recs, p.2.kind = some .duress ∧ p.2.state = .notified
    else a.delivery ≠ .localOnly ∧ u.mask.getLsbD a.cls = false ∧ ¬ ∃ h ∈ u.holds, h.1 = a.cls := by
  unfold presentable
  by_cases hk : a.kind = some .duress
  · rw [if_pos hk, if_pos hk]
    simp [duressNotified]
  · rw [if_neg hk, if_neg hk]
    have hheld : u.heldBack a.cls = false ↔ ¬ ∃ h ∈ u.holds, h.1 = a.cls := by
      simp only [heldBack, List.any_eq_false, decide_eq_true_eq, not_exists, not_and]
    simp only [Bool.and_eq_true, decide_eq_true_eq, Bool.not_eq_true', bne_iff_ne, ne_eq, hheld, masked, and_assoc]

/-- The order in which records are presented: class, time raised, number (R147). -/
def presentedBefore (v w : Nat × AlarmRec) : Prop :=
  v.2.cls < w.2.cls ∨ (v.2.cls = w.2.cls ∧ (v.2.raisedAt < w.2.raisedAt ∨ (v.2.raisedAt = w.2.raisedAt ∧ v.1 < w.1)))

theorem nextRecord_spec (hw : u.recs.wf = true) :
    (u.nextRecord = none ∧ ∀ w ∈ u.recs, ¬ u.presentable w.2 = true) ∨
      ∃ v ∈ u.recs, u.presentable v.2 = true ∧ u.nextRecord = some v ∧
        ∀ w ∈ u.recs, u.presentable w.2 = true → w = v ∨ presentedBefore v w := by
  unfold nextRecord
  refine foldl_best (before := fun p q : Nat × AlarmRec => p.1 < q.1) (better := presentedBefore)
    (fun x y z h1 h2 => by unfold presentedBefore at *; omega) (fun b x hx => if_neg hx) (fun x hx => if_pos hx) ?_ _
    (pairwise_keys hw)
  intro q x hqx _ hx
  rw [if_pos hx]
  dsimp only
  unfold presentedBefore
  by_cases hr : x.2.cls < q.2.cls ∨ (x.2.cls = q.2.cls ∧ x.2.raisedAt < q.2.raisedAt)
  · exact .inl ⟨if_pos (by simpa using hr), by omega⟩
  · exact .inr ⟨if_neg (by simpa using hr), by omega⟩

theorem nextRecord_none (h : ∀ p ∈ u.recs, u.presentable p.2 = false) : u.nextRecord = none := by
  unfold nextRecord
  refine foldl_skip fun x hx b => ?_
  rw [h x hx]
  exact if_neg Bool.false_ne_true

theorem nextRecord_some {n : Nat} {a : AlarmRec} (hw : u.recs.wf = true) (hf : u.recs.find n = some a)
    (hp : u.presentable a = true) (hb : ∀ m b, u.recs.find m = some b → u.presentable b = true → m ≠ n →
      presentedBefore (n, a) (m, b)) : u.nextRecord = some (n, a) := by
  have hm := Table.mem_of_find hf
  rcases nextRecord_spec hw with ⟨_, hno⟩ | ⟨⟨m, b⟩, hmb, hpb, he, hall⟩
  · exact absurd hp (hno _ hm)
  · rcases hall (n, a) hm hp with heq | hlt
    · rw [he, heq]
    · by_cases hmn : m = n
      · unfold presentedBefore at hlt
        have hfb := Table.find_of_mem hw hmb
        rw [hmn, hf] at hfb
        cases hfb
        dsimp only at hlt
        omega
      · have hgt := hb m b (Table.find_of_mem hw hmb) hpb hmn
        unfold presentedBefore at hlt hgt
        dsimp only at hlt hgt
        omega

theorem noticeLine_iff : u.noticeLine = true ↔ ∃ n r, (n, r) ∈ u.recs ∧ u.presentable r = true := by
  simp [noticeLine]

theorem forwardLine_iff : u.forwardLine = true ↔
    ∃ n r, (n, r) ∈ u.recs ∧ r.delivery = .forward ∧ (r.state = .raised ∨ r.state = .notified) := by
  have hst : ∀ x : AlarmState, x ≠ .acknowledged ↔ x = .raised ∨ x = .notified := by
    intro x
    cases x <;> decide
  simp [forwardLine, hst]

end AlarmUnit

/-- A request that reads, as its owner answers it. -/
theorem serveRead_owner {s : State} {r : Req} {f : State.Owner} {t : State} {a : Answer} (h : s.portTakes = true)
    (hr : (ids r.fields).Nodup) (hf : f s.asked r = (t, a)) : s.serveRead r f = t.respond r.tag a := by
  rw [State.serveRead_taken f h hr, hf]

open AlarmUnit in
/-- Settles O49. -/
theorem nextNoticePresents : Obligations.NextNoticePresents := by
  unfold Obligations.NextNoticePresents
  refine ⟨fun s tag hs hno => ?_, fun s tag n a hs hw hf hp hb => ?_, fun u a => presentable_iff a,
    fun u => ⟨noticeLine_iff, forwardLine_iff⟩⟩
  · show Host.Outcome.next (s.serveRead _ _) = _
    have hf : State.nextNotice s.asked (bareReq tag) = (s.asked, refusedWith .empty) := by
      unfold State.nextNotice
      rw [nextRecord_none hno]
      rfl
    rw [serveRead_owner hs State.ids_nil hf]
    rfl
  · show Host.Outcome.next (s.serveRead _ _) = _
    have hn : State.nextNotice s.asked (bareReq tag) =
        (s.asked.setAlm (State.present s.asked.alm n a), okWith (alarmImage n { a with state := .notified })) := by
      unfold State.nextNotice
      rw [nextRecord_some hw hf hp hb]
      rfl
    have hh : (a.delivery = .notifyAndMask && !s.asked.alm.holds.contains (a.cls, n)) = true ↔
        a.delivery = .notifyAndMask ∧ (a.cls, n) ∉ s.asked.alm.holds := by simp
    rw [serveRead_owner hs State.ids_nil hn]
    unfold State.present
    simp only [hh]
    rfl

/-! ### The supervisor's requests (R142, R143, R145) -/

section
variable {s : State} {tag : Byte} {n : Nat}

theorem opKey_above {lo hi : Nat} (hn : n ≤ 255) (hh : hi < n) : State.opKey lo hi (keyReq tag n) = none := by
  have hk : keyAlone 1 lo hi (keyReq tag n) = none := by
    show numIn 1 lo hi (toBE 1 n) = none
    unfold numIn
    rw [num_byte (by omega)]
    exact if_neg (by omega)
  unfold State.opKey
  rw [hk]
  rfl

theorem alarmStateAnswer_of_find {u : AlarmUnit} {a : AlarmRec} (h : u.recs.find n = some a) :
    State.alarmStateAnswer u n = okWith [fldN 9 1 (alarmCode a.state)] := by
  unfold State.alarmStateAnswer
  rw [h]

theorem alarmStateAnswer_retired {u : AlarmUnit} (h : u.recs.find n = none) :
    State.alarmStateAnswer u n = okWith [fldN 9 1 3] := by
  unfold State.alarmStateAnswer
  rw [h]
  rfl

theorem exec_acknowledge (hs : s.portTakes = true) :
    exec (.acknowledge (keyReq tag n)) s = .next (answered tag (s.asked.acknowledge (keyReq tag n))) :=
  congrArg Host.Outcome.next (serveWrite_answered hs State.ids_nil)

theorem exec_restore (hs : s.portTakes = true) :
    exec (.restore (keyReq tag n)) s = .next (answered tag (s.asked.restore (keyReq tag n))) :=
  congrArg Host.Outcome.next (serveWrite_answered hs State.ids_nil)

end

/-- The Door Controller, told of an acknowledged record. -/
theorem tellDoor_eq (t : State) (a : AlarmRec) (u : AlarmUnit) : (t.tellDoor a).setAlm u =
    (match a.kind, a.subject with
      | some .doorHeld, some (.door d) => t.changeDoor d (fun r =>
          if r.state = DoorState.held then { r with heldInhibit := true } else r)
      | _, _ => t).setAlm u := by
  unfold State.tellDoor
  cases a.kind with
  | none => rfl
  | some k =>
    cases a.subject with
    | none => cases k <;> rfl
    | some j => cases k <;> cases j <;> rfl

open AlarmUnit in
/-- Settles O50. -/
theorem alarmRequests : Obligations.AlarmRequests := by
  unfold Obligations.AlarmRequests
  refine ⟨fun s tag n hs hn => ⟨?_, ?_⟩, fun s tag n hs hn => ⟨?_, ?_⟩⟩
  · rw [exec_acknowledge hs]
    unfold State.acknowledge
    by_cases h63 : 63 < n
    · rw [opKey_above hn h63, if_pos h63]
      exact congrArg _ (answered_no tag _ nofun)
    · rw [opKey_keyReq (Nat.zero_le _) (by omega) (by decide), if_neg h63]
      dsimp only
      cases hf : s.asked.alm.recs.find n with
      | none => exact congrArg _ (answered_no tag _ nofun)
      | some a =>
        dsimp only
        by_cases ha : a.state = .acknowledged
        · rw [if_pos ha, if_pos ha, alarmStateAnswer_of_find hf, ha]
          exact congrArg _ (answered_ok tag _ _)
        · rw [if_neg ha, if_neg ha, tellDoor_eq]
          unfold State.acknowledged
          by_cases he : a.ended = true
          · rw [if_pos he, if_pos he, alarmStateAnswer_retired (by exact (Table.find_del _ _ _).trans (if_pos rfl)), answered_ok]
            rfl
          · rw [if_neg he, if_neg he, alarmStateAnswer_of_find (Table.find_put_self _ _ _), answered_ok]
            rfl
  · show Host.Outcome.next (s.serveRead _ _) = _
    by_cases h15 : n ≤ 15
    · rw [if_pos h15, serveRead_owner hs (State.ids_one _) (t := s.asked.setAlm { s.asked.alm with mask := BitVec.ofNat 4 n, maskOk := true }) (a := okWith [fldN 1 1 n])]
      unfold State.setMask State.oneField
      simp [fldN, fld, numIn_byte (Nat.zero_le _) h15]
    · rw [if_neg h15, serveRead_owner hs (State.ids_one _) (t := s.asked) (a := refusedWith .badValue)]
      · rfl
      · unfold State.setMask State.oneField
        simp [fldN, fld, numIn, num_byte (show n < 256 by omega), h15]
  · rw [exec_restore hs]
    unfold State.restore
    by_cases h63 : 63 < n
    · rw [opKey_above hn h63, if_pos h63]
      exact congrArg _ (answered_no tag _ nofun)
    · rw [opKey_keyReq (Nat.zero_le _) (by omega) (by decide), if_neg h63]
      dsimp only
      cases hf : s.asked.alm.recs.find n with
      | none => exact congrArg _ (answered_no tag _ nofun)
      | some a =>
        dsimp only
        have hw : (!a.latching || a.kind.isNone) = true ↔ a.kind = none ∨ a.latching = false := by
          simp [or_comm]
        by_cases h : a.kind = none ∨ a.latching = false
        · rw [if_pos (hw.2 h), if_pos h]
          exact congrArg _ (answered_no tag _ nofun)
        · rw [if_neg (hw.not.2 h), if_neg h]
          by_cases he : a.ended = true
          · rw [if_pos he, if_pos he, alarmStateAnswer_of_find hf]
            exact congrArg _ (answered_ok tag _ _)
          · rw [if_neg he, if_neg he, endRecord_eq]
            by_cases ha : a.state = .acknowledged
            · rw [if_pos ha, if_pos ha, alarmStateAnswer_retired (by exact (Table.find_del _ _ _).trans (if_pos rfl))]
              exact congrArg _ (answered_ok tag _ _)
            · rw [if_neg ha, if_neg ha, alarmStateAnswer_of_find (Table.find_put_self _ _ _)]
              exact congrArg _ (answered_ok tag _ _)
  · intro a k j now z p h hm
    refine ⟨merged a now k z p, ?_, hm, rfl⟩
    rw [raiseOne_merges h]
    exact Table.find_put_self _ _ _

end Sys2Proof.Machine

/-! ## Doors: partners, the arbiter, release requests (R20 to R22, R27, R72, R73) -/

namespace Sys2Proof.Machine
namespace State
variable {s : State} {d p : Nat} {r q : DoorRec}

/-! ### Writes of a door and its partner -/

/-- Who is whose partner is told by the partner fields alone (R16, R41). -/
theorem partnerOf_congr {s t : State} (h : ∀ e, (t.door? e).map (fun r => r.cfg.partner) = (s.door? e).map (fun r => r.cfg.partner))
    (d : Nat) : t.partnerOf d = s.partnerOf d := by
  have hstep : ∀ {a b : State}, (∀ e, (b.door? e).map (fun r => r.cfg.partner) = (a.door? e).map (fun r => r.cfg.partner)) →
      ∀ p, a.partnerOf d = some p → b.partnerOf d = some p := by
    intro a b hab p hp
    obtain ⟨r, q, hr, hq, hn, hb, hne⟩ := partnerOf_eq_some.1 hp
    have h1 := hab d
    have h2 := hab p
    rw [hr] at h1
    rw [hq] at h2
    obtain ⟨r', hr', hn'⟩ := Option.map_eq_some_iff.1 h1
    obtain ⟨q', hq', hb'⟩ := Option.map_eq_some_iff.1 h2
    exact partnerOf_eq_some.2 ⟨r', q', hr', hq', hn'.trans hn, hb'.trans hb, hne⟩
  cases hs : s.partnerOf d with
  | some p => exact hstep h p hs
  | none =>
    cases ht : t.partnerOf d with
    | none => rfl
    | some p =>
      rw [hstep (fun e => (h e).symm) p ht] at hs
      cases hs

theorem partnerOf_putDoor (hd : s.door? d = some r) (hc : q.cfg.partner = r.cfg.partner) (e : Nat) :
    (s.putDoor d q).partnerOf e = s.partnerOf e := by
  refine partnerOf_congr (fun x => ?_) e
  rw [door?_putDoor]
  by_cases hx : x = d
  · rw [if_pos hx, hx, hd]
    exact congrArg some hc
  · rw [if_neg hx]

theorem partnerOf_changeDoor {f : DoorRec → DoorRec} (hc : ∀ r, (f r).cfg.partner = r.cfg.partner) (e : Nat) :
    (s.changeDoor d f).partnerOf e = s.partnerOf e := by
  refine partnerOf_congr (fun x => ?_) e
  rw [door?_changeDoor]
  by_cases hx : x = d
  · rw [if_pos hx, Option.map_map]
    cases s.door? x with
    | none => rfl
    | some y => exact congrArg some (hc y)
  · rw [if_neg hx]

theorem partnerOf_of_doors {t : State} (h : t.door = s.door) (e : Nat) : t.partnerOf e = s.partnerOf e :=
  partnerOf_congr (fun x => by unfold State.door?; rw [h]) e

theorem door?_of_doors {t : State} (h : t.door = s.door) (e : Nat) : t.door? e = s.door? e := by
  unfold State.door?
  rw [h]

theorem partnerOf_ne (h : s.partnerOf d = some p) : p ≠ d := by
  obtain ⟨_, _, _, _, _, _, hne⟩ := partnerOf_eq_some.1 h
  exact hne

/-- A change of the door that is there is a write of its record. -/
theorem changeDoor_find (f : DoorRec → DoorRec) (h : s.door? d = some r) (e : Nat) :
    (s.changeDoor d f).door? e = if e = d then some (f r) else s.door? e := by
  rw [door?_changeDoor]
  by_cases he : e = d
  · rw [if_pos he, if_pos he, he, h]
    rfl
  · rw [if_neg he, if_neg he]

/-! ### The arbiter (R27) -/

theorem closedForPair_iff (x : DoorState) : closedForPair x = true ↔ x = .secured ∨ x = .interlockWait ∨ x = .relocking := by
  cases x <;> decide

theorem mayTake_iff (x y : DoorRec) : mayTake x y = true ↔ x.state = .interlockWait ∧ x.cycle ≠ none ∧
    (y.state = .secured ∨ y.state = .interlockWait ∨ y.state = .relocking) ∧ (y.right = false ∨ y.state = .relocking) := by
  unfold mayTake
  simp only [Bool.and_eq_true, Bool.or_eq_true, decide_eq_true_eq, closedForPair_iff, Bool.not_eq_true', and_assoc,
    Option.isSome_iff_ne_none]

theorem mayTake_false_of_state {x y : DoorRec} (h : x.state ≠ .interlockWait) : mayTake x y = false :=
  Bool.eq_false_iff.2 fun ht => h ((mayTake_iff x y).1 ht).1

theorem outranks_iff (d p : Nat) (c e : Cycle) : outranks d p c e = true ↔
    (waitsForExit c = true ∧ waitsForExit e = false) ∨
      (waitsForExit c = waitsForExit e ∧ (c.began < e.began ∨ (c.began = e.began ∧ d < p))) := by
  have hlast : (if c.began = e.began then d < p else c.began < e.began) ↔
      (c.began < e.began ∨ (c.began = e.began ∧ d < p)) := by
    by_cases h : c.began = e.began
    · simp [h]
    · simp [h]
  unfold outranks
  cases waitsForExit c <;> cases waitsForExit e <;> simp [hlast]

theorem beginLead_eq (base : Nat) {x : DoorRec} {c : Cycle} (h : x.cycle = some c) : beginLead base x =
    if c.vals.lead = 0 then { x with state := .released, cycle := some { c with leadEnd := none } }
    else { x with state := .releasing, cycle := some { c with leadEnd := some (base + c.vals.lead * 10) } } := by
  unfold beginLead
  rw [h]

theorem arbitrate_unpaired (hp : s.partnerOf d = none) (hd : s.door? d = some r) : s.arbitrate d =
    if r.state = .interlockWait then s.changeDoor d (beginLead s.base) else s := by
  unfold arbitrate
  rw [hd, hp]

section
variable (hp : s.partnerOf d = some p) (hd : s.door? d = some r) (hq : s.door? p = some q)
include hp hd hq

theorem arbitrate_first (h1 : mayTake r q = true) (h2 : mayTake q r = false) : s.arbitrate d = s.giveRight d p := by
  simp only [arbitrate, hd, hp, hq, h1, h2]

theorem arbitrate_second (h1 : mayTake r q = false) (h2 : mayTake q r = true) : s.arbitrate d = s.giveRight p d := by
  simp only [arbitrate, hd, hp, hq, h1, h2]

theorem arbitrate_neither (h1 : mayTake r q = false) (h2 : mayTake q r = false) : s.arbitrate d = s := by
  simp only [arbitrate, hd, hp, hq, h1, h2]

theorem arbitrate_both {c e : Cycle} (h1 : mayTake r q = true) (h2 : mayTake q r = true) (hc : r.cycle = some c)
    (he : q.cycle = some e) : s.arbitrate d = if outranks d p c e then s.giveRight d p else s.giveRight p d := by
  simp only [arbitrate, hd, hp, hq, h1, h2, hc, he]

end

/-- The arbiter leaves a door alone that neither waits nor holds the right. -/
theorem arbitrate_keeps (hd : s.door? d = some r) (hs : r.state ≠ .interlockWait) (hr : r.right = false) :
    (s.arbitrate d).door? d = some r := by
  cases hp : s.partnerOf d with
  | none => rw [arbitrate_unpaired hp hd, if_neg hs, hd]
  | some p =>
    obtain ⟨_, q, _, hq, _, _, hne⟩ := partnerOf_eq_some.1 hp
    cases h2 : mayTake q r with
    | false => rw [arbitrate_neither hp hd hq (mayTake_false_of_state hs) h2, hd]
    | true =>
      rw [arbitrate_second hp hd hq (mayTake_false_of_state hs) h2]
      unfold giveRight
      rw [door?_changeDoor, if_neg hne.symm, changeDoor_find _ hd, if_pos rfl]
      have he : ({ r with right := false } : DoorRec) = r := by
        rw [← hr]
      rw [he]

end State

open State in
/-- Settles O31. -/
theorem arbiterGives : Obligations.ArbiterGives := by
  unfold Obligations.ArbiterGives
  refine ⟨?_, fun s d r hp hd => arbitrate_unpaired hp hd, fun base x c h => beginLead_eq base h⟩
  intro s d p r q hp hd hq
  dsimp only
  rw [← mayTake_iff r q, ← mayTake_iff q r, Bool.not_eq_true, Bool.not_eq_true]
  refine ⟨arbitrate_first hp hd hq, fun h2 h1 => arbitrate_second hp hd hq h1 h2, arbitrate_neither hp hd hq, ?_⟩
  intro c e h1 h2 hc he
  rw [arbitrate_both hp hd hq h1 h2 hc he, ← outranks_iff d p c e]
  exact ⟨fun h => if_pos h, fun h => if_neg h⟩

/-! ### Release requests (R20, R21) -/

namespace State
variable {s : State} {d : Nat} {r : DoorRec} {x : Passage} {xs : List Passage}

/-- What a release request carries: one exit, or one or more entries (R21). -/
def Requested (x : Passage) (xs : List Passage) : Prop := xs = [x] ∨ (xs ≠ [] ∧ ∀ y ∈ xs, y.dir = .entry)

/-- The exit due that a request gives a cycle that has none, and leaves one that has (R20). -/
def dueWith (x : Passage) (xs : List Passage) (e : Option Nat) (limit : Nat) : Option Nat :=
  if xs = [x] then some (e.getD (x.arrival * 10 + limit * 100)) else e

theorem Requested.entries (h : Requested x xs) (hn : xs ≠ [x]) : xs ≠ [] ∧ ∀ y ∈ xs, y.dir = .entry :=
  h.resolve_left hn

theorem newCycle_due (hx : x.dir = .exit) (h : Requested x xs) :
    s.newCycle r xs = { passages := xs, vals := s.classVals r, began := s.nowTenths,
                        exitDue := dueWith x xs none (s.classVals r).limit } := by
  unfold newCycle dueWith
  by_cases he : xs = [x]
  · subst he
    simp [hx, exitDueAt]
  · have hno : xs.find? (fun y => decide (y.dir = .exit)) = none := by
      rw [List.find?_eq_none]
      intro y hy
      rw [(h.entries he).2 y hy]
      decide
    rw [if_neg he, hno]
    rfl

theorem joinCycle_exit (hx : x.dir = .exit) (e : Cycle) : joinCycle e [x] = some
    (if e.passages.length + 1 ≤ 4 then
      { e with passages := e.passages ++ [x], exitDue := some (e.exitDue.getD (x.arrival * 10 + e.vals.limit * 100)) }
    else { e with unlisted := true, exitDue := some (e.exitDue.getD (x.arrival * 10 + e.vals.limit * 100)) }) := by
  unfold joinCycle
  rw [if_neg (by simp [hx])]
  show (if _ then _ else _) = _
  by_cases h : e.passages.length + 1 ≤ 4
  · rw [if_pos h, if_pos (by simpa [Config.cyclePlaces] using h)]
    cases e.exitDue <;> rfl
  · rw [if_neg h, if_neg (by simpa [Config.cyclePlaces] using h)]
    cases e.exitDue <;> rfl

theorem joinCycle_entries (hne : xs ≠ []) (h : ∀ y ∈ xs, y.dir = .entry) (e : Cycle) : joinCycle e xs =
    if e.passages.length + xs.length ≤ 4 then some { e with passages := e.passages ++ xs } else none := by
  obtain ⟨y, ys, rfl⟩ := List.exists_cons_of_ne_nil hne
  unfold joinCycle
  rw [if_pos (by simp [h y List.mem_cons_self])]
  rfl

/-- A new cycle with its lead (R22). -/
def leadWith (base : Nat) (r : DoorRec) (c : Cycle) : DoorRec :=
  if c.vals.lead = 0 then { r with state := .released, cycle := some { c with leadEnd := none } }
  else { r with state := .releasing, cycle := some { c with leadEnd := some (base + c.vals.lead * 10) } }

theorem beginLead_with (base : Nat) (r : DoorRec) (c : Cycle) : beginLead base { r with cycle := some c } = leadWith base r c := rfl

theorem beginCycle_eq (s : State) (d : Nat) (r : DoorRec) (xs : List Passage) : s.beginCycle d r xs =
    if s.partnerOf d = none then s.putDoor d (leadWith s.base r (s.newCycle r xs))
    else (s.putDoor d { r with state := .interlockWait, cycle := some (s.newCycle r xs) }).arbitrate d := by
  unfold beginCycle
  cases s.partnerOf d with
  | none => rfl
  | some p => rfl

theorem releaseRequest_unknown (hd : s.door? d = some r) (h : r.state = .unknown) : s.releaseRequest d xs = (s, .dropped) := by
  simp only [releaseRequest, hd, h]

theorem releaseRequest_begins (hd : s.door? d = some r) (h : r.state = .secured ∨ (r.state = .relocking ∧ r.right = false)) :
    s.releaseRequest d xs = (s.beginCycle d r xs, .taken) := by
  rcases h with h | ⟨h, hr⟩
  · simp only [releaseRequest, hd, h]
  · simp only [releaseRequest, hd, h, hr, Bool.false_eq_true, if_false]

/-- A new cycle's lead sets the state of the door and leaves its right. -/
theorem leadWith_right (base : Nat) {r : DoorRec} (c : Cycle) (x : DoorState) (hr : r.right = true) :
    leadWith base { r with state := x, right := true } c = leadWith base r c := by
  unfold leadWith
  rw [← hr]

theorem releaseRequest_keeps (hd : s.door? d = some r) (h : r.state = .relocking) (hr : r.right = true) :
    s.releaseRequest d xs = (s.putDoor d (leadWith s.base r (s.newCycle r xs)), .taken) := by
  simp only [releaseRequest, hd, h, hr, if_true]
  rw [← leadWith_right s.base (s.newCycle r xs) .relocking hr]
  rfl

/-- The states in which a door's cycle takes further passages (R21). -/
def joinable (x : DoorState) : Prop :=
  x = .interlockWait ∨ x = .releasing ∨ x = .released ∨ x = .opened ∨ x = .held ∨ x = .forced

theorem releaseRequest_joins {e c : Cycle} (hd : s.door? d = some r) (he : r.cycle = some e) (h : joinable r.state)
    (hc : joinCycle e xs = some c) : s.releaseRequest d xs = ((s.putDoor d { r with cycle := some c }).arbitrate d, .taken) := by
  unfold releaseRequest
  rw [hd]
  rcases h with h | h | h | h | h | h <;> simp only [h, he, Option.getD_some, hc]

theorem releaseRequest_full {e : Cycle} (hd : s.door? d = some r) (he : r.cycle = some e) (h : joinable r.state)
    (hc : joinCycle e xs = none) : s.releaseRequest d xs = (s, .full) := by
  unfold releaseRequest
  rw [hd]
  rcases h with h | h | h | h | h | h <;> simp only [h, he, Option.getD_some, hc]

theorem releaseRequest_not_dropped (hd : s.door? d = some r) (h : r.state ≠ .unknown) : (s.releaseRequest d xs).2 ≠ .dropped := by
  unfold releaseRequest
  rw [hd]
  dsimp only
  split
  · rename_i hu
    exact absurd hu h
  · nofun
  · split <;> nofun
  all_goals split <;> nofun

/-! ### Exits (R72, R73) -/

theorem exitListed_iff (r : DoorRec) (p : Option Nat) : exitListed r p = true ↔ ∃ c, r.cycle = some c ∧ match p with
    | some n => ∃ y ∈ c.passages, y.dir = .exit ∧ y.person = some n
    | none => c.unlisted = true ∨ ∃ y ∈ c.passages, y.dir = .exit ∧ y.person = none := by
  unfold exitListed
  cases r.cycle with
  | none => simp
  | some c =>
    cases p with
    | none => simp
    | some n => simp

theorem exitRequest_eq {p : Option Nat} {arrival : Nat} (hd : s.door? d = some r) (hl : exitListed r p = false) :
    s.exitRequest d p arrival =
      let t := s.decided d { outcome := .releasedExit, person := p, time := some s.now }
      let y := t.releaseRequest d [{ dir := .exit, person := p, arrival := arrival }]
      if y.2 = .dropped then y.1.refuse d .doorUnavailable p none else y.1 := by
  unfold exitRequest
  rw [hd]
  dsimp only
  rw [hl, if_neg Bool.false_ne_true]
  rcases State.releaseRequest _ _ _ with ⟨u, j⟩
  cases j <;> rfl

theorem decided_find {x : Decision} (hd : s.door? d = some r) : (s.decided d x).door? d = some { r with
    decision := x, indication := indicationFor x.outcome, indEnd := some (s.base + 300) } := by
  unfold decided
  rw [changeDoor_find _ hd, if_pos rfl]

end State

open State in
/-- Settles O34. -/
theorem exitsReleased : Obligations.ExitsReleased := by
  unfold Obligations.ExitsReleased
  intro s d r p arrival hd t x
  have ht : t.door? d = some { r with decision := _, indication := _, indEnd := _ } := decided_find hd
  have hx : x.dir = .exit := rfl
  refine ⟨fun hl => ?_, fun hl hu => ?_, fun hu hl => ?_, exitListed_iff r p, fun xs hxs => ?_⟩
  · unfold exitRequest
    rw [hd]
    dsimp only
    rw [hl]
    rfl
  · rw [exitRequest_eq hd hl]
    exact if_neg (releaseRequest_not_dropped ht hu)
  · rw [exitRequest_eq hd hl]
    dsimp only
    rw [releaseRequest_unknown ht hu]
    rfl
  · have hreq : Requested x xs := hxs
    refine ⟨releaseRequest_unknown hd, fun h => ?_, fun h hr => ?_, fun e he h => ?_⟩
    · rw [releaseRequest_begins hd h, beginCycle_eq, newCycle_due hx hreq]
      rfl
    · rw [releaseRequest_keeps hd h hr, newCycle_due hx hreq]
      rfl
    · dsimp only
      by_cases hone : xs = [x]
      · subst hone
        simp only [if_true]
        rw [releaseRequest_joins hd he h (joinCycle_exit hx e)]
        by_cases hfit : e.passages.length + 1 ≤ 4
        · rw [if_pos hfit]
          exact (if_pos hfit).symm
        · rw [if_neg hfit]
          exact (if_neg hfit).symm
      · obtain ⟨hne, hall⟩ := hreq.entries hone
        simp only [if_neg hone]
        by_cases hfit : e.passages.length + xs.length ≤ 4
        · rw [if_pos hfit, releaseRequest_joins hd he h ((joinCycle_entries hne hall e).trans (if_pos hfit))]
        · rw [if_neg hfit, releaseRequest_full hd he h ((joinCycle_entries hne hall e).trans (if_neg hfit))]

end Sys2Proof.Machine

/-! ## The timers of a door, and the supervisor's requests on doors (R22, R25, R29, R32 to R35) -/

namespace Sys2Proof.Machine
namespace State
variable {s : State} {d : Nat} {r : DoorRec} {c : Cycle}

theorem reached_of_le {e : Nat} (h : e ≤ s.base) : s.reached (some e) = true := decide_eq_true h

theorem changeDoor_putDoor (f : DoorRec → DoorRec) (hd : s.door? d = some r) (e : Nat) :
    (s.changeDoor d f).door? e = (s.putDoor d (f r)).door? e := by
  rw [changeDoor_find f hd, door?_putDoor]

/-! ### One equation per timer -/

theorem leadEnds_due (hd : s.door? d = some r) (hc : r.cycle = some c) (hs : r.state = .releasing)
    (ht : s.reached c.leadEnd = true) :
    s.leadEnds d = s.putDoor d { r with state := .released, cycle := some { c with leadEnd := none } } := by
  simp only [leadEnds, hd, hc, hs, ht, decide_true, Bool.and_self, if_true, enterReleased, Option.map_some]

theorem strikeEnds_due (hd : s.door? d = some r) (hc : r.cycle = some c) (hs : r.state = .released)
    (ht : s.reached c.strikeEnd = true) : s.strikeEnds d = s.toSecured d := by
  simp only [strikeEnds, hd, hc, hs, ht, decide_true, Bool.and_self, if_true]

theorem relockEnds_due (hd : s.door? d = some r) (hc : r.cycle = some c) (hs : r.state = .relocking)
    (ht : s.reached c.relockEnd = true) : s.relockEnds d = s.toSecured d := by
  simp only [relockEnds, hd, hc, hs, ht, decide_true, Bool.and_self, if_true]

theorem heldOpenEnds_due {e : Nat} (hd : s.door? d = some r) (hc : r.cycle = some c) (hs : r.state = .opened ∨ r.state = .held)
    (he : c.heldEnd = some e) (ht : e ≤ s.base) : s.heldOpenEnds d =
      let v := s.putDoor d { r with state := .held, cycle := some { c with heldEnd := some (e + c.vals.heldOpen * 100) } }
      if r.heldInhibit then v else v.raise .doorHeld (.door d) (some r.cfg.inner) none := by
  have hst : (r.state = .opened || r.state = .held : Bool) = true := by simpa using hs
  simp only [heldOpenEnds, hd, hc, hst, he, reached_of_le ht, Bool.and_self, if_true, Option.map_some]

theorem indicationEnds_due (hd : s.door? d = some r) (ht : s.reached r.indEnd = true) :
    s.indicationEnds d = s.putDoor d { r with indication := .none, indEnd := none } := by
  simp only [indicationEnds, hd, ht, if_true]

theorem strikeEcho_released (hd : s.door? d = some r) (hc : r.cycle = some c) (hs : r.state = .released) :
    (s.strikeEcho d).door? d = some { r with cycle := some { c with
      strikeEnd := c.strikeEnd.orElse fun _ => some (s.base + c.vals.strike * 10) } } := by
  unfold strikeEcho
  rw [changeDoor_find _ hd, if_pos rfl, if_pos hs, hc]
  rfl

/-- The end of INTERLOCK_BREACH changes no door. -/
theorem endBreach_door (s : State) (d : Nat) : (s.endBreach d).door = s.door := by
  unfold endBreach
  split
  · split
    · split <;> rfl
    · rfl
  · rfl

/-- A door that comes to rest without its cycle and without the right (R22, R25). -/
theorem toSecured_find (hd : s.door? d = some r) :
    (s.toSecured d).door? d = some { r with state := .secured, cycle := none, right := false } := by
  unfold toSecured
  refine arbitrate_keeps ?_ nofun rfl
  rw [door?_of_doors (endBreach_door _ _), changeDoor_find _ hd, if_pos rfl]

/-! ### The interlock wait limit (R29) -/

theorem emptyCycle_iff (c : Cycle) : emptyCycle c = true ↔ c.passages = [] ∧ c.unlisted = false := by
  simp [emptyCycle]

/-- The entry that the wait limit takes: the first that has reached it. -/
theorem timedOut_eq {before after : List Passage} {x : Passage} (hl : c.passages = before ++ x :: after) (hx : x.dir = .entry)
    (ht : x.arrival * 10 + c.vals.limit * 100 ≤ s.nowCs)
    (hb : ∀ y ∈ before, y.dir = .exit ∨ s.nowCs < y.arrival * 10 + c.vals.limit * 100) :
    s.timedOut c = some x ∧ c.passages.erase x = before ++ after := by
  have hlate : ∀ y ∈ before, (decide (y.dir = .entry) && decide (y.arrival * 10 + c.vals.limit * 100 ≤ s.nowCs)) = false := by
    intro y hy
    rcases hb y hy with h | h
    · rw [h]
      rfl
    · rw [Bool.and_eq_false_iff]
      exact .inr (decide_eq_false (Nat.not_le.2 h))
  have hxt : (decide (x.dir = .entry) && decide (x.arrival * 10 + c.vals.limit * 100 ≤ s.nowCs)) = true := by
    rw [hx]
    exact decide_eq_true ht
  have hne : x ∉ before := fun hm => by
    rw [hlate x hm] at hxt
    cases hxt
  constructor
  · unfold timedOut
    rw [hl, List.find?_append, List.find?_eq_none.2 (fun y hy => by rw [hlate y hy]; exact Bool.false_ne_true),
      Option.none_or]
    simp only [List.find?_cons, hxt]
  · rw [hl, List.erase_append_right _ hne, List.erase_cons_head]

theorem interlockTimesOut_due {before after : List Passage} {x : Passage} (hd : s.door? d = some r) (hc : r.cycle = some c)
    (hs : r.state = .interlockWait ∨ (r.state = .forced ∧ c.waiting = true)) (ht : s.timedOut c = some x)
    (he : c.passages.erase x = before ++ after) : s.interlockTimesOut d =
      let v := (s.putDoor d { r with cycle := some { c with passages := before ++ after } }).refuse d .interlockTimeout x.person x.grant
      if r.state = .interlockWait ∧ before ++ after = [] ∧ c.unlisted = false then v.toSecured d else v := by
  have hst : (r.state = .interlockWait || (r.state = .forced && c.waiting)) = true := by simpa using hs
  unfold interlockTimesOut
  rw [hd]
  dsimp only
  rw [hc]
  dsimp only
  rw [if_pos hst, ht]
  dsimp only
  rw [he]
  have hcond : (decide (r.state = .interlockWait) && emptyCycle { c with passages := before ++ after }) = true ↔
      r.state = .interlockWait ∧ before ++ after = [] ∧ c.unlisted = false := by
    rw [Bool.and_eq_true, decide_eq_true_eq, emptyCycle_iff]
  simp only [hcond]

/-! ### Exit due and the override (R29) -/

theorem exitFallsDue_releasing (hd : s.door? d = some r) (hc : r.cycle = some c) (ht : s.fallsDue c.exitDue = true)
    (hs : r.state = .releasing) :
    s.exitFallsDue d = s.putDoor d { r with state := .released, cycle := some { c with leadEnd := none } } := by
  simp only [exitFallsDue, hd, hc, ht, if_true, hs, enterReleased, Option.map_some]

theorem exitFallsDue_waiting (hd : s.door? d = some r) (hc : r.cycle = some c) (ht : s.fallsDue c.exitDue = true)
    (hs : r.state = .interlockWait) : s.exitFallsDue d = s.overrideRight d := by
  simp only [exitFallsDue, hd, hc, ht, if_true, hs]

theorem overridden_cfg (q : DoorRec) : (overridden q).cfg = q.cfg := by
  unfold overridden
  split
  · rfl
  · dsimp only
    split <;> rfl
  · rfl

theorem overrideRight_unpaired (hp : s.partnerOf d = none) : s.overrideRight d = s.changeDoor d enterReleased := by
  unfold overrideRight
  rw [hp]

theorem raiseBreach_paired {p : Nat} (hp : s.partnerOf d = some p) : s.raiseBreach d =
    s.raise .interlockBreach (.door (min d p)) ((s.door? (min d p)).map fun q => q.cfg.inner) none := by
  unfold raiseBreach
  rw [hp]

theorem overrideRight_paired {p : Nat} (hp : s.partnerOf d = some p) : s.overrideRight d =
    let v := (s.changeDoor p overridden).changeDoor d (fun q => enterReleased { q with right := true })
    v.raise .interlockBreach (.door (min d p)) ((v.door? (min d p)).map fun q => q.cfg.inner) none := by
  unfold overrideRight
  rw [hp]
  refine raiseBreach_paired ?_
  refine (partnerOf_changeDoor (fun r => ?_) d).trans ((partnerOf_changeDoor (fun r => ?_) d).trans hp)
  · rfl
  · rw [overridden_cfg]

theorem overridden_spec (q : DoorRec) (x : Cycle) : (q.state = .opened ∨ q.state = .held ∨ q.state = .relocking →
      overridden q = { q with right := false }) ∧
    (q.state = .released → overridden q = { q with state := .secured, cycle := none, right := false }) ∧
    (q.state = .releasing → q.cycle = some x → overridden q =
      if x.passages.filter (fun y => y.dir = .exit) = [] ∧ x.unlisted = false then
        { q with state := .secured, cycle := none, right := false }
      else { q with state := .interlockWait, right := false,
                    cycle := some { x with passages := x.passages.filter (fun y => y.dir = .exit), leadEnd := none } }) := by
  refine ⟨fun h => ?_, fun h => ?_, fun h hx => ?_⟩
  · unfold overridden
    split
    · rename_i hs
      rw [hs] at h
      simp at h
    · rename_i hs _
      rw [hs] at h
      simp at h
    · rfl
  · unfold overridden
    split
    · rfl
    · rename_i hs _
      rw [h] at hs
      cases hs
    · rename_i hn _
      exact absurd h hn
  · unfold overridden
    split
    · rename_i hs
      rw [h] at hs
      cases hs
    · rename_i c _ hc
      rw [hx] at hc
      cases hc
      dsimp only
      by_cases he : x.passages.filter (fun y => y.dir = .exit) = [] ∧ x.unlisted = false
      · rw [if_pos ((emptyCycle_iff _).2 he), if_pos he]
      · rw [if_neg (mt (emptyCycle_iff _).1 he), if_neg he]
    · rename_i hn
      exact absurd hx (hn _ h)

end State

open State in
/-- Settles O29. -/
theorem doorTimers : Obligations.DoorTimers := by
  unfold Obligations.DoorTimers
  refine ⟨fun s d => ⟨?_, ?_, ?_, ?_, ?_, ?_⟩, fun s d r c hd hc => ⟨?_, ?_, fun q x => overridden_spec q x⟩⟩
  · intro r c hd hc hs ht
    refine ⟨?_, rfl⟩
    show Host.Outcome.next (s.readTables.leadEnds d).finish = _
    rw [leadEnds_due hd hc hs ht]
  · intro r c hd hc hs
    rw [strikeEcho_released hd hc hs]
    cases c.strikeEnd <;> rfl
  · intro r c hd hc
    refine ⟨fun hs ht => ?_, fun hs ht => ?_, toSecured_find hd⟩
    · show Host.Outcome.next (s.readTables.strikeEnds d).finish = _
      rw [strikeEnds_due hd hc hs ht]
      rfl
    · show Host.Outcome.next (s.readTables.relockEnds d).finish = _
      rw [relockEnds_due hd hc hs ht]
      rfl
  · intro r c e hd hc hs he ht
    show Host.Outcome.next (s.readTables.heldOpenEnds d).finish = _
    rw [heldOpenEnds_due hd hc hs he ht]
  · intro r hd ht
    show Host.Outcome.next (s.readTables.indicationEnds d).finish = _
    rw [indicationEnds_due hd ht]
  · intro r x hd
    rw [decided_find hd]
    cases x.outcome <;> rfl
  · intro before after x hs hl hx ht hb
    obtain ⟨hto, he⟩ := timedOut_eq hl hx ht hb
    show Host.Outcome.next (s.readTables.interlockTimesOut d).finish = _
    rw [interlockTimesOut_due hd hc hs hto he]
    rfl
  · intro e he ht
    have hdue : s.readTables.fallsDue c.exitDue = true := by
      rw [he]
      exact decide_eq_true ht
    refine ⟨fun hs => ?_, fun hs => ⟨fun hp => ?_, fun p hp => ?_⟩⟩
    · show Host.Outcome.next (s.readTables.exitFallsDue d).finish = _
      rw [exitFallsDue_releasing hd hc hdue hs]
    · show Host.Outcome.next (s.readTables.exitFallsDue d).finish = _
      rw [exitFallsDue_waiting hd hc hdue hs, overrideRight_unpaired hp]
      rfl
    · show Host.Outcome.next (s.readTables.exitFallsDue d).finish = _
      rw [exitFallsDue_waiting hd hc hdue hs, overrideRight_paired hp]
      rfl

/-! ### REMOTE_RELEASE, LOCKOUT_ON and LOCKOUT_OFF (R33, R34) -/

namespace State
variable {s : State} {tag : Byte} {d : Nat} {r : DoorRec}

theorem opKey_door (hd : d ≤ 47) : opKey 0 47 (keyReq tag d) = some d := opKey_keyReq (Nat.zero_le _) hd (by decide)

theorem lockout_absent (hk : d ≤ 47) (b : Bool) (hd : s.door? d = none) :
    s.lockout b (keyReq tag d) = (s, refusedWith .notFound) := by
  unfold lockout
  rw [opKey_door hk]
  dsimp only
  rw [hd]

theorem lockout_found (hk : d ≤ 47) (b : Bool) (hd : s.door? d = some r) : s.lockout b (keyReq tag d) =
    if r.suspect then (s, refusedWith .suspect) else (s.putDoor d { r with lockout := b }, okWith []) := by
  unfold lockout
  rw [opKey_door hk]
  dsimp only
  rw [hd]

theorem doorStateAnswer_find (hd : s.door? d = some r) : s.doorStateAnswer d = okWith [fldN 17 1 (doorCode r.state)] := by
  unfold doorStateAnswer
  rw [hd]

theorem remoteRelease_secured {z : ZoneRec} (hk : d ≤ 47) (hd : s.door? d = some r) (hsus : r.suspect = false)
    (hs : r.state = .secured) (hp : s.partnerOf d = none) (hz : s.zone? r.cfg.inner = some z) (ho : z.entry = .opened)
    (hf : z.freeze = .thawed) : s.remoteRelease (keyReq tag d) =
      let w := leadWith s.base r { passages := [{ dir := .entry, arrival := s.nowTenths }], vals := s.classVals r, began := s.nowTenths }
      ((s.putDoor d w).decided d { outcome := .granted, time := some s.now }, okWith [fldN 17 1 (doorCode w.state)]) := by
  have hrel : s.releasable r.cfg.inner = true := by
    unfold releasable
    rw [hz]
    simp [ho, hf]
  have hreq : s.releaseRequest d [s.remotePassage] = (s.putDoor d (leadWith s.base r (s.newCycle r [s.remotePassage])), .taken) := by
    rw [releaseRequest_begins hd (.inl hs), beginCycle_eq, if_pos hp]
  unfold remoteRelease
  rw [opKey_door hk]
  dsimp only
  rw [hd]
  dsimp only
  rw [hsus, if_neg Bool.false_ne_true, hs, hrel, if_neg (by decide), hreq]
  dsimp only
  rw [doorStateAnswer_find ((door?_putDoor _ _ _ _).trans (if_pos rfl))]
  rfl

end State

open State in
/-- Settles O28. -/
theorem doorRequests : Obligations.DoorRequests := by
  unfold Obligations.DoorRequests
  intro s tag d hs hk u
  refine ⟨?_, fun on => ?_⟩
  · intro r z hd hsus hst hp hz ho hf
    show Host.Outcome.next (s.serveWrite (keyReq tag d) State.remoteRelease) = _
    rw [serveWrite_answered hs State.ids_nil, remoteRelease_secured hk hd hsus hst hp hz ho hf]
    dsimp only
    rw [answered_ok]
    rfl
  · have hexec : exec (if on then .lockoutOn (keyReq tag d) else .lockoutOff (keyReq tag d)) s =
        .next (answered tag (u.lockout on (keyReq tag d))) := by
      cases on <;> exact congrArg Host.Outcome.next (serveWrite_answered hs State.ids_nil)
    rw [hexec]
    cases hd : u.door? d with
    | none =>
      rw [lockout_absent hk on hd]
      exact congrArg _ (answered_no tag _ nofun)
    | some r =>
      rw [lockout_found hk on hd]
      dsimp only
      by_cases hsus : r.suspect = true
      · rw [if_pos hsus, if_pos hsus]
        exact congrArg _ (answered_no tag _ nofun)
      · rw [if_neg hsus, if_neg hsus]
        exact congrArg _ (answered_ok tag _ _)

end Sys2Proof.Machine

/-! ## Deadlines and waits that end, and timers that are not due (R71, R78, R92, R93, R95, R125, R127, R182) -/

namespace Sys2Proof.Machine
namespace State
variable {s : State} {i d a : Nat}

/-! ### The deadlines of an occupancy record -/

theorem isAfter_eq {z : Nat} {y : ZoneRec} (hz : s.zone? z = some y) : s.isAfter z = decide (y.hours = .after) := by
  unfold isAfter
  rw [hz]

theorem isAfter_of {z : Nat} {y : ZoneRec} (hz : s.zone? z = some y) (h : y.hours = .after) : s.isAfter z = true := by
  rw [isAfter_eq hz, decide_eq_true h]

theorem passed_of_le {t : Nat} (h : t ≤ s.now) : s.passed (some t) = true := decide_eq_true h

section
variable {r : OccRec}

theorem takeDwell_due (hr : s.occ? i = some r) (hp : s.passed r.dwell = true) (ha : s.isAfter r.zone = true)
    (ho : r.overdue = false) (hs : r.suspect = false) : s.takeDwell i =
      (s.putOcc i { r with overdue := true }).raise .dwellOverrun (.person r.person) (some r.zone) (some r.person) := by
  simp only [takeDwell, hr, hp, ha, ho, hs, Bool.not_false, Bool.and_self, if_true]

theorem takeDwell_not (hr : s.occ? i = some r)
    (h : s.passed r.dwell = false ∨ s.isAfter r.zone = false ∨ r.overdue = true ∨ r.suspect = true) : s.takeDwell i = s := by
  unfold takeDwell
  rw [hr]
  exact if_neg (by rcases h with h | h | h | h <;> simp [h])

theorem takeCheckin_due (hr : s.occ? i = some r) (hp : s.passed r.checkin = true) (ha : s.isAfter r.zone = true)
    (hs : r.suspect = false) : s.takeCheckin i = (s.putOcc i { r with missing := true, checkin := none }).raise
      .checkinMissed (.person r.person) (some r.zone) (some r.person) := by
  simp only [takeCheckin, hr, hp, ha, hs, Bool.not_false, Bool.and_self, if_true]

theorem takeCheckin_not (hr : s.occ? i = some r)
    (h : s.passed r.checkin = false ∨ s.isAfter r.zone = false ∨ r.suspect = true) : s.takeCheckin i = s := by
  unfold takeCheckin
  rw [hr]
  exact if_neg (by rcases h with h | h | h <;> simp [h])

theorem takePairGrace_due (hr : s.occ? i = some r) (hp : s.passed r.pairGrace = true) (ha : s.isAfter r.zone = true)
    (hs : r.suspect = false) : s.takePairGrace i = (s.putOcc i { r with pairGrace := none }).raise
      .pairBroken (.person r.person) (some r.zone) (some r.person) := by
  simp only [takePairGrace, hr, hp, ha, hs, Bool.not_false, Bool.and_self, if_true]

theorem takePairGrace_not (hr : s.occ? i = some r)
    (h : s.passed r.pairGrace = false ∨ s.isAfter r.zone = false ∨ r.suspect = true) : s.takePairGrace i = s := by
  unfold takePairGrace
  rw [hr]
  exact if_neg (by rcases h with h | h | h <;> simp [h])

end

/-! ### The pair window and the wait list -/

theorem pairWindowEnds_due {r : DoorRec} {w : PairWait} (hd : s.door? d = some r) (hw : r.pairWait = some w)
    (ht : w.start * 10 + w.window * 100 ≤ s.nowCs) : s.pairWindowEnds d =
      (s.putDoor d { r with pairWait := none }).refuse d .pairTimeout (some w.person) w.grant := by
  simp only [pairWindowEnds, hd, hw, ht, if_true]

theorem waitPerson_of {e : WaitEntry} {c : Nat} (h : e.credential = some c) :
    s.waitPerson e = ((s.resolve c).1, (s.resolve c).2.person?) := by
  unfold waitPerson
  rw [h]

theorem waitExpires_due {e : WaitEntry} {rest : List WaitEntry} (hw : s.adm.waits = e :: rest)
    (ht : e.arrival * 10 + 800 ≤ s.nowCs) : s.waitExpires =
      let x := (s.setAdm { s.adm with waits := rest }).waitPerson e
      x.1.refuse e.door .waitExpired x.2 none := by
  unfold waitExpires
  rw [hw]
  exact if_pos ht

end State

open State in
/-- Settles O38. -/
theorem waitsAndDeadlines : Obligations.WaitsAndDeadlines := by
  unfold Obligations.WaitsAndDeadlines
  refine ⟨?_, ?_, ?_⟩
  · intro s i r z u hr hs hz ha
    have haft := isAfter_of hz ha
    refine ⟨fun t hd ht ho => ?_, fun ho => ?_, fun t hd ht => ?_, fun t hd ht => ?_⟩
    · show Host.Outcome.next (u.takeDwell i).finish = _
      rw [takeDwell_due hr (hd ▸ passed_of_le ht) haft ho hs]
    · show Host.Outcome.next (u.takeDwell i).finish = _
      rw [takeDwell_not hr (.inr (.inr (.inl ho)))]
    · show Host.Outcome.next (u.takeCheckin i).finish = _
      rw [takeCheckin_due hr (hd ▸ passed_of_le ht) haft hs]
    · show Host.Outcome.next (u.takePairGrace i).finish = _
      rw [takePairGrace_due hr (hd ▸ passed_of_le ht) haft hs]
  · intro s d r w u hd hw ht
    show Host.Outcome.next (u.pairWindowEnds d).finish = _
    rw [pairWindowEnds_due hd hw ht]
    rfl
  · intro s e rest c u hw ht hc x
    show Host.Outcome.next u.waitExpires.finish = _
    rw [waitExpires_due hw ht, waitPerson_of hc]
    rfl

/-! ### Timers that are not due -/

namespace State
variable {s : State} {n : Nat} {r : DoorRec}

theorem leadEnds_not (hd : s.door? n = some r)
    (h : r.state ≠ .releasing ∨ ∀ c, r.cycle = some c → s.reached c.leadEnd = false) : s.leadEnds n = s := by
  unfold leadEnds
  rw [hd]
  dsimp only
  cases hc : r.cycle with
  | none => rfl
  | some c => exact if_neg (by rcases h with h | h <;> simp [h, hc])

theorem strikeEnds_not (hd : s.door? n = some r)
    (h : r.state ≠ .released ∨ ∀ c, r.cycle = some c → s.reached c.strikeEnd = false) : s.strikeEnds n = s := by
  unfold strikeEnds
  rw [hd]
  dsimp only
  cases hc : r.cycle with
  | none => rfl
  | some c => exact if_neg (by rcases h with h | h <;> simp [h, hc])

theorem relockEnds_not (hd : s.door? n = some r)
    (h : r.state ≠ .relocking ∨ ∀ c, r.cycle = some c → s.reached c.relockEnd = false) : s.relockEnds n = s := by
  unfold relockEnds
  rw [hd]
  dsimp only
  cases hc : r.cycle with
  | none => rfl
  | some c => exact if_neg (by rcases h with h | h <;> simp [h, hc])

theorem heldOpenEnds_not (hd : s.door? n = some r)
    (h : (r.state ≠ .opened ∧ r.state ≠ .held) ∨ ∀ c, r.cycle = some c → s.reached c.heldEnd = false) :
    s.heldOpenEnds n = s := by
  unfold heldOpenEnds
  rw [hd]
  dsimp only
  cases hc : r.cycle with
  | none => rfl
  | some c => exact if_neg (by rcases h with h | h <;> simp [h, hc])

theorem interlockTimesOut_not (hd : s.door? n = some r)
    (h : (r.state ≠ .interlockWait ∧ (r.state ≠ .forced ∨ ∀ c, r.cycle = some c → c.waiting = false)) ∨
      ∀ c x, r.cycle = some c → x ∈ c.passages → x.dir = .entry → s.nowCs < x.arrival * 10 + c.vals.limit * 100) :
    s.interlockTimesOut n = s := by
  unfold interlockTimesOut
  rw [hd]
  dsimp only
  cases hc : r.cycle with
  | none => rfl
  | some c =>
    dsimp only
    rcases h with ⟨hw, hf⟩ | hlate
    · exact if_neg (by rcases hf with hf | hf <;> simp [hw, hf, hc])
    · have hnone : s.timedOut c = none := by
        unfold timedOut
        rw [List.find?_eq_none]
        intro x hx
        rw [Bool.and_eq_true, decide_eq_true_eq, decide_eq_true_eq]
        rintro ⟨hdir, hle⟩
        exact absurd (hlate c x hc hx hdir) (Nat.not_lt.2 hle)
      rw [hnone]
      exact ite_self s

theorem exitFallsDue_not (hd : s.door? n = some r)
    (h : (r.state ≠ .interlockWait ∧ r.state ≠ .releasing) ∨ ∀ c, r.cycle = some c → s.fallsDue c.exitDue = false) :
    s.exitFallsDue n = s := by
  unfold exitFallsDue
  rw [hd]
  dsimp only
  cases hc : r.cycle with
  | none => rfl
  | some c =>
    dsimp only
    rcases h with ⟨hw, hl⟩ | hnot
    · split
      · split
        · rename_i hs
          exact absurd hs hw
        · rename_i hs
          exact absurd hs hl
        all_goals rfl
      · rfl
    · rw [hnot c hc]
      rfl

theorem indicationEnds_not (hd : s.door? n = some r) (h : s.reached r.indEnd = false) : s.indicationEnds n = s := by
  simp only [indicationEnds, hd, h, Bool.false_eq_true, if_false]

theorem pairWindowEnds_not (hd : s.door? n = some r)
    (h : ∀ w, r.pairWait = some w → s.nowCs < w.start * 10 + w.window * 100) : s.pairWindowEnds n = s := by
  unfold pairWindowEnds
  rw [hd]
  dsimp only
  cases hw : r.pairWait with
  | none => rfl
  | some w => exact if_neg (Nat.not_le.2 (h w hw))

/-- No timer of a door that is not configured runs. -/
theorem doorTimers_absent (hd : s.door? n = none) : s.leadEnds n = s ∧ s.strikeEnds n = s ∧ s.heldOpenEnds n = s ∧
    s.relockEnds n = s ∧ s.interlockTimesOut n = s ∧ s.exitFallsDue n = s ∧ s.indicationEnds n = s ∧ s.pairWindowEnds n = s := by
  simp only [leadEnds, strikeEnds, heldOpenEnds, relockEnds, interlockTimesOut, exitFallsDue, indicationEnds,
    pairWindowEnds, hd, and_self]

theorem occDeadlines_absent (ho : s.occ? n = none) : s.takeDwell n = s ∧ s.takeCheckin n = s ∧ s.takePairGrace n = s := by
  simp only [takeDwell, takeCheckin, takePairGrace, ho, and_self]

theorem takeCountdown_not (h : (s.agent n).state ≠ .countdown ∨ s.passed (s.agent n).deadline = false) :
    s.takeCountdown n = s := if_neg (by rcases h with h | h <;> simp [h])

theorem takeConfirmation_not
    (h : (s.agent n).state ≠ .discharge ∨ (s.agent n).echoed = false ∨ s.passed (s.agent n).confirmBy = false) :
    s.takeConfirmation n = s := if_neg (by rcases h with h | h | h <;> simp [h])

theorem waitExpires_not (h : ∀ e rest, s.adm.waits = e :: rest → s.nowCs < e.arrival * 10 + 800) : s.waitExpires = s := by
  unfold waitExpires
  cases hw : s.adm.waits with
  | nil => rfl
  | cons e rest => exact if_neg (Nat.not_le.2 (h e rest hw))

theorem windowEnds_free (h : s.link.exchange = none) : s.windowEnds = s.finish := by
  unfold windowEnds
  rw [h]

end State

open State in
/-- Settles O60. -/
theorem timersNotDue : Obligations.TimersNotDue := by
  unfold Obligations.TimersNotDue
  intro s n u
  have done : ∀ {t : State}, t = u → (Host.Outcome.next t.finish : Outcome) = .next u.finish := fun h => h ▸ rfl
  refine ⟨fun hd i hi => ?_, fun r hd => ⟨fun h => done (leadEnds_not hd h), fun h => done (strikeEnds_not hd h),
      fun h => done (heldOpenEnds_not hd h), fun h => done (relockEnds_not hd h), fun h => done (interlockTimesOut_not hd h),
      fun h => done (exitFallsDue_not hd h), fun h => done (indicationEnds_not hd h), fun h => done (pairWindowEnds_not hd h)⟩,
    fun ho i hi => ?_, fun r ho => ⟨fun h => done (takeDwell_not ho h), fun h => done (takeCheckin_not ho h),
      fun h => done (takePairGrace_not ho h)⟩, fun h => done (takeCountdown_not h), fun h => done (takeConfirmation_not h),
    fun h => done (waitExpires_not h), fun h => congrArg Host.Outcome.next (windowEnds_free h), rfl, rfl, rfl⟩
  · obtain ⟨hlead, hstrike, hheld, hrelock, hwait, hexit, hind, hpair⟩ := doorTimers_absent hd
    simp only [List.mem_cons, List.not_mem_nil, or_false] at hi
    rcases hi with rfl | rfl | rfl | rfl | rfl | rfl | rfl | rfl
    · exact done hlead
    · exact done hstrike
    · exact done hheld
    · exact done hrelock
    · exact done hwait
    · exact done hexit
    · exact done hind
    · exact done hpair
  · obtain ⟨hdwell, hcheckin, hgrace⟩ := occDeadlines_absent ho
    simp only [List.mem_cons, List.not_mem_nil, or_false] at hi
    rcases hi with rfl | rfl | rfl
    · exact done hdwell
    · exact done hcheckin
    · exact done hgrace

/-! ### The calendar (R182) -/

namespace State
variable {u : RetentionUnit}

theorem secondLater_top (h : u.now = Config.secondsTop) : secondLater u = { u with base := (u.base / 100 + 1) * 100 } := by
  unfold secondLater
  exact if_neg (h ▸ Nat.lt_irrefl _)

theorem minuteAdvances_top (h : u.now = Config.secondsTop) : minuteAdvances u = false := by
  unfold minuteAdvances
  rw [decide_eq_false (h ▸ Nat.lt_irrefl _)]
  rfl

theorem secondLater_below (h : u.now < Config.secondsTop) : secondLater u = { u with
    base := (u.base / 100 + 1) * 100, now := u.now + 1, markerCheck := true,
    calendar := u.calendar.map fun c => (nextSecond c).1 } := by
  unfold secondLater
  exact if_pos h

theorem minuteAdvances_below (h : u.now < Config.secondsTop) :
    minuteAdvances u = (u.calendar.map fun c => (nextSecond c).2).getD false := by
  unfold minuteAdvances
  rw [decide_eq_true h]
  cases u.calendar <;> rfl

/-- The part one second later with its calendar at `x`, and every zone evaluated where the minute of week has advanced. -/
def advancedTo (s : State) (x : Calendar × Bool) : State :=
  let v := s.setRet { s.ret with
    base := (s.ret.base / 100 + 1) * 100, now := s.ret.now + 1, markerCheck := true, calendar := some x.1 }
  if x.2 then v.evaluateAllHours else v

variable {s : State} {k : Calendar}

theorem advanceCalendar_top (h : s.ret.now = Config.secondsTop) :
    s.advanceCalendar = s.setRet { s.ret with base := (s.ret.base / 100 + 1) * 100 } := by
  unfold advanceCalendar
  rw [secondLater_top h, minuteAdvances_top h]
  exact if_neg Bool.false_ne_true

theorem advanceCalendar_unset (h : s.ret.now < Config.secondsTop) (hc : s.ret.calendar = none) : s.advanceCalendar = s.setRet
    { s.ret with base := (s.ret.base / 100 + 1) * 100, now := s.ret.now + 1, markerCheck := true } := by
  unfold advanceCalendar
  rw [secondLater_below h, minuteAdvances_below h, hc]
  show s.setRet _ = _
  rw [Option.map_none, ← hc]

theorem advanceCalendar_set (h : s.ret.now < Config.secondsTop) (hc : s.ret.calendar = some k) :
    s.advanceCalendar = s.advancedTo (nextSecond k) := by
  unfold advanceCalendar advancedTo
  rw [secondLater_below h, minuteAdvances_below h, hc]
  rfl

theorem nextSecond_within (h : k.second < 59) : nextSecond k = ({ k with second := k.second + 1 }, false) := if_pos h

theorem nextSecond_last (h : 59 ≤ k.second) : nextSecond k =
    (let m := if k.minute = 10079 then 0 else k.minute + 1
     ({ day := if m % 1440 = 0 then min 65535 (k.day + 1) else k.day, minute := m, second := 0 }, true)) :=
  if_neg (Nat.not_lt.2 h)

end State

open State in
/-- Settles O58. -/
theorem calendarAdvances : Obligations.CalendarAdvances := by
  unfold Obligations.CalendarAdvances
  intro s u b
  refine ⟨fun h => ?_, fun h => ⟨fun hc => ?_, fun k hc hk => ?_, fun k hc hk => ?_⟩⟩
  · show Host.Outcome.next u.advanceCalendar.finish = _
    rw [advanceCalendar_top h]
  · show Host.Outcome.next u.advanceCalendar.finish = _
    rw [advanceCalendar_unset h hc]
  · show Host.Outcome.next u.advanceCalendar.finish = _
    rw [advanceCalendar_set h hc, nextSecond_within hk]
    rfl
  · show Host.Outcome.next u.advanceCalendar.finish = _
    rw [advanceCalendar_set h hc, nextSecond_last hk]
    rfl

/-! ### The deadlines of an agent (R125, R127) -/

namespace State
variable {s : State} {a t : Nat}

theorem takeCountdown_due (hs : (s.agent a).state = .countdown) (hd : (s.agent a).deadline = some t) (ht : t ≤ s.now) :
    s.takeCountdown a = s.deadlineTaken a := if_pos (by rw [hs, hd, passed_of_le ht]; rfl)

theorem takeConfirmation_due (hs : (s.agent a).state = .discharge) (he : (s.agent a).echoed = true)
    (hd : (s.agent a).confirmBy = some t) (ht : t ≤ s.now) :
    s.takeConfirmation a = (s.enterDischarged a).raiseAgent a .dischargeUnconfirmed :=
  if_pos (by rw [hs, he, hd, passed_of_le ht]; rfl)

theorem deadlineTaken_eq : s.deadlineTaken a = if s.occClear a = true ∧ s.doorsClosed a = true then
    (s.putAgent a { s.agent a with flag := true, echoed := false }).enterState a .discharge
    else (s.enterState a .occupiedHold).raiseAgent a .occupiedHold := by
  have hg : s.gateOpen a = true ↔ s.occClear a = true ∧ s.doorsClosed a = true := Bool.and_eq_true_iff
  unfold deadlineTaken
  simp only [hg]
  rfl

end State

open State in
/-- Settles O40. -/
theorem agentDeadlines : Obligations.AgentDeadlines := by
  unfold Obligations.AgentDeadlines
  intro s a t _ u q
  refine ⟨fun hs hd ht => ?_, fun hs he hd ht => ?_⟩
  · show Host.Outcome.next (u.takeCountdown a).finish = _
    rw [takeCountdown_due hs hd ht, deadlineTaken_eq]
  · show Host.Outcome.next (u.takeConfirmation a).finish = _
    rw [takeConfirmation_due hs he hd ht]
    rfl

end Sys2Proof.Machine

/-! ## The release logic and the inputs of the Release Unit (R110 to R115, R121, R122) -/

namespace Sys2Proof.Machine

/-! ### Bits of a word -/

theorem getLsbD_one_shiftLeft {i j : Nat} (hi : i < 32) : (1#32 <<< i).getLsbD j = decide (j = i) := by
  rw [BitVec.getLsbD_shiftLeft, BitVec.getLsbD_one]
  by_cases h : j = i
  · subst h
    simp [hi]
  · rw [decide_eq_false h]
    by_cases hlt : j < i
    · simp [hlt]
    · have hne : ¬ j - i = 0 := by omega
      simp [hne]

theorem getLsbD_setBit (w : BitVec 32) {i : Nat} (hi : i < 32) (b : Bool) (j : Nat) :
    (setBit w i b).getLsbD j = if j = i then b else w.getLsbD j := by
  unfold setBit
  cases b with
  | true =>
    rw [if_pos rfl, BitVec.getLsbD_or, getLsbD_one_shiftLeft hi]
    by_cases h : j = i
    · simp [h]
    · simp [h]
  | false =>
    rw [if_neg Bool.false_ne_true, BitVec.getLsbD_and, BitVec.getLsbD_not, getLsbD_one_shiftLeft hi]
    by_cases h : j = i
    · simp [h]
    · rw [decide_eq_false h, if_neg h]
      by_cases hj : j < 32
      · simp [hj]
      · simp [hj, BitVec.getLsbD_of_ge w j (by omega)]

/-! ### Detector compare (R110) -/

theorem latched_iff (p : Bool) (v t h : Nat) : (t ≤ v → latched p v t h = true) ∧ (v + h < t → latched p v t h = false) ∧
    (v < t → t ≤ v + h → latched p v t h = p) := by
  unfold latched
  refine ⟨fun h1 => if_pos h1, fun h1 => ?_, fun h1 h2 => ?_⟩
  · rw [if_neg (by omega), if_pos h1]
  · rw [if_neg (by omega), if_neg (by omega)]

theorem detect_spec (c : Channel) (v : Nat) (alert fire : Bool) (hf : c.floor ≤ 1022) :
    let b := detect c v alert fire
    (b.fault = true ↔ v < c.floor) ∧ (b.overRange = true ↔ v = 1023) ∧ ¬ (b.fault = true ∧ b.overRange = true) ∧
    (b.fault = true → b.alert = false ∧ b.fire = false) ∧ (b.overRange = true → b.alert = true ∧ b.fire = true) ∧
    (b.fault = false → b.overRange = false →
      b.alert = latched alert v (alertEff c) c.hyst ∧ b.fire = latched fire v (fireEff c) c.hyst) := by
  dsimp only [detect]
  have hexcl : ¬ (v < c.floor ∧ v = 1023) := by omega
  refine ⟨decide_eq_true_iff, decide_eq_true_iff, by simpa using hexcl, fun h => ?_, fun h => ?_, fun h1 h2 => ?_⟩
  · have hn : v ≠ 1023 := fun hv => hexcl ⟨of_decide_eq_true h, hv⟩
    simp [h, hn]
  · simp [h]
  · simp [h1, h2]

/-! ### Evaluation (R113 to R115) -/

theorem opResult_spec (a b : Bool) : opResult .and a b = (a && b) ∧ opResult .andc a b = (a && !b) ∧
    opResult .or a b = (a || b) ∧ opResult .orc a b = (a || !b) ∧ opResult .nand a b = !(a && b) ∧
    opResult .nor a b = !(a || b) ∧ opResult .xor a b = (a ^^ b) ∧ opResult .eqv a b = !(a ^^ b) := by
  refine ⟨rfl, rfl, rfl, rfl, rfl, rfl, ?_, ?_⟩ <;> cases a <;> cases b <;> rfl

/-- The reset logic, by its outputs (R115). -/
theorem runTerms_reset (w : BitVec 32) : (runTerms w resetTerms).getLsbD 20 = (w.getLsbD 0 || w.getLsbD 3) ∧
    (runTerms w resetTerms).getLsbD 25 =
      (w.getLsbD 1 && w.getLsbD 4 || (w.getLsbD 1 && w.getLsbD 5 || w.getLsbD 4 && w.getLsbD 2)) := by
  simp only [runTerms, resetTerms, opResult, getLsbD_setBit, Nat.reduceLT, Nat.reduceEqDiff, ↓reduceIte, and_self]

namespace State
variable {s : State} {a : Nat}

theorem evaluate_eq : s.evaluate a =
    s.putAgent a { s.agent a with
      cw := runTerms (s.agent a).cw (s.logicInForce a).terms
      alertOut := (runTerms (s.agent a).cw (s.logicInForce a).terms).getLsbD (s.logicInForce a).alertSel
      releaseOut := (runTerms (s.agent a).cw (s.logicInForce a).terms).getLsbD (s.logicInForce a).releaseSel } := rfl

theorem agent_putAgent_self (ha : a < 8) (r : AgentRec) : (s.putAgent a r).agent a = r := by
  rw [agent_putAgent, if_pos ⟨rfl, ha⟩]

theorem agent_putAgent_ne {b : Nat} (hb : b ≠ a) (r : AgentRec) : (s.putAgent a r).agent b = s.agent b := by
  rw [agent_putAgent, if_neg fun h => hb h.1]

end State

open State in
/-- Settles O41. -/
theorem logicEvaluates : Obligations.LogicEvaluates := by
  unfold Obligations.LogicEvaluates
  refine ⟨?_, opResult_spec, ?_, ?_, runTerms_reset⟩
  · intro c v alert fire hf _ aEff fEff b
    obtain ⟨hfault, hover, hexcl, hforced, hset, hlatched⟩ := detect_spec c v alert fire hf
    obtain ⟨ha1, ha2, ha3⟩ := latched_iff alert v aEff c.hyst
    obtain ⟨hf1, hf2, hf3⟩ := latched_iff fire v fEff c.hyst
    refine ⟨hfault, hover, hexcl, hforced, hset, fun h1 h2 => ?_⟩
    obtain ⟨hb1, hb2⟩ := hlatched h1 h2
    exact ⟨hb1 ▸ ha1, hb1 ▸ ha2, hb1 ▸ ha3, hb2 ▸ hf1, hb2 ▸ hf2, hb2 ▸ hf3⟩
  · intro w t ts i ht
    exact ⟨rfl, getLsbD_setBit w ht _ i⟩
  · intro s a b ha
    dsimp only
    rw [evaluate_eq]
    exact ⟨agent_putAgent_self ha _, fun hb => agent_putAgent_ne hb _, rfl⟩

/-! ### The derived inputs and their sources (R112) -/

namespace State
variable {s : State} {a : Nat}

theorem not_mem_of_find_none {α : Type} {t : Table α} {k : Nat} (h : t.find k = none) (r : α) : (k, r) ∉ t := by
  induction t with
  | nil => exact List.not_mem_nil
  | cons p t ih =>
    obtain ⟨k', v⟩ := p
    rw [Table.find_cons] at h
    intro hm
    split at h
    · cases h
    · rename_i hk
      rcases List.mem_cons.1 hm with he | hm
      · cases he
        exact hk rfl
      · exact ih h hm

/-- The zones that are configured are those that a walk over the table meets. -/
theorem mem_keys_zones {z : Nat} : z ∈ s.occ.zones.keys ↔ ∃ r, s.zone? z = some r := by
  unfold State.zone? Table.keys
  constructor
  · intro h
    obtain ⟨⟨k, r⟩, hm, rfl⟩ := List.mem_map.1 h
    cases hf : s.occ.zones.find k with
    | some y => exact ⟨y, rfl⟩
    | none => exact absurd hm (not_mem_of_find_none hf r)
  · rintro ⟨r, h⟩
    exact List.mem_map.2 ⟨(z, r), Table.mem_of_find h, rfl⟩

theorem mem_coverage {z : Nat} : z ∈ s.coverage a ↔ (∃ r, s.zone? z = some r) ∧ s.covers a z = true := by
  unfold coverage
  rw [List.mem_filter, mem_keys_zones]

theorem occClear_iff : s.occClear a = true ↔ ∀ z y, s.zone? z = some y → s.covers a z = true →
    s.occupants z = 0 ∧ s.reservations z = 0 ∧ y.verified = true := by
  unfold occClear
  simp only [List.all_eq_true, mem_coverage, Bool.and_eq_true, decide_eq_true_eq]
  constructor
  · intro h z y hz hc
    obtain ⟨⟨ho, hr⟩, hv⟩ := h z ⟨⟨y, hz⟩, hc⟩
    rw [hz] at hv
    exact ⟨ho, hr, hv⟩
  · rintro h z ⟨⟨y, hz⟩, hc⟩
    obtain ⟨ho, hr, hv⟩ := h z y hz hc
    refine ⟨⟨ho, hr⟩, ?_⟩
    rw [hz]
    exact hv

theorem doorsClosed_iff : s.doorsClosed a = true ↔ ∀ d r, (d, r) ∈ s.door.doors → s.covers a r.cfg.inner = true →
    r.state = .secured ∨ r.state = .relocking := by
  unfold doorsClosed
  simp only [List.all_eq_true, Bool.or_eq_true, Bool.not_eq_true', decide_eq_true_eq]
  constructor
  · intro h d r hm hc
    rcases h (d, r) hm with (h | h) | h
    · rw [hc] at h
      cases h
    · exact .inl h
    · exact .inr h
  · rintro h ⟨d, r⟩ hm
    cases hc : s.covers a r.cfg.inner with
    | false => exact .inl (.inl rfl)
    | true => exact (h d r hm hc).imp_left .inr

theorem afterHours_iff : s.afterHours a = true ↔ ∃ x y, s.effectiveTop a = some x ∧ s.zone? x = some y ∧ y.hours = .after := by
  unfold afterHours isAfter
  cases s.effectiveTop a with
  | none => simp
  | some x => cases h : s.zone? x <;> simp [h]

theorem duressOpen_iff : s.duressOpen a = true ↔ ∃ n r z, (n, r) ∈ s.alm.recs ∧ r.kind = some .duress ∧ r.zone = some z ∧
    (s.zone? z).isSome = true ∧ s.covers a z = true := by
  have hz : ∀ r : AlarmRec, (match r.zone with | none => false | some z => (s.coverage a).contains z) = true ↔
      ∃ z, r.zone = some z ∧ (s.zone? z).isSome = true ∧ s.covers a z = true := by
    intro r
    cases r.zone with
    | none => simp
    | some z => simp [mem_coverage, Option.isSome_iff_exists]
  unfold duressOpen AlarmUnit.duressIn
  rw [List.any_eq_true]
  constructor
  · rintro ⟨⟨n, r⟩, hm, h⟩
    rw [Bool.and_eq_true, decide_eq_true_eq] at h
    obtain ⟨z, h1, h2⟩ := (hz r).1 h.2
    exact ⟨n, r, z, hm, h.1, h1, h2⟩
  · rintro ⟨n, r, z, hm, hk, h1, h2⟩
    refine ⟨(n, r), hm, ?_⟩
    rw [Bool.and_eq_true, decide_eq_true_eq]
    exact ⟨hk, (hz r).2 ⟨z, h1, h2⟩⟩

theorem stationOk_iff : s.stationOk a = true ↔ ∃ k st, (s.agent a).cfg.station = some k ∧ s.station? k = some st ∧
    st.cfg = ⟨.agent, a⟩ ∧ st.suspect = false ∧ st.link = .answering := by
  have hcfg : ∀ c : StationCfg, c = ⟨.agent, a⟩ ↔ c.kind = .agent ∧ c.bound = a := by
    rintro ⟨k, b⟩
    simp
  unfold stationOk agentServed
  cases (s.agent a).cfg.station with
  | none => simp
  | some k =>
    cases h : s.station? k with
    | none => simp [h]
    | some st =>
      by_cases hs : (decide (st.cfg.kind = .agent) && decide (st.cfg.bound = a) && !st.suspect) = true
      · have hs' := hs
        simp only [Bool.and_eq_true, decide_eq_true_eq, Bool.not_eq_true'] at hs'
        simp [h, hcfg, hs']
      · have hs' := hs
        simp only [Bool.and_eq_true, decide_eq_true_eq, Bool.not_eq_true'] at hs'
        simp only [h, if_neg hs]
        simp only [Bool.false_eq_true, false_iff]
        rintro ⟨k', st', hk, hst, hc, hsus, _⟩
        cases hk
        rw [h] at hst
        cases hst
        exact hs' ⟨(hcfg _).1 hc, hsus⟩

theorem covers_iff (z : Nat) : s.covers a z = true ↔ ∃ x, s.effectiveTop a = some x ∧ s.isUnder z x = true := by
  unfold covers
  cases s.effectiveTop a <;> simp

theorem mem_eight {b : Nat} : b ∈ eight ↔ b < 8 := by
  unfold eight
  simp only [List.mem_cons, List.not_mem_nil, or_false]
  omega

/-- A zone lies in the stored coverage of another agent. -/
def underOther (s : State) (a t : Nat) : Prop :=
  ∃ b y, b < 8 ∧ b ≠ a ∧ (s.agent b).cfg.top = some y ∧ s.isUnder t y = true

theorem effectiveTop_sound {t : Nat} (h : (s.agent a).cfg.top = some t) (hs : (s.agent a).suspect = false) :
    s.effectiveTop a = some t := by
  simp only [effectiveTop, h, hs, Bool.false_eq_true, if_false]

theorem effectiveTop_suspect {t x : Nat} (h : (s.agent a).cfg.top = some t) (hs : (s.agent a).suspect = true) :
    s.effectiveTop a = some x ↔ t = x ∧ (s.zone? t).isSome = true ∧ ¬ underOther s a t := by
  have hany : eight.any (fun b => b != a && match (s.agent b).cfg.top with
      | none => false
      | some y => s.isUnder t y) = true ↔ underOther s a t := by
    rw [List.any_eq_true]
    constructor
    · rintro ⟨b, hb, h⟩
      rw [Bool.and_eq_true, bne_iff_ne] at h
      obtain ⟨hne, hu⟩ := h
      cases htop : (s.agent b).cfg.top with
      | none =>
        rw [htop] at hu
        cases hu
      | some y =>
        rw [htop] at hu
        exact ⟨b, y, mem_eight.1 hb, hne, htop, hu⟩
    · rintro ⟨b, y, hb, hne, htop, hu⟩
      refine ⟨b, mem_eight.2 hb, ?_⟩
      rw [Bool.and_eq_true, bne_iff_ne, htop]
      exact ⟨hne, hu⟩
  unfold effectiveTop
  rw [h]
  dsimp only
  rw [if_pos hs]
  by_cases hc : (s.zone? t).isSome = true ∧ ¬ underOther s a t
  · rw [if_pos (by rw [Bool.and_eq_true, Bool.not_eq_true', ← Bool.not_eq_true]; exact ⟨hc.1, mt hany.1 hc.2⟩)]
    simp only [Option.some.injEq, hc, not_false_eq_true, and_self, and_true]
  · rw [if_neg (by rw [Bool.and_eq_true, Bool.not_eq_true', ← Bool.not_eq_true]; exact fun hb => hc ⟨hb.1, mt hany.2 hb.2⟩)]
    simp only [reduceCtorEq, hc, and_false]

theorem effectiveTop_iff (x : Nat) : s.effectiveTop a = some x ↔ (s.agent a).cfg.top = some x ∧
    ((s.agent a).suspect = true → (s.zone? x).isSome = true ∧
      ∀ b y, b < 8 → b ≠ a → (s.agent b).cfg.top = some y → s.isUnder x y = false) := by
  have hunder : ¬ underOther s a x ↔ ∀ b y, b < 8 → b ≠ a → (s.agent b).cfg.top = some y → s.isUnder x y = false := by
    constructor
    · exact fun h b y hb hne htop => Bool.eq_false_iff.2 fun hu => h ⟨b, y, hb, hne, htop, hu⟩
    · rintro h ⟨b, y, hb, hne, htop, hu⟩
      rw [h b y hb hne htop] at hu
      cases hu
  rw [← hunder]
  cases htop : (s.agent a).cfg.top with
  | none => simp [effectiveTop, htop]
  | some t =>
    cases hs : (s.agent a).suspect with
    | false => simp [effectiveTop_sound htop hs]
    | true =>
      rw [effectiveTop_suspect htop hs, Option.some.injEq]
      constructor
      · rintro ⟨rfl, h⟩
        exact ⟨rfl, fun _ => h⟩
      · rintro ⟨rfl, h⟩
        exact ⟨rfl, h rfl⟩

theorem derivedWord_bits : (s.derivedWord a).getLsbD 10 = s.occClear a ∧ (s.derivedWord a).getLsbD 11 = s.doorsClosed a ∧
    (s.derivedWord a).getLsbD 12 = s.afterHours a ∧ (s.derivedWord a).getLsbD 13 = s.duressOpen a ∧
    (s.derivedWord a).getLsbD 15 = s.stationOk a ∧ (s.derivedWord a).getLsbD 16 = (s.agent a).isolated ∧
    (s.derivedWord a).getLsbD 17 = true := by
  simp only [derivedWord, bitOccClear, bitDoorsClosed, bitAfterHours, bitDuressOpen, bitStationOk, bitIsolated, bitOne,
    getLsbD_setBit, Nat.reduceLT, Nat.reduceEqDiff, ↓reduceIte, and_self]

/-! ### The acts on outputs (R121, R122) -/

theorem watching_iff : s.watching a = true ↔ (s.agent a).state = .normal ∨ (s.agent a).state = .alert := by
  simp [watching]

theorem active_iff : s.active a = true ↔ (s.agent a).state ≠ .unconfigured ∧ (s.agent a).suspect = false := by
  simp [active]

theorem releaseCalled_iff : s.releaseCalled a = true ↔
    ((s.agent a).releaseOut = true ∧ (s.agent a).isolated = false) ∨ (s.agent a).cw.getLsbD 6 = true := by
  simp [releaseCalled, agentBit, bitManual]

theorem watching_active (h : (s.agent a).state = .normal ∨ (s.agent a).state = .alert) (hs : (s.agent a).suspect = false) :
    (s.watching a && s.active a) = true := by
  rw [Bool.and_eq_true, watching_iff, active_iff]
  exact ⟨h, by rcases h with h | h <;> simp [h], hs⟩

theorem reevaluate_not (h : ((s.agent a).state ≠ .normal ∧ (s.agent a).state ≠ .alert) ∨ (s.agent a).suspect = true) :
    s.reevaluate a = s := by
  unfold reevaluate
  refine if_neg ?_
  rw [Bool.and_eq_true, watching_iff, active_iff]
  rintro ⟨hw, _, hs⟩
  rcases h with ⟨h1, h2⟩ | h
  · exact hw.elim h1 h2
  · rw [hs] at h
    cases h

theorem reevaluate_eq (h : (s.agent a).state = .normal ∨ (s.agent a).state = .alert) (hs : (s.agent a).suspect = false) :
    s.reevaluate a =
      if s.releaseCalled a then s.beginRelease a
      else if (s.agent a).alertOut then
        if (s.agent a).state = .normal then (s.raiseAgent a .suppressionAlert).enterState a .alert else s
      else if (s.agent a).state = .alert then s.enterState a .normal
      else s := if_pos (watching_active h hs)

theorem actRelease_not (h : (s.agent a).releaseOut = false ∨ (s.agent a).isolated = true ∨
    ((s.agent a).state ≠ .normal ∧ (s.agent a).state ≠ .alert)) : s.actRelease a false = s := by
  unfold actRelease
  refine if_neg ?_
  rw [Bool.and_eq_true, Bool.and_eq_true, Bool.and_eq_true, watching_iff]
  rintro ⟨⟨⟨_, hr⟩, hi⟩, hw⟩
  rcases h with h | h | ⟨h1, h2⟩
  · rw [h] at hr
    cases hr
  · rw [h] at hi
    cases hi
  · exact hw.elim h1 h2

theorem actRelease_rise (hr : (s.agent a).releaseOut = true) (hi : (s.agent a).isolated = false)
    (h : (s.agent a).state = .normal ∨ (s.agent a).state = .alert) : s.actRelease a false = s.beginRelease a := by
  unfold actRelease
  rw [hr, hi, watching_iff.2 h]
  rfl

/-- The derived inputs that an agent follows, as a re-reading takes them. -/
theorem derivedMask_followed : derivedMask &&& s.followedMask a =
    if (s.agent a).state = .unconfigured then 0#32 else if (s.agent a).suspect then 0x00008000#32 else 0x0003BC00#32 := by
  unfold followedMask
  split
  · rfl
  · split <;> rfl

theorem logicRuns_iff : s.logicRuns a = true ↔
    (s.agent a).state ≠ .unconfigured ∧ (s.agent a).suspect = false ∧ (s.agent a).halted = false := by
  rw [logicRuns, Bool.and_eq_true, active_iff, Bool.not_eq_true', and_assoc]

theorem rereadAgent_eq : rereadAgent derivedMask s a =
    let mask : BitVec 32 := if (s.agent a).state = .unconfigured then 0#32
      else if (s.agent a).suspect then 0x00008000#32 else 0x0003BC00#32
    let w := blend (s.agent a).cw (s.derivedWord a) mask
    if w = (s.agent a).cw then s
    else
      let t := s.putAgent a { s.agent a with cw := w }
      if (s.agent a).suspect = true ∨ (s.agent a).halted = true then t
      else (t.evaluate a).actOutputs a (s.agent a).alertOut (s.agent a).releaseOut := by
  unfold rereadAgent
  rw [derivedMask_followed]
  dsimp only
  by_cases hu : (s.agent a).state = .unconfigured
  · rw [if_pos hu, blend_zero, if_pos rfl, if_pos rfl]
  · rw [if_neg hu]
    refine if_congr Iff.rfl rfl ?_
    by_cases h : (s.agent a).suspect = true ∨ (s.agent a).halted = true
    · rw [if_pos h, if_neg]
      · rfl
      · rw [logicRuns_iff]
        rintro ⟨_, h1, h2⟩
        rcases h with h | h
        · rw [h1] at h
          cases h
        · rw [h2] at h
          cases h
    · rw [if_neg h, if_pos]
      · rfl
      · rw [logicRuns_iff]
        rw [not_or, Bool.not_eq_true, Bool.not_eq_true] at h
        exact ⟨hu, h⟩

end State

open State in
/-- Settles O42. -/
theorem inputsEvaluate : Obligations.InputsEvaluate := by
  unfold Obligations.InputsEvaluate
  intro s a q mask w t
  refine ⟨rereadAgent_eq, derivedWord_bits, ⟨occClear_iff, doorsClosed_iff, afterHours_iff, duressOpen_iff, stationOk_iff,
    covers_iff, effectiveTop_iff⟩, fun h => ?_, fun h => ?_, ?_, actRelease_rise, actRelease_not, rfl, fun _ _ => rfl,
    reevaluate_not, fun hst hs => ⟨fun hc => ?_, fun hc ha => ?_, fun hc ha => ?_⟩⟩
  · have ha : (s.agent a).alertOut = true := h
    simp only [actAlert, ha]
    rfl
  · have ha : (s.agent a).alertOut = false := h
    simp only [actAlert, ha]
    rfl
  · show s.actAlert a (s.agent a).alertOut = s
    cases ha : (s.agent a).alertOut <;> simp only [actAlert, ha]
  · rw [reevaluate_eq hst hs]
    exact if_pos (releaseCalled_iff.2 hc)
  · rw [reevaluate_eq hst hs, if_neg (mt releaseCalled_iff.1 hc)]
    exact if_pos ha
  · have ha' : (s.agent a).alertOut = false := ha
    rw [reevaluate_eq hst hs, if_neg (mt releaseCalled_iff.1 hc), ha', if_neg Bool.false_ne_true]

end Sys2Proof.Machine

/-! ## Agent states, the egress deadline and the supervisor's requests on agents (R109, R116 to R119, R122 to R131) -/

namespace Sys2Proof.Machine

/-! ### What the closure of zones leaves alone -/

/-- From one state to the other the Release, Retention and Link Units, the occupancy records and the zones' entry states are
as they were. -/
structure Shuts (s t : State) : Prop where
  rel   : t.rel = s.rel
  ret   : t.ret = s.ret
  link  : t.link = s.link
  recs  : t.occ.recs = s.occ.recs
  entry : ∀ z, (t.zone? z).map (fun r => r.entry) = (s.zone? z).map (fun r => r.entry)

/-- The zones of a state after an edit of each. -/
theorem zone?_mapZones (s : State) (f : Nat → ZoneRec → ZoneRec) (z : Nat) :
    (s.setOcc { s.occ with zones := s.occ.zones.map fun p => (p.1, f p.1 p.2) }).zone? z = (s.zone? z).map (f z) :=
  Table.find_map s.occ.zones f z

namespace Shuts
variable {s t u : State}

theorem refl (s : State) : Shuts s s := ⟨rfl, rfl, rfl, rfl, fun _ => rfl⟩

theorem trans (h : Shuts s t) (k : Shuts t u) : Shuts s u :=
  ⟨k.rel.trans h.rel, k.ret.trans h.ret, k.link.trans h.link, k.recs.trans h.recs, fun z => (k.entry z).trans (h.entry z)⟩

theorem of_blocks (hrel : t.rel = s.rel) (hret : t.ret = s.ret) (hlink : t.link = s.link) (hocc : t.occ = s.occ) : Shuts s t :=
  ⟨hrel, hret, hlink, by rw [hocc], fun z => by unfold State.zone?; rw [hocc]⟩

theorem ite {a b : State} (p : Prop) [Decidable p] (ha : Shuts s a) (hb : Shuts s b) : Shuts s (if p then a else b) := by
  split <;> assumption

theorem foldl {α : Type} {f : State → α → State} (hf : ∀ t x, Shuts t (f t x)) (l : List α) (s : State) :
    Shuts s (l.foldl f s) := by
  induction l generalizing s with
  | nil => exact refl s
  | cons x l ih => exact (hf s x).trans (ih _)

theorem doors (h : DoorsOnly s t) : Shuts s t := of_blocks h.rel h.ret h.link h.occ

theorem refuse (s : State) (d : Nat) (c : RefusalCode) (p g : Option Nat) : Shuts s (s.refuse d c p g) :=
  of_blocks rfl rfl rfl rfl

theorem refuseEach (s : State) (d : Nat) (c : RefusalCode) (xs : List Passage) : Shuts s (s.refuseEach d c xs) := by
  unfold State.refuseEach
  exact foldl (fun t x => refuse t d c _ _) xs s

theorem endBreach (s : State) (d : Nat) : Shuts s (s.endBreach d) := by
  unfold State.endBreach
  split
  · split
    · exact ite _ (of_blocks rfl rfl rfl rfl) (refl s)
    · exact refl s
  · exact refl s

theorem toSecured (s : State) (d : Nat) : Shuts s (s.toSecured d) :=
  ((doors (DoorsOnly.changeDoor s d _)).trans (endBreach _ d)).trans (doors (DoorsOnly.arbitrate _ d))

theorem closeWaiting (s : State) (d : Nat) (r : DoorRec) (c : Cycle) : Shuts s (s.closeWaiting d r c) :=
  have hrefused := (doors (DoorsOnly.putDoor s d _)).trans (refuseEach _ d _ _)
  ite _ (hrefused.trans (toSecured _ d)) hrefused

theorem closeDoor (s : State) (d : Nat) : Shuts s (s.closeDoor d) := by
  unfold State.closeDoor
  split
  · exact refl s
  · split
    · exact refl s
    · split
      · exact closeWaiting s d _ _
      · exact ite _ (refl s) ((toSecured s d).trans (refuseEach _ d _ _))
      · exact ite _ (refl s) ((toSecured s d).trans (refuseEach _ d _ _))
      · exact ite _ (closeWaiting s d _ _) (refl s)
      all_goals exact refl s

theorem closePairWait (s : State) (d : Nat) : Shuts s (s.closePairWait d) := by
  unfold State.closePairWait
  split
  · exact refl s
  · split
    · exact refl s
    · exact of_blocks rfl rfl rfl rfl

theorem waitPerson (s : State) (e : WaitEntry) : Shuts s (s.waitPerson e).1 := by
  unfold State.waitPerson
  split
  · exact refl s
  · exact of_blocks (State.resolve_rel _ _) (State.resolve_ret _ _) (State.resolve_link _ _) (State.resolve_occ _ _)

theorem closeWaits (s : State) (z : Nat) : Shuts s (s.closeWaits z) := by
  unfold State.closeWaits
  dsimp only
  have hpairs := foldl (f := fun s d => s.closePairWait d) (fun t d => closePairWait t d) (s.doorsInto z) s
  have hset : ∀ (t : State) (u : AdmissionUnit), Shuts t (t.setAdm u) := fun _ _ => of_blocks rfl rfl rfl rfl
  refine hpairs.trans ((hset _ _).trans (foldl (fun t e => ?_) _ _))
  exact (waitPerson t e).trans (refuse _ _ _ _ _)

theorem freezeReached (s : State) : Shuts s s.freezeReached := by
  rw [State.freezeReached_eq]
  refine ⟨rfl, rfl, rfl, rfl, fun z => ?_⟩
  refine (congrArg _ (zone?_mapZones s (fun k r => { r with
    freeze := if r.freeze = .requested ∧ s.inFlight k = 0 then .held else r.freeze }) z)).trans ?_
  rw [Option.map_map]
  rfl

theorem zoneCloses (s : State) (z : Nat) : Shuts s (s.zoneCloses z) :=
  ((foldl (fun t d => closeDoor t d) _ s).trans (closeWaits _ z)).trans (freezeReached _)

end Shuts

namespace State
variable {s : State} {a : Nat}

/-- The zones with the entry states of R109. -/
def withEntries (s : State) : State :=
  s.setOcc { s.occ with zones := s.occ.zones.map (fun p => (p.1, { p.2 with entry := s.entryOf p.1 })) }

theorem syncEntries_shuts (s : State) : Shuts s.withEntries s.syncEntries := Shuts.foldl (fun t z => Shuts.zoneCloses t z) _ _

theorem syncEntries_rel (s : State) : s.syncEntries.rel = s.rel := (syncEntries_shuts s).rel
theorem syncEntries_ret (s : State) : s.syncEntries.ret = s.ret := (syncEntries_shuts s).ret

theorem syncEntries_entry {z : Nat} {r : ZoneRec} (h : s.zone? z = some r) :
    (s.syncEntries.zone? z).map (fun q => q.entry) = some (s.entryOf z) := by
  rw [(syncEntries_shuts s).entry z]
  refine (congrArg _ (zone?_mapZones s (fun k q => { q with entry := s.entryOf k }) z)).trans ?_
  rw [h]
  rfl

theorem agent_of_rel {t : State} (h : t.rel = s.rel) (b : Nat) : t.agent b = s.agent b := by
  unfold State.agent
  rw [h]

/-- A state that is entered changes the agent's state alone among the agents. -/
theorem enterState_rel (s : State) (a : Nat) (new : AgentState) :
    (s.enterState a new).rel = (s.putAgent a { s.agent a with state := new }).rel := by
  unfold enterState
  rw [syncEntries_rel]
  dsimp only
  (repeat' split) <;> rfl

theorem enterState_ret (s : State) (a : Nat) (new : AgentState) : (s.enterState a new).ret = s.ret := by
  unfold enterState
  rw [syncEntries_ret]
  (repeat' split) <;> rfl

theorem enterState_agent (ha : a < 8) (new : AgentState) :
    (s.enterState a new).agent a = { s.agent a with state := new } := by
  rw [agent_of_rel (enterState_rel s a new), agent_putAgent_self ha]

theorem inRelease_eq (x : AgentState) :
    inRelease x = true ↔ x = .countdown ∨ x = .abortHeld ∨ x = .occupiedHold ∨ x = .discharge := by
  cases x <;> decide

theorem left_iff (x y w : AgentState) : (decide (x = w) && (y != w)) = true ↔ x = w ∧ y ≠ w := by
  rw [Bool.and_eq_true, decide_eq_true_eq, bne_iff_ne]

/-! ### The egress time and the deadline (R116 to R118) -/

theorem egressTime_blocks (s : State) (a : Nat) : (s.egressTime a).1.rel = s.rel ∧ (s.egressTime a).1.ret = s.ret := by
  unfold egressTime
  split
  · exact ⟨rfl, rfl⟩
  · exact ⟨testPersons_rel _ _, testPersons_ret _ _⟩

theorem egressTime_agent (s : State) (a b : Nat) : (s.egressTime a).1.agent b = s.agent b :=
  agent_of_rel (egressTime_blocks s a).1 b

theorem egressTime_now (s : State) (a : Nat) : (s.egressTime a).1.now = s.now := by
  unfold State.now
  rw [(egressTime_blocks s a).2]

theorem allowance_eq (s : State) (a top : Nat) (r : OccRec) : s.allowance a top r =
    let e := ((s.pathTo r.zone top).map (fun z => s.zoneCost z)).sum
    if r.suspect then max (s.agent a).cfg.dmax (s.agent a).cfg.db
    else if s.assisted r.person then (3 * e + 1) / 2 else e := rfl

theorem assisted_none {p : Nat} (h : s.person? p = none) : s.assisted p = true := by
  unfold assisted
  rw [h]

theorem assisted_some {p : Nat} {q : PersonRec} (h : s.person? p = some q) :
    s.assisted p = true ↔ q.cfg.assisted = true ∨ q.suspect = true := by
  unfold assisted
  rw [h, Bool.or_eq_true]

theorem classVals_traverse (d : DoorRec) : (s.classVals d).traverse =
    if d.suspect = true ∨ (s.classRec d.cfg.cls).suspect = true then 8 else (s.classRec d.cfg.cls).cfg.traverse := by
  unfold classVals
  by_cases h : d.suspect = true ∨ (s.classRec d.cfg.cls).suspect = true
  · rw [if_pos h, if_pos (by simpa using h)]
  · rw [if_neg h, if_neg (by simpa using h)]

theorem zoneCost_eq {z : Nat} {r : ZoneRec} (h : s.zone? z = some r) : s.zoneCost z =
    if r.suspect then 180
    else r.cfg.walk + ((r.cfg.egressDoor.bind s.door?).map (fun d => (s.classVals d).traverse)).getD 60 := by
  unfold zoneCost traverseOf
  rw [h]
  dsimp only
  by_cases hs : r.suspect = true
  · rw [if_pos hs, if_pos hs, if_pos hs]
  · rw [if_neg hs, if_neg hs, if_neg hs]
    cases r.cfg.egressDoor with
    | none => rfl
    | some d =>
      dsimp only [Option.bind_some]
      cases s.door? d <;> rfl

theorem foldl_max_spec (l : List Nat) (m : Nat) : m ≤ l.foldl max m ∧ (∀ x ∈ l, x ≤ l.foldl max m) ∧
    (l.foldl max m = m ∨ l.foldl max m ∈ l) := by
  induction l generalizing m with
  | nil => exact ⟨le_refl m, fun x hx => absurd hx List.not_mem_nil, .inl rfl⟩
  | cons y l ih =>
    obtain ⟨h1, h2, h3⟩ := ih (max m y)
    rw [List.foldl_cons]
    refine ⟨le_trans (le_max_left _ _) h1, fun x hx => ?_, ?_⟩
    · rcases List.mem_cons.1 hx with rfl | hx
      · exact le_trans (le_max_right _ _) h1
      · exact h2 x hx
    · rcases h3 with h3 | h3
      · rcases le_total m y with hm | hm
        · exact .inr (by rw [h3, max_eq_right hm]; exact List.mem_cons_self)
        · exact .inl (by rw [h3, max_eq_left hm])
      · exact .inr (List.mem_cons_of_mem _ h3)

/-- The required egress time is the largest allowance over the covered records. -/
theorem egressTime_largest {top : Nat} (h : s.effectiveTop a = some top) :
    (∀ i r, (i, r) ∈ s.occ.recs → s.covers a r.zone = true → (s.egressTime a).1.allowance a top r ≤ (s.egressTime a).2) ∧
    ((s.egressTime a).2 = 0 ∨
      ∃ i r, (i, r) ∈ s.occ.recs ∧ s.covers a r.zone = true ∧ (s.egressTime a).1.allowance a top r = (s.egressTime a).2) := by
  unfold egressTime
  rw [h]
  dsimp only
  obtain ⟨_, hall, hone⟩ := foldl_max_spec ((s.coveredRecs a).map (fun p =>
    (s.testPersons (((s.coveredRecs a).filter (fun p => !p.2.suspect)).map (fun p => p.2.person))).allowance a top p.2)) 0
  refine ⟨fun i r hm hc => hall _ (List.mem_map.2 ⟨(i, r), List.mem_filter.2 ⟨hm, hc⟩, rfl⟩), hone.imp_right fun hin => ?_⟩
  obtain ⟨⟨i, r⟩, hm, he⟩ := List.mem_map.1 hin
  obtain ⟨hm, hc⟩ := List.mem_filter.1 hm
  exact ⟨i, r, hm, hc, he⟩

theorem recompute_opening {t0 dl : Nat} (ht : (s.agent a).t0 = some t0) (hd : (s.agent a).deadline = some dl)
    (hs : (s.agent a).state = .countdown) (hk : (s.agent a).kind = .opening) (hsus : (s.agent a).suspect = false) :
    s.recompute a = ((s.egressTime a).1.putAgent a { s.agent a with
      deadline := some (min dl (deadlineAt (s.agent a).cfg t0 s.now (s.egressTime a).2)) }).takeCountdown a := by
  unfold recompute
  rw [ht, hd]
  dsimp only
  rw [if_pos (by simp [hs, hk, hsus])]
  unfold changeAgent
  rw [egressTime_agent, egressTime_now]

theorem recompute_not (h : (s.agent a).state ≠ .countdown ∨ (s.agent a).kind = .closing ∨ (s.agent a).suspect = true) :
    s.recompute a = s := by
  unfold recompute
  split
  · exact if_neg (by rcases h with h | h | h <;> simp [h])
  · rfl

end State

open State in
/-- Settles O43. -/
theorem egressDeadline : Obligations.EgressDeadline := by
  unfold Obligations.EgressDeadline
  refine ⟨?_, ?_, fun s a top h => egressTime_largest h, ?_, ?_⟩
  · intro s a top r
    rw [allowance_eq]
    dsimp only
    by_cases hs : r.suspect = true
    · rw [if_pos hs, if_pos hs]
    · rw [if_neg hs, if_neg hs]
      cases hp : s.person? r.person with
      | none => exact if_pos (assisted_none hp)
      | some q =>
        dsimp only
        simp only [assisted_some hp]
  · intro s z r h
    rw [zoneCost_eq h]
    by_cases hs : r.suspect = true
    · rw [if_pos hs, if_pos hs]
    · rw [if_neg hs, if_neg hs]
      cases r.cfg.egressDoor.bind s.door? with
      | none => rfl
      | some d => exact congrArg _ (classVals_traverse d)
  · intro c t0 e
    dsimp only [deadlineAt, maxDelay]
    omega
  · intro s a t0 dl ha ht hd
    dsimp only
    refine ⟨fun hs hk hsus => ?_, recompute_not⟩
    rw [recompute_opening ht hd hs hk hsus]
    have hself : ∀ {q : AgentRec} {x : State}, (x.putAgent a q).agent a = q := agent_putAgent_self ha _
    refine ⟨fun hlt => ?_, fun hle => ?_⟩
    · refine takeCountdown_not (.inr ?_)
      rw [hself]
      exact decide_eq_false (Nat.not_le.2 ((egressTime_now s a).symm ▸ hlt))
    · refine takeCountdown_due (by rw [hself]; exact hs) (by rw [hself]) ?_
      exact le_of_le_of_eq hle (egressTime_now s a).symm

end Sys2Proof.Machine

/-! ## A release begins, holds and ends: agent states, the gate, ABORT and the supervisor's requests (R109, R119, R122 to R131) -/

namespace Sys2Proof.Machine
namespace State
variable {s : State} {a : Nat}

theorem raiseAgent_of {t : State} {q : AgentRec} (k : Kind) (h : t.agent a = q) :
    t.raiseAgent a k = t.raise k (.agent a) q.cfg.top none := by
  unfold raiseAgent
  rw [h]

/-! ### Entering a state (R109, R119) -/

theorem enterState_eq (s : State) (a : Nat) (new : AgentState) :
    let old := (s.agent a).state
    let t1 := s.putAgent a { s.agent a with state := new }
    let t2 := if old = .countdown ∧ new ≠ .countdown then t1.endAlarm .egressShortfall (.agent a) else t1
    let t3 := if old = .occupiedHold ∧ new ≠ .occupiedHold then t2.endAlarm .occupiedHold (.agent a) else t2
    s.enterState a new = (if new = .countdown ∨ new = .abortHeld ∨ new = .occupiedHold ∨ new = .discharge then t3
      else t3.endAlarm .preDischarge (.agent a)).syncEntries := by
  dsimp only
  unfold enterState
  simp only [left_iff, inRelease_eq]
  rfl

theorem entryFor_eq (x : AgentState) : entryFor x = match x with
    | .countdown | .abortHeld | .occupiedHold | .discharge => .egressOnly
    | .discharged => .flooded
    | _ => .opened := by
  cases x <;> rfl

/-! ### The beginning of a release (R122) -/

theorem beginRelease_aborted (h : (s.agent a).cw.getLsbD 7 = true) : s.beginRelease a =
    ((s.raiseAgent a .preDischarge).putAgent a (noTimes (s.agent a))).enterState a .abortHeld := by
  unfold beginRelease
  exact if_pos h

theorem beginRelease_clear (ha : a < 8) (h : (s.agent a).cw.getLsbD 7 = false) :
    let q := s.agent a
    let x := s.egressTime a
    let v := x.1.putAgent a (openingTimes q s.now x.2)
    let w := if maxDelay q.cfg < x.2 + q.cfg.margin then v.raise .egressShortfall (.agent a) q.cfg.top none else v
    s.beginRelease a = (w.raise .preDischarge (.agent a) q.cfg.top none).enterState a .countdown := by
  have hv : ((s.egressTime a).1.putAgent a (openingTimes (s.agent a) s.now (s.egressTime a).2)).agent a =
      openingTimes (s.agent a) s.now (s.egressTime a).2 := agent_putAgent_self ha _
  have hw : ∀ k j z p, (((s.egressTime a).1.putAgent a (openingTimes (s.agent a) s.now (s.egressTime a).2)).raise k j z p).agent a =
      openingTimes (s.agent a) s.now (s.egressTime a).2 := fun _ _ _ _ => hv
  unfold beginRelease
  rw [if_neg (by unfold agentBit bitAbort; rw [h]; exact Bool.false_ne_true)]
  dsimp only
  unfold changeAgent
  rw [egressTime_agent, egressTime_now]
  by_cases hm : maxDelay (s.agent a).cfg < (s.egressTime a).2 + (s.agent a).cfg.margin
  · rw [if_pos hm, if_pos hm, raiseAgent_of _ hv, raiseAgent_of _ (hw _ _ _ _)]
    rfl
  · rw [if_neg hm, if_neg hm, raiseAgent_of _ hv]
    rfl

end State

open State in
/-- Settles O44. -/
theorem releaseBegins : Obligations.ReleaseBegins := by
  unfold Obligations.ReleaseBegins
  refine ⟨fun s a ha => ⟨fun h => ?_, fun h => ?_⟩, fun s a new _ => enterState_eq s a new, fun s z r h => ?_⟩
  · exact beginRelease_clear ha h
  · rw [beginRelease_aborted h]
    rfl
  · rw [syncEntries_entry h]
    unfold entryOf
    cases s.coveringAgent z with
    | none => rfl
    | some a =>
      dsimp only
      cases (s.agent a).state <;> rfl

/-! ### The hold and the gate (R125, R126) -/

namespace State
variable {s : State} {a : Nat}

theorem gateOpen_iff : s.gateOpen a = true ↔ s.occClear a = true ∧ s.doorsClosed a = true := Bool.and_eq_true_iff

/-- OCC_CLEAR, over the zones as the table lists them. -/
theorem occClear_iff_listed : s.occClear a = true ↔ ∀ z r, (z, r) ∈ s.occ.zones → s.covers a z = true →
    s.occupants z = 0 ∧ s.reservations z = 0 ∧ ∀ y, s.zone? z = some y → y.verified = true := by
  rw [occClear_iff]
  constructor
  · intro h z r hm hc
    obtain ⟨y, hy⟩ := mem_keys_zones.1 (mem_keys hm)
    obtain ⟨ho, hr, hv⟩ := h z y hy hc
    refine ⟨ho, hr, fun y' hy' => ?_⟩
    rw [hy] at hy'
    cases hy'
    exact hv
  · intro h z y hy hc
    obtain ⟨ho, hr, hv⟩ := h z y (Table.mem_of_find hy) hc
    exact ⟨ho, hr, hv y hy⟩

theorem readGate_ends (hs : (s.agent a).state = .occupiedHold) (hsus : (s.agent a).suspect = false)
    (hg : s.gateOpen a = true) : s.readGate a = s.endHold a := by
  unfold readGate
  exact if_pos (by rw [hs, hsus, hg]; rfl)

theorem readGate_tests (h : (s.agent a).state ≠ .occupiedHold ∨ (s.agent a).suspect = true ∨ s.gateOpen a = false) :
    s.readGate a = s.testGate a := by
  unfold readGate
  exact if_neg (by rcases h with h | h | h <;> simp [h])

theorem testGate_withdraws (hs : (s.agent a).state = .discharge) (hf : (s.agent a).flag = true)
    (he : (s.agent a).echoed = false) (hg : s.gateOpen a = false) : s.testGate a = s.withdrawFlag a := by
  unfold testGate
  exact if_pos (by rw [hs, hf, he, hg]; rfl)

theorem testGate_not (h : (s.agent a).state ≠ .discharge ∨ (s.agent a).flag = false ∨ (s.agent a).echoed = true ∨
    s.gateOpen a = true) : s.testGate a = s := by
  unfold testGate
  exact if_neg (by rcases h with h | h | h | h <;> simp [h])

/-! ### ABORT (R123, R124) -/

theorem abortSet_holds (h : (s.agent a).state = .countdown ∨ (s.agent a).state = .occupiedHold) :
    s.abortSet a = (s.putAgent a (noTimes (s.agent a))).enterState a .abortHeld := by
  unfold abortSet
  rcases h with h | h <;> rw [h] <;> rfl

theorem abortSet_discharge (h : (s.agent a).state = .discharge) : s.abortSet a = if (s.agent a).echoed then s
    else (s.putAgent a (noTimes { s.agent a with flag := false })).enterState a .abortHeld := by
  unfold abortSet
  rw [h]
  rfl

theorem abortCleared_not (h : (s.agent a).state ≠ .abortHeld) : s.abortCleared a = s := if_neg h

theorem abortCleared_begins (h : (s.agent a).state = .abortHeld) (hs : (s.agent a).suspect = false)
    (hc : s.releaseCalled a = true) : s.abortCleared a = s.beginRelease a := by
  have hact : s.active a = true := active_iff.2 ⟨by rw [h]; decide, hs⟩
  unfold abortCleared
  rw [if_pos h, if_pos (by rw [hact, hc]; rfl)]

theorem abortCleared_rests (h : (s.agent a).state = .abortHeld)
    (hn : (s.agent a).suspect = true ∨ s.releaseCalled a = false) :
    s.abortCleared a = (s.enterState a .normal).reevaluate a := by
  unfold abortCleared
  rw [if_pos h, if_neg]
  rw [Bool.and_eq_true, active_iff]
  rintro ⟨⟨_, hs⟩, hc⟩
  rcases hn with hn | hn
  · rw [hn] at hs
    cases hs
  · rw [hn] at hc
    cases hc

/-- An agent that has entered NORMAL with no release called for is in ALERT where its alert output is set (R121, R124). -/
theorem reevaluate_normal (ha : a < 8) (hs : (s.agent a).suspect = false) (hc : s.releaseCalled a = false) :
    (s.enterState a .normal).reevaluate a = (let v := s.enterState a .normal
      if (s.agent a).alertOut then (v.raise .suppressionAlert (.agent a) (s.agent a).cfg.top none).enterState a .alert
      else v) := by
  have hq := enterState_agent ha (s := s) .normal
  have hcall : (s.enterState a .normal).releaseCalled a = false := by
    unfold releaseCalled agentBit at hc ⊢
    rw [hq]
    exact hc
  rw [reevaluate_eq (by rw [hq]; exact .inl rfl) (by rw [hq]; exact hs), hcall, if_neg Bool.false_ne_true,
    raiseAgent_of _ hq, hq]
  dsimp only
  rw [if_pos rfl, if_neg (by decide : ¬ AgentState.normal = .alert)]

end State

open State in
/-- Settles O45. -/
theorem holdAndGate : Obligations.HoldAndGate := by
  unfold Obligations.HoldAndGate
  intro s a ha q
  refine ⟨?_, fun hs hsus hg => ?_, fun hs h => ?_, fun hs hf he hg => ?_, fun hs h => ?_, fun h => abortSet_holds h,
    fun h he => ?_, fun h he => ?_, fun h hsus => ⟨fun hc => ?_, fun hc => ?_⟩, fun h hsus => ?_, abortCleared_not⟩
  · rw [gateOpen_iff, occClear_iff_listed, doorsClosed_iff]
  · rw [readGate_ends hs hsus hg]
    rfl
  · rw [readGate_tests (.inr h), testGate_not (.inl (by rw [hs]; decide))]
  · rw [readGate_tests (.inl (by rw [hs]; decide)), testGate_withdraws hs hf he hg]
    rfl
  · rw [readGate_tests (.inl (by rw [hs]; decide)), testGate_not (.inr h)]
  · rw [abortSet_discharge h]
    exact if_neg (Bool.eq_false_iff.1 he)
  · rw [abortSet_discharge h]
    exact if_pos he
  · exact abortCleared_begins h hsus (releaseCalled_iff.2 hc)
  · have hcall := Bool.eq_false_iff.2 (mt releaseCalled_iff.1 hc)
    rw [abortCleared_rests h (.inr hcall), reevaluate_normal ha hsus hcall]
  · rw [abortCleared_rests h (.inl hsus), reevaluate_not (.inr ?_)]
    rw [enterState_agent ha]
    exact hsus

/-! ### ISOLATE, DEISOLATE and VENT_CLEAR (R129, R131) -/

namespace State
variable {s : State} {a : Nat} {tag : Byte}

theorem opKey_agent (ha : a ≤ 7) : opKey 0 7 (keyReq tag a) = some a := opKey_keyReq (Nat.zero_le _) ha (by decide)

theorem isolate_eq (ha : a ≤ 7) : s.isolate (keyReq tag a) =
    if (s.agent a).state = .unconfigured then (s, refusedWith .wrongState)
    else if (s.agent a).isolated then (s, okWith [])
    else (((s.putAgent a { s.agent a with isolated := true }).raise .isolated (.agent a) (s.agent a).cfg.top none).settle,
      okWith []) := by
  have hr : (s.changeAgent a (fun q => { q with isolated := true })).raiseAgent a .isolated =
      (s.putAgent a { s.agent a with isolated := true }).raise .isolated (.agent a) (s.agent a).cfg.top none :=
    raiseAgent_of (q := { s.agent a with isolated := true }) _ (agent_putAgent_self (Nat.lt_succ_of_le ha) _)
  unfold isolate
  rw [opKey_agent ha]
  dsimp only
  rw [hr]

theorem deisolate_eq (ha : a ≤ 7) : s.deisolate (keyReq tag a) =
    if (s.agent a).state = .unconfigured then (s, refusedWith .wrongState)
    else if !(s.agent a).isolated then (s, okWith [])
    else ((((s.putAgent a { s.agent a with isolated := false }).endAlarm .isolated (.agent a)).settle).reevaluate a,
      okWith []) := by
  unfold deisolate
  rw [opKey_agent ha]
  rfl

/-- VENT_CLEAR is taken of a sound agent in DISCHARGED whose soak time has run (R129). -/
theorem ventClear_eq (ha : a ≤ 7) : s.ventClear (keyReq tag a) =
    if (s.agent a).suspect then (s, refusedWith .suspect)
    else if (s.agent a).state ≠ .discharged ∨ s.soaked (s.agent a) = false then (s, refusedWith .wrongState)
    else (s.ventAgent a, okWith [fldN 32 1 (agentCode ((s.ventAgent a).agent a).state)]) := by
  have hcond : ((s.agent a).state != .discharged || !s.soaked (s.agent a)) = true ↔
      (s.agent a).state ≠ .discharged ∨ s.soaked (s.agent a) = false := by
    rw [Bool.or_eq_true, bne_iff_ne, Bool.not_eq_true']
  unfold ventClear
  rw [opKey_agent ha]
  simp only [hcond]

theorem ventAgent_eq (s : State) (a : Nat) : s.ventAgent a =
    let v := s.endAlarm .dischargeUnconfirmed (.agent a)
    if (s.agent a).cw.getLsbD 14 then
      ((v.putAgent a { s.agent a with dischargeTime := none }).enterState a .normal).reevaluate a
    else v.enterState a .spent := rfl

end State

open State in
/-- Settles O39. -/
theorem agentRequests : Obligations.AgentRequests := by
  unfold Obligations.AgentRequests
  intro s tag a hs ha u q
  have hno : ∀ c, c ≠ .ok → (Host.Outcome.next (answered tag (u, refusedWith c)) : Outcome) = .next (u.answeredNo tag c) :=
    fun c hc => congrArg _ (answered_no tag u hc)
  have hok : ∀ (t : State) fs, (Host.Outcome.next (answered tag (t, okWith fs)) : Outcome) = .next (t.answeredOk tag fs) :=
    fun t fs => congrArg _ (answered_ok tag t fs)
  refine ⟨?_, ?_, ?_⟩
  · show Host.Outcome.next (s.serveWrite (keyReq tag a) State.isolate) = _
    rw [serveWrite_answered hs State.ids_nil, isolate_eq ha]
    by_cases hu : (u.agent a).state = .unconfigured
    · rw [if_pos hu, if_pos hu]
      exact hno _ nofun
    · rw [if_neg hu, if_neg hu]
      by_cases hi : (u.agent a).isolated = true
      · rw [if_pos hi, if_pos hi]
        exact hok _ _
      · rw [if_neg hi, if_neg hi]
        exact hok _ _
  · show Host.Outcome.next (s.serveWrite (keyReq tag a) State.deisolate) = _
    rw [serveWrite_answered hs State.ids_nil, deisolate_eq ha]
    by_cases hu : (u.agent a).state = .unconfigured
    · rw [if_pos hu, if_pos hu]
      exact hno _ nofun
    · rw [if_neg hu, if_neg hu]
      by_cases hi : (!(u.agent a).isolated) = true
      · rw [if_pos hi, if_pos hi]
        exact hok _ _
      · rw [if_neg hi, if_neg hi]
        exact hok _ _
  · intro v w
    show Host.Outcome.next (s.serveWrite (keyReq tag a) State.ventClear) = _
    rw [serveWrite_answered hs State.ids_nil, ventClear_eq ha]
    by_cases hsus : (u.agent a).suspect = true
    · rw [if_pos hsus, if_pos hsus]
      exact hno _ nofun
    · rw [if_neg hsus, if_neg hsus]
      by_cases hst : (u.agent a).state = .discharged
      · have hn : ¬ q.state ≠ .discharged := not_not.2 hst
        rw [if_neg hn]
        have hq : q = u.agent a := rfl
        cases ht : q.dischargeTime with
        | none =>
          have hsoak : u.soaked (u.agent a) = false := by
            unfold soaked
            rw [← hq, ht]
          rw [if_pos (.inr hsoak)]
          exact hno _ nofun
        | some t =>
          have hsoak : u.soaked (u.agent a) = decide (t + (u.agent a).cfg.soak * 60 ≤ u.now) := by
            unfold soaked
            rw [← hq, ht]
          dsimp only
          by_cases hnow : u.now < t + q.cfg.soak * 60
          · rw [if_pos (.inr (hsoak.trans (decide_eq_false (Nat.not_le.2 hnow)))), if_pos hnow]
            exact hno _ nofun
          · have hsoaked := hsoak.trans (decide_eq_true (Nat.not_lt.1 hnow))
            rw [if_neg (by rw [hsoaked, hst]; simp), if_neg hnow]
            exact hok _ _
      · rw [if_pos (.inl hst), if_pos hst]
        exact hno _ nofun

end Sys2Proof.Machine

/-! ## An agent station's report, its return and its silence (R110 to R112, R120, R127, R128, R130, R133) -/

namespace Sys2Proof.Machine
namespace State
variable {s : State} {a : Nat}

/-! ### The parts of a report -/

theorem agentReport_taken {x : AgentReport} {returned echo : Bool} (h : (s.agent a).state ≠ .unconfigured) :
    s.agentReport a x returned echo =
      (let q := s.agent a
       let t := s.putAgent a { q with awaitFirst := false }
       let t1 := if returned = true ∨ q.awaitFirst = true then t.agentReturn a x.ready else t
       let t2 := if echo then t1.takeEcho a else t1
       let t3 := if x.pressure then t2.takePressure a else t2
       (t3.takeBits a x (q.state = .fault && (t1.agent a).state = .normal) q.awaitFirst).settle) := by
  unfold agentReport
  dsimp only
  rw [if_neg h]
  simp only [Bool.or_eq_true]
  rfl

theorem takeEcho_first (he : (s.agent a).echoed = false) (h : (s.agent a).state ≠ .unconfigured ∧
    (s.agent a).state ≠ .discharged ∧ (s.agent a).state ≠ .spent) : s.takeEcho a =
      let t := s.putAgent a { s.agent a with echoed := true, confirmBy := some (s.now + (s.agent a).cfg.confirm) }
      if (s.agent a).state = .discharge then t else t.enterState a .discharge := by
  obtain ⟨h1, h2, h3⟩ := h
  unfold takeEcho
  split
  · rename_i hs
    exact absurd hs h1
  · rename_i hs
    exact absurd hs h2
  · rename_i hs
    exact absurd hs h3
  all_goals exact if_neg (Bool.eq_false_iff.1 he)

theorem takeEcho_not (h : (s.agent a).state = .discharged ∨ (s.agent a).state = .spent ∨ (s.agent a).echoed = true) :
    s.takeEcho a = s := by
  unfold takeEcho
  split
  · rfl
  · rfl
  · rfl
  all_goals
    rename_i hs
    rw [hs] at h
    rcases h with h | h | h
    · cases h
    · cases h
    · exact if_pos h

theorem takePressure_enters (h1 : (s.agent a).state ≠ .discharged) (h2 : (s.agent a).state ≠ .unconfigured) :
    s.takePressure a = s.enterDischarged a := by
  unfold takePressure
  split
  · rename_i hs
    exact absurd hs h2
  · rename_i hs
    exact absurd hs h1
  all_goals rfl

theorem agentReturn_fault (ready : Bool) (h : (s.agent a).state = .fault) : s.agentReturn a ready =
    let v := s.endAlarm .agentFault (.agent a)
    if (s.agent a).spentMark = true ∧ ready = false then
      (v.putAgent a { s.agent a with spentMark := false }).enterState a .spent
    else (v.putAgent a { s.agent a with spentMark := false, dischargeTime := none }).enterState a .normal := by
  unfold agentReturn
  dsimp only
  rw [if_pos h]
  simp only [Bool.and_eq_true, Bool.not_eq_true']
  rfl

/-- A configured agent's station falls silent (R130). -/
theorem agentSilent_configured (h : (s.agent a).state ≠ .unconfigured) :
    let v := s.raise .agentFault (.agent a) (s.agent a).cfg.top none
    ((s.agent a).state = .normal ∨ (s.agent a).state = .alert →
      s.agentSilent a = (v.putAgent a { s.agent a with spentMark := false }).enterState a .fault) ∧
    ((s.agent a).state = .spent → s.agentSilent a = (v.putAgent a { s.agent a with spentMark := true }).enterState a .fault) ∧
    ((s.agent a).state ≠ .normal → (s.agent a).state ≠ .alert → (s.agent a).state ≠ .spent → s.agentSilent a = v) := by
  unfold agentSilent
  rw [if_neg h]
  dsimp only
  split
  · rename_i hs
    exact ⟨fun _ => rfl, fun h => absurd (hs.symm.trans h) (by decide), fun h => absurd hs h⟩
  · rename_i hs
    exact ⟨fun _ => rfl, fun h => absurd (hs.symm.trans h) (by decide), fun _ h => absurd hs h⟩
  · rename_i hs
    exact ⟨fun h => absurd h (by rw [hs]; decide), fun _ => rfl, fun _ _ h => absurd hs h⟩
  all_goals
    rename_i hs
    exact ⟨fun h => absurd h (by rw [hs]; decide), fun h => absurd h (by rw [hs]; decide), fun _ _ _ => rfl⟩

theorem actFault_eq (before after other : Bool) : s.actFault a before after other =
    if before = false ∧ after = true then s.raise .detectorFault (.agent a) (s.agent a).cfg.top none
    else if before = true ∧ after = false ∧ other = false then s.endAlarm .detectorFault (.agent a) else s := by
  cases before <;> cases after <;> cases other <;> rfl

theorem actAbort_eq (before : Bool) : s.actAbort a before =
    if before = (s.agent a).cw.getLsbD 7 then s else if before = false then s.abortSet a else s.abortCleared a := by
  unfold actAbort agentBit bitAbort
  cases (s.agent a).cw.getLsbD 7 <;> cases before <;> rfl

theorem actManual_eq (before : Bool) : s.actManual a before =
    if before = false ∧ (s.agent a).cw.getLsbD 6 = true ∧ ((s.agent a).state = .normal ∨ (s.agent a).state = .alert) then
      s.beginRelease a else s := by
  unfold actManual agentBit bitManual
  simp only [Bool.and_eq_true, Bool.not_eq_true', watching_iff, and_assoc]

theorem actReady_eq (before : Bool) : s.actReady a before =
    if before = false ∧ (s.agent a).cw.getLsbD 14 = true ∧ (s.agent a).state = .spent then
      ((s.putAgent a { s.agent a with dischargeTime := none }).enterState a .normal).reevaluate a else s := by
  unfold actReady agentBit bitReady
  simp only [Bool.and_eq_true, Bool.not_eq_true', decide_eq_true_eq, and_assoc]
  rfl

theorem firstReport_eq : s.firstReport a =
    let t := if (s.agent a).cw.getLsbD 2 = true ∨ (s.agent a).cw.getLsbD 5 = true then s else s.endAlarm .detectorFault (.agent a)
    let u := if (s.agent a).alertOut = true then t else t.endAlarm .suppressionAlert (.agent a)
    if (s.agent a).state = .normal then u.reevaluate a else u := by
  unfold firstReport agentBit
  simp only [Bool.or_eq_true]

theorem takeInputs_eq (x : AgentReport) : s.takeInputs a x =
    let q := s.agent a
    let w := blend (inputWord q x) (s.derivedWord a) derivedMask
    let t := s.putAgent a { q with cw := w, halted := false }
    let u := (t.actFault a (q.cw.getLsbD 2) (w.getLsbD 2) (q.cw.getLsbD 5)).actFault a (q.cw.getLsbD 5) (w.getLsbD 5)
      (w.getLsbD 2)
    if w = q.cw ∧ q.halted = false then u else u.evaluate a := by
  unfold takeInputs
  simp only [Bool.and_eq_true, decide_eq_true_eq, Bool.not_eq_true']
  rfl

/-- The bits of a condition word after a report's inputs, in their order (R112). -/
theorem inputWord_bits (q : AgentRec) (x : AgentReport) :
    let w := inputWord q x
    let c1 := detect q.cfg.ch1 x.v1 (q.cw.getLsbD 0) (q.cw.getLsbD 1)
    let c2 := detect q.cfg.ch2 x.v2 (q.cw.getLsbD 3) (q.cw.getLsbD 4)
    (List.range 32).map (fun i => w.getLsbD i) =
      [c1.alert, c1.fire, c1.fault, c2.alert, c2.fire, c2.fault, x.manual, x.abort, x.spareA, x.spareB] ++
      ([10, 11, 12, 13].map (fun i => q.cw.getLsbD i)) ++ [x.ready] ++ ([15, 16, 17].map (fun i => q.cw.getLsbD i)) ++
      [c1.overRange, c2.overRange] ++ ([20, 21, 22, 23, 24, 25, 26, 27, 28, 29, 30, 31].map (fun i => q.cw.getLsbD i)) := by
  have hr : List.range 32 = [0, 1, 2, 3, 4, 5, 6, 7, 8, 9, 10, 11, 12, 13, 14, 15, 16, 17, 18, 19, 20, 21, 22, 23, 24, 25, 26,
    27, 28, 29, 30, 31] := rfl
  dsimp only
  rw [hr]
  simp only [List.map_cons, List.map_nil, List.cons_append, List.nil_append, inputWord, putChannel, bitManual, bitAbort,
    bitSpareA, bitSpareB, bitReady, getLsbD_setBit, Nat.reduceLT, Nat.reduceAdd, Nat.reduceEqDiff, ↓reduceIte]

end State

open State in
/-- Settles O46. -/
theorem agentReportTaken : Obligations.AgentReportTaken := by
  unfold Obligations.AgentReportTaken
  intro s a _ q
  refine ⟨fun x returned echo h => if_pos h, fun x returned echo h => agentReport_taken h, fun he => ⟨fun h => ?_, fun h => ?_⟩,
    takeEcho_not, fun h => ?_, fun h1 h2 => takePressure_enters h1 h2, fun ready h => ⟨fun hm hr => ?_, fun hm => ?_⟩,
    ⟨fun h => ?_, fun h => ?_, fun h => ?_⟩, fun x back first => ⟨fun h => ?_, fun h => ?_⟩, fun x => takeInputs_eq x,
    actFault_eq, firstReport_eq, fun before => ⟨actAbort_eq before, actManual_eq before, actReady_eq before⟩,
    fun x => inputWord_bits q x⟩
  · have hq : (s.agent a).state = .discharge := h
    rw [takeEcho_first he (by rw [hq]; decide)]
    exact if_pos h
  · have hq : (s.agent a).state ≠ .discharge ∧ (s.agent a).state ≠ .unconfigured ∧ (s.agent a).state ≠ .discharged ∧
        (s.agent a).state ≠ .spent := by
      rcases h with h | h
      · have h' : (s.agent a).state = .occupiedHold := h
        rw [h']
        decide
      · have h' : (s.agent a).state = .abortHeld := h
        rw [h']
        decide
    obtain ⟨hnot, hcan⟩ := hq
    rw [takeEcho_first he hcan]
    exact if_neg hnot
  · have hq : (s.agent a).state = .discharged := h
    unfold takePressure
    rw [hq]
  · rw [agentReturn_fault ready h]
    exact if_pos ⟨hm, hr⟩
  · rw [agentReturn_fault ready h]
    refine if_neg ?_
    rintro ⟨h1, h2⟩
    rcases hm with hm | hm
    · exact absurd h1 (Bool.eq_false_iff.1 hm)
    · rw [h2] at hm
      cases hm
  · have hq : (s.agent a).state = .normal ∨ (s.agent a).state = .alert := h
    obtain ⟨hwatching, _⟩ := agentSilent_configured (s := s) (a := a) (by rcases hq with hq | hq <;> rw [hq] <;> decide)
    exact hwatching h
  · have hq : (s.agent a).state = .spent := h
    obtain ⟨_, hspent, _⟩ := agentSilent_configured (s := s) (a := a) (by rw [hq]; decide)
    exact hspent h
  · have hq : (s.agent a).state ≠ .unconfigured ∧ (s.agent a).state ≠ .normal ∧ (s.agent a).state ≠ .alert ∧
        (s.agent a).state ≠ .spent := by
      have h' : (s.agent a).state = .countdown ∨ (s.agent a).state = .abortHeld ∨ (s.agent a).state = .occupiedHold ∨
        (s.agent a).state = .discharge ∨ (s.agent a).state = .discharged := h
      rcases h' with h' | h' | h' | h' | h' <;> rw [h'] <;> decide
    obtain ⟨hu, hn, hal, hsp⟩ := hq
    obtain ⟨_, _, hkeeps⟩ := agentSilent_configured hu
    exact hkeeps hn hal hsp
  · unfold takeBits
    exact if_pos h
  · unfold takeBits
    exact if_neg (Bool.eq_false_iff.1 h)

end Sys2Proof.Machine

/-! ## The grant search, the turn to AFTER and pair evaluation (R57, R86, R92, R95, R96) -/

namespace Sys2Proof.Machine

namespace State
variable {s : State} {z i n p : Nat}

/-! ### The grant search -/

/-- A grant is valid from its first day to its last, if it has one (R56). -/
theorem validOn_iff {g : GrantCfg} {day : Nat} : validOn g day = true ↔
    g.fromDay ≤ day ∧ ∀ u, g.untilDay = some u → day ≤ u := by
  unfold validOn
  cases g.untilDay with
  | none => simp
  | some u => simp

theorem grantMatches_unset {g : GrantRec} (h : s.ret.calendar = none) : s.grantMatches g p z = false := by
  simp [grantMatches, h]

theorem grantMatches_calendar {g : GrantRec} : s.grantMatches g p z = true ↔ g.cfg.person = p ∧ g.suspect = false ∧
    z ∈ g.cfg.zones ∧ (s.zone? z).isSome = true ∧ g.cfg.uses ≠ some 0 ∧
    ∃ k, s.ret.calendar = some k ∧ g.cfg.fromDay ≤ k.day ∧ (∀ d, g.cfg.untilDay = some d → k.day ≤ d) ∧
      inWindow g.cfg.wStart g.cfg.wEnd k.minute = true := by
  cases hk : s.ret.calendar with
  | none => simp [grantMatches_unset hk]
  | some k =>
    rw [grantMatches_iff hk, validOn_iff]
    constructor
    · rintro ⟨hp, hs, hz, hc, ⟨hf, hu⟩, hw, hn⟩
      exact ⟨hp, hs, hz, hc, hn, k, rfl, hf, hu, hw⟩
    · rintro ⟨hp, hs, hz, hc, hn, _, ⟨⟩, hf, hu, hw⟩
      exact ⟨hp, hs, hz, hc, ⟨hf, hu⟩, hw, hn⟩

/-! ### The records of a zone in their order -/

theorem length_ins (x : Nat × OccRec) (l : List (Nat × OccRec)) : (zoneOrder.ins x l).length = l.length + 1 := by
  induction l with
  | nil => rfl
  | cons y l ih =>
    unfold zoneOrder.ins
    split
    · rfl
    · rw [List.length_cons, ih, List.length_cons]

theorem mem_ins {x q : Nat × OccRec} {l : List (Nat × OccRec)} : q ∈ zoneOrder.ins x l ↔ q = x ∨ q ∈ l := by
  induction l with
  | nil => simp [zoneOrder.ins]
  | cons y l ih =>
    unfold zoneOrder.ins
    split
    · exact List.mem_cons
    · rw [List.mem_cons, ih, List.mem_cons]
      exact or_left_comm

theorem length_zoneOrder (s : State) (z : Nat) : (s.zoneOrder z).length = s.occupants z := by
  unfold zoneOrder occupants
  induction s.occ.recs.filter (fun p => p.2.zone = z) with
  | nil => rfl
  | cons x l ih => rw [List.foldr_cons, length_ins, ih, List.length_cons]

theorem mem_zoneOrder {q : Nat × OccRec} : q ∈ s.zoneOrder z ↔ q ∈ s.occ.recs ∧ q.2.zone = z := by
  have h : ∀ l : List (Nat × OccRec), q ∈ l.foldr zoneOrder.ins [] ↔ q ∈ l := by
    intro l
    induction l with
    | nil => rfl
    | cons x l ih => rw [List.foldr_cons, mem_ins, ih, List.mem_cons]
  unfold zoneOrder
  rw [h, List.mem_filter, decide_eq_true_iff]

/-! ### Pair grace and pair evaluation -/

/-- The person's record, as it stands, bars pair grace (R95). -/
def barsGrace (t : State) (p : Nat) : Bool := (t.person? p).any (fun q => q.cfg.loneWork && !q.suspect)

theorem startGrace_of {x : OccRec} {y : ZoneRec} (hz : s.zone? z = some y) (ho : s.zoneOrder z = [(i, x)]) :
    s.startGrace z =
      if y.cfg.pairRule && decide (y.hours = .after) && !y.suspect && !x.suspect then
        if (s.testPerson x.person).barsGrace x.person then s.testPerson x.person
        else (s.testPerson x.person).changeOcc i (fun r => { r with
          alone := true, pairGrace := some ((s.testPerson x.person).now + y.cfg.pairGrace) })
      else s := by
  unfold startGrace barsGrace
  rw [hz, ho]
  dsimp only
  cases (s.testPerson x.person).person? x.person <;> rfl

theorem startGrace_not_single (h : s.occupants z ≠ 1) : s.startGrace z = s := by
  rw [← length_zoneOrder] at h
  unfold startGrace
  cases s.zone? z with
  | none => rfl
  | some y =>
    match ho : s.zoneOrder z with
    | [] => rfl
    | [q] => exact absurd (by rw [ho]; rfl) h
    | _ :: _ :: _ => rfl

theorem startGrace_not {x : OccRec} {y : ZoneRec} (hz : s.zone? z = some y) (ho : s.zoneOrder z = [(i, x)])
    (h : y.cfg.pairRule = false ∨ y.hours = .day ∨ y.suspect = true ∨ x.suspect = true) : s.startGrace z = s := by
  rw [startGrace_of hz ho]
  exact if_neg (by rcases h with h | h | h | h <;> simp [h])

section
variable {x : OccRec} {y : ZoneRec} (hz : s.zone? z = some y) (ho : s.zoneOrder z = [(i, x)])
  (hp : y.cfg.pairRule = true) (ha : y.hours = .after) (hy : y.suspect = false) (hx : x.suspect = false)
include hz ho hp ha hy hx

theorem startGrace_lone {q : PersonRec} (hq : (s.testPerson x.person).person? x.person = some q)
    (hs : q.suspect = false) (hl : q.cfg.loneWork = true) : s.startGrace z = s.testPerson x.person := by
  rw [startGrace_of hz ho, if_pos (by simp [hp, ha, hy, hx])]
  exact if_pos (by simp [barsGrace, hq, hs, hl])

theorem startGrace_begins (h : ∀ q, (s.testPerson x.person).person? x.person = some q →
    q.suspect = true ∨ q.cfg.loneWork = false) : s.startGrace z = (s.testPerson x.person).changeOcc i (fun r =>
      { r with alone := true, pairGrace := some ((s.testPerson x.person).now + y.cfg.pairGrace) }) := by
  rw [startGrace_of hz ho, if_pos (by simp [hp, ha, hy, hx])]
  refine if_neg fun hb => ?_
  obtain ⟨q, hq, hlone⟩ := (Option.any_eq_true _ _).1 hb
  rcases h q hq with h | h <;> simp [h] at hlone

end

theorem pairEvaluate_eq (s : State) (z n : Nat) : s.pairEvaluate z n =
    if s.occupants z = n ∨ z = 0 then s
    else if 2 ≤ s.occupants z then (s.zoneOrder z).foldl (fun v q => v.clearAlone q) s
    else if s.occupants z = 1 ∧ 2 ≤ n then s.startGrace z
    else s := by
  unfold pairEvaluate
  simp only [Bool.or_eq_true, Bool.and_eq_true, decide_eq_true_eq]

theorem pairEvaluate_not (h : s.occupants z = n ∨ z = 0 ∨ s.occupants z = 0 ∨ (s.occupants z = 1 ∧ n ≤ 1)) :
    s.pairEvaluate z n = s := by
  rw [pairEvaluate_eq]
  by_cases hsame : s.occupants z = n ∨ z = 0
  · exact if_pos hsame
  · rw [if_neg hsame, if_neg (by omega)]
    exact if_neg (by omega)

theorem pairEvaluate_clears (hz : z ≠ 0) (hn : s.occupants z ≠ n) (h : 2 ≤ s.occupants z) :
    s.pairEvaluate z n = (s.zoneOrder z).foldl (fun v q => v.clearAlone q) s := by
  rw [pairEvaluate_eq, if_neg (by omega), if_pos h]

theorem pairEvaluate_grace (hz : z ≠ 0) (h : s.occupants z = 1) (hn : 2 ≤ n) :
    s.pairEvaluate z n = s.startGrace z := by
  rw [pairEvaluate_eq, if_neg (by omega), if_neg (by omega), if_pos ⟨h, hn⟩]

/-! ### The turn of a zone and of a record -/

theorem evaluateHours_not {r : ZoneRec} (hz : s.zone? z = some r)
    (h : r.suspect = true ∨ computeHours s.ret.calendar r.cfg = r.hours) : s.evaluateHours z = s := by
  unfold evaluateHours
  rw [hz]
  dsimp only
  rcases h with h | h
  · exact if_pos h
  · rw [if_pos h, ite_self]

theorem evaluateHours_turnAfter {r : ZoneRec} (hz : s.zone? z = some r) (hs : r.suspect = false) (hd : r.hours = .day)
    (ha : computeHours s.ret.calendar r.cfg = .after) :
    s.evaluateHours z = (s.putZone z { r with hours := .after }).turnAfter z := by
  simp [evaluateHours, hz, hs, hd, ha]

variable {x : OccRec} {y : ZoneRec}

theorem searchGrace_not (hx : s.occ? i = some x) (hz : s.zone? x.zone = some y)
    (h : x.basis ≠ .day ∨ y.hours = .day) : s.searchGrace i = s := by
  unfold searchGrace
  rw [hx]
  dsimp only
  rw [isAfter_eq hz]
  exact if_neg (by rcases h with h | h <;> simp [h])

theorem takeGrace_eq (t : State) (hz : t.zone? x.zone = some y) : t.takeGrace i x =
    if x.dwell = none then t.putOcc i { x with dwell := some (t.now + y.cfg.afterGrace * 60) } else t := by
  unfold takeGrace
  rw [hz]
  dsimp only
  simp only [Option.isNone_iff_eq_none]

theorem searchGrace_found (hx : s.occ? i = some x) (hb : x.basis = .day) (ha : s.isAfter x.zone = true)
    {t : State} {g : Nat × GrantCfg} (h : s.grantSearch x.person x.zone = (t, some g)) : s.searchGrace i = t := by
  simp only [searchGrace, hx, hb, ha, h, decide_true, Bool.and_self, if_true]

theorem searchGrace_none (hx : s.occ? i = some x) (hb : x.basis = .day) (ha : s.isAfter x.zone = true)
    {t : State} (h : s.grantSearch x.person x.zone = (t, none)) : s.searchGrace i = t.takeGrace i x := by
  simp only [searchGrace, hx, hb, ha, h, decide_true, Bool.and_self, if_true]

theorem arrived_eq (hx : s.occ? i = some x) :
    s.arrived i = (if x.dwell = none then s.searchGrace i else s).takeDwell i := by
  unfold arrived giveGrace
  rw [hx]
  simp only [Option.isNone_iff_eq_none]

theorem checkinFor_of (hz : s.zone? z = some y) : s.checkinFor z =
    if y.hours = .after ∧ y.cfg.checkin ≠ 0 ∧ y.suspect = false then some (s.now + y.cfg.checkin * 60) else none := by
  unfold checkinFor
  rw [hz]
  simp [and_assoc]

theorem passed_none_or_later {e : Option Nat} (h : e = none ∨ ∃ t, e = some t ∧ s.now < t) : s.passed e = false := by
  rcases h with rfl | ⟨t, rfl, ht⟩
  · rfl
  · exact decide_eq_false (Nat.not_le.2 ht)

end State

open State in
/-- Settles O36. -/
theorem afterTurn : Obligations.AfterTurn := by
  unfold Obligations.AfterTurn
  refine ⟨?search, ?zone, ?record, ?pairs⟩
  case search =>
    exact fun s p z => ⟨rfl, rfl, fun n ns => rfl, fun g => grantMatches_calendar⟩
  case zone =>
    exact fun s z r hz => ⟨evaluateHours_not hz, fun hs hd ha => evaluateHours_turnAfter hz hs hd ha⟩
  case record =>
    intro s i x y hx hz
    refine ⟨rfl, arrived_eq hx, checkinFor_of hz, searchGrace_not hx hz, fun hb ha => ?_, fun t ht hle ha ho hs =>
      takeDwell_due hx (ht ▸ passed_of_le hle) (isAfter_of hz ha) ho hs, fun h => takeDwell_not hx ?_⟩
    · cases hg : s.grantSearch x.person x.zone with
      | mk t o =>
        cases o with
        | some g => exact searchGrace_found hx hb (isAfter_of hz ha) hg
        | none =>
          have hocc : t.occ = s.occ := by rw [← grantSearch_occ s x.person x.zone, hg]
          rw [searchGrace_none hx hb (isAfter_of hz ha) hg]
          exact takeGrace_eq t (by unfold zone?; rw [hocc]; exact hz)
    · rcases h with h | h | h | h | h
      · exact .inl (passed_none_or_later (.inl h))
      · exact .inl (passed_none_or_later (.inr h))
      · exact .inr (.inl (by rw [isAfter_eq hz, h]; rfl))
      · exact .inr (.inr (.inl h))
      · exact .inr (.inr (.inr h))
  case pairs =>
    exact fun s z n => ⟨pairEvaluate_not, pairEvaluate_clears, pairEvaluate_grace, startGrace_not_single,
      fun i x y ho hz => ⟨startGrace_not hz ho, fun hp ha hy hx => ⟨fun ⟨q, hq, hs, hl⟩ =>
        startGrace_lone hz ho hp ha hy hx hq hs hl, startGrace_begins hz ho hp ha hy hx⟩⟩⟩

end Sys2Proof.Machine

/-! ## A zone's entry state leaves OPEN (R37, R80) -/

namespace Sys2Proof.Machine
namespace State
variable {s : State} {d z : Nat} {r : DoorRec} {c : Cycle}

theorem waitsFor_eq (s : State) (z : Nat) (e : WaitEntry) :
    s.waitsFor z e = decide ((s.door? e.door).map (fun r => r.cfg.inner) = some z) := by
  unfold waitsFor
  cases s.door? e.door with
  | none => rfl
  | some r => exact decide_eq_decide.2 (Option.some_inj (a := r.cfg.inner)).symm

theorem zoneCloses_eq (s : State) (z : Nat) : s.zoneCloses z =
    let u := (((s.doorsInto z).foldl (fun v d => v.closeDoor d) s).doorsInto z).foldl (fun v d => v.closePairWait d)
      ((s.doorsInto z).foldl (fun v d => v.closeDoor d) s)
    ((u.adm.waits.filter (fun e => u.waitsFor z e)).foldl (fun w e =>
      (w.waitPerson e).1.refuse e.door .zoneClosed (w.waitPerson e).2 none)
      (u.setAdm { u.adm with waits := u.adm.waits.filter (fun e => !u.waitsFor z e) })).freezeReached := rfl

theorem waitsForExit_false_iff (c : Cycle) :
    waitsForExit c = false ↔ c.passages.filter (fun x => x.dir = .exit) = [] ∧ c.unlisted = false := by
  simp [waitsForExit, List.filter_eq_nil_iff, and_comm]

/-- A door whose waiting cycle loses its entries, each refused ZONE_CLOSED (R37). -/
def entriesRefused (s : State) (d : Nat) (r : DoorRec) (c : Cycle) : State :=
  (s.putDoor d { r with cycle := some { c with passages := c.passages.filter (fun x => x.dir = .exit) } }).refuseEach d
    .zoneClosed (c.passages.filter (fun x => x.dir = .entry))

theorem closeWaiting_eq (s : State) (d : Nat) (r : DoorRec) (c : Cycle) : s.closeWaiting d r c =
    if r.state = .interlockWait ∧ waitsForExit c = false then (s.entriesRefused d r c).toSecured d
    else s.entriesRefused d r c := by
  unfold closeWaiting
  simp only [Bool.and_eq_true, decide_eq_true_eq, emptyCycle_iff, waitsForExit_false_iff]
  rfl

section
variable (hd : s.door? d = some r)
include hd

theorem closeDoor_idle (hc : r.cycle = none) : s.closeDoor d = s := by
  simp only [closeDoor, hd, hc]

theorem closeDoor_keeps (h : r.state = .opened ∨ r.state = .held ∨ r.state = .secured ∨ r.state = .relocking ∨
    r.state = .unknown) : s.closeDoor d = s := by
  cases hc : r.cycle with
  | none => exact closeDoor_idle hd hc
  | some c => rcases h with h | h | h | h | h <;> simp only [closeDoor, hd, hc, h]

theorem closeDoor_waits (hc : r.cycle = some c) (h : r.state = .interlockWait) : s.closeDoor d =
    if waitsForExit c = false then (s.entriesRefused d r c).toSecured d else s.entriesRefused d r c := by
  simp only [closeDoor, hd, hc, h, closeWaiting_eq, true_and]

theorem closeDoor_forced (hc : r.cycle = some c) (h : r.state = .forced) :
    s.closeDoor d = if c.waiting = true then s.entriesRefused d r c else s := by
  simp only [closeDoor, hd, hc, h, closeWaiting_eq, reduceCtorEq, false_and, if_false]

theorem closeDoor_releases (hc : r.cycle = some c) (h : r.state = .releasing ∨ r.state = .released) :
    s.closeDoor d = if waitsForExit c = true then s else (s.toSecured d).refuseEach d .zoneClosed c.passages := by
  rcases h with h | h <;> simp only [closeDoor, hd, hc, h]

theorem closePairWait_not (h : r.pairWait = none) : s.closePairWait d = s := by
  simp only [closePairWait, hd, h]

theorem closePairWait_ends {w : PairWait} (h : r.pairWait = some w) : s.closePairWait d =
    (s.putDoor d { r with pairWait := none }).refuse d .zoneClosed (some w.person) w.grant := by
  simp only [closePairWait, hd, h]

end

end State

open State in
/-- Settles O37. -/
theorem zoneCloses : Obligations.ZoneCloses := by
  unfold Obligations.ZoneCloses
  refine ⟨fun s => rfl, ?closes, fun s e => ⟨fun h => ?unread, fun c h => waitPerson_of h⟩, ?doors⟩
  case closes =>
    intro s z into t u mine v
    rw [zoneCloses_eq]
    simp only [waitsFor_eq]
    rfl
  case unread =>
    unfold waitPerson
    rw [h]
  case doors =>
    intro s d r hd refused each
    refine ⟨fun c hc => ?_, fun h => ?_, closePairWait_not hd, fun w hw => closePairWait_ends hd hw⟩
    · intro exits w
      refine ⟨fun h => ?_, fun h => ?_, fun h => ?_⟩
      · rw [closeDoor_waits hd hc h]
        exact if_congr (waitsForExit_false_iff c) rfl rfl
      · exact closeDoor_forced hd hc h
      · rw [closeDoor_releases hd hc h]
        by_cases hx : exits = [] ∧ c.unlisted = false
        · rw [if_pos hx, if_neg (Bool.eq_false_iff.1 ((waitsForExit_false_iff c).2 hx))]
          rfl
        · rw [if_neg hx, if_pos (Bool.not_eq_false _ ▸ mt (waitsForExit_false_iff c).1 hx)]
    · rcases h with h | h | h | h | h | h
      · exact closeDoor_keeps hd (.inl h)
      · exact closeDoor_keeps hd (.inr (.inl h))
      · exact closeDoor_keeps hd (.inr (.inr (.inl h)))
      · exact closeDoor_keeps hd (.inr (.inr (.inr (.inl h))))
      · exact closeDoor_keeps hd (.inr (.inr (.inr (.inr h))))
      · exact closeDoor_idle hd h

end Sys2Proof.Machine

/-! ## Completions (R85 to R89, R59) -/

namespace Sys2Proof.Machine
namespace State
variable {s : State} {inner outer p i : Nat} {r : OccRec} {x : Passage}

theorem listsUnattributedExit_eq (xs : List Passage) :
    listsUnattributedExit xs = xs.any (fun x => x.dir = .exit && x.person.isNone) := rfl

theorem listsAttributedExit_false_iff (xs : List Passage) :
    listsAttributedExit xs = false ↔ ∀ x ∈ xs, x.dir = .exit → x.person = none := by
  simp [listsAttributedExit]

/-- The exit inference is made for an unattributed exit that stands with no attributed one (R85 step 2). -/
theorem inferred_eq (s : State) (inner outer : Nat) (xs : List Passage) (unlisted : Bool) :
    s.inferred inner outer xs unlisted =
      if (listsUnattributedExit xs = true ∨ unlisted = true) ∧ (∀ x ∈ xs, x.dir = .exit → x.person = none) then
        s.inferExit inner outer (listsUnattributedExit xs && unlisted)
      else s := by
  unfold inferred
  simp only [Bool.and_eq_true, Bool.or_eq_true, Bool.not_eq_true', listsAttributedExit_false_iff]

/-! ### The records that passages make, move and retire -/

theorem lowestSlot_full (h : ∀ i < 256, (s.occ? i).isSome = true) : s.lowestSlot = none :=
  AlarmUnit.freeFrom_full (fun i _ hi => h i (by simpa [Config.occSlots] using hi))

theorem makeEntry_full (h : ∀ i < 256, (s.occ? i).isSome = true) : s.makeEntry p inner x = s.markUnverified inner := by
  unfold makeEntry
  rw [lowestSlot_full h]

theorem makeEntry_slot (hi : i < 256) (hfree : s.occ? i = none) (hbelow : ∀ j < i, (s.occ? j).isSome = true) :
    s.makeEntry p inner x = (s.putOcc i (s.entryRecord p inner x)).arrived i := by
  unfold makeEntry
  rw [lowestSlot_eq hi hfree hbelow]

/-- A record whose duress flag stands after the move raises DURESS, once its grace and its dwell deadline are taken. -/
theorem moveRecord_eq (s : State) (i : Nat) (r : OccRec) (z : Nat) (m : Mode) : s.moveRecord i r z m =
    let duress := r.duress || decide (m = .duress)
    let v := ((s.changeOcc i (fun y => { y with
      zone := z, zoneEntered := s.now, checkin := s.checkinFor z, pairGrace := none, alone := false,
      duress := duress })).endAlarm .pairBroken (.person r.person)).arrived i
    if duress = true then v.raise .duress (.person r.person) (some z) (some r.person) else v := rfl

theorem retireRecord_sound (h : r.suspect = false) : s.retireRecord i r =
    (((s.delOcc i).endAlarm .checkinMissed (.person r.person)).endAlarm .dwellOverrun (.person r.person)).endAlarm
      .pairBroken (.person r.person) := if_neg (Bool.eq_false_iff.1 h)

theorem leave_outside (h : r.suspect = false) (ho : outer = 0) : s.leave i r outer =
    (((s.delOcc i).endAlarm .checkinMissed (.person r.person)).endAlarm .dwellOverrun (.person r.person)).endAlarm
      .pairBroken (.person r.person) := (if_pos ho).trans (retireRecord_sound h)

theorem leave_inside (ho : outer ≠ 0) : s.leave i r outer = s.moveRecord i r outer .normal := if_neg ho

section
variable (hr : s.recordOf p = some (i, r))
include hr

theorem applyEntry_here (h : r.zone = inner) : s.applyEntry inner outer p x =
    (s.mismatch p inner).markUnverified (if outer = 0 then inner else outer) := by
  unfold applyEntry
  rw [hr]
  exact if_pos h

theorem applyEntry_outer (h : r.zone = outer) (hne : inner ≠ outer) :
    s.applyEntry inner outer p x = s.moveRecord i r inner x.mode := by
  unfold applyEntry
  rw [hr]
  exact (if_neg (h.trans_ne hne.symm)).trans (if_pos h)

theorem applyEntry_elsewhere (h : r.zone ≠ inner) (ho : r.zone ≠ outer) : s.applyEntry inner outer p x =
    ((s.moveRecord i r inner x.mode).mismatch p inner).markUnverified (if outer = 0 then r.zone else outer) := by
  unfold applyEntry
  rw [hr]
  exact (if_neg h).trans (if_neg ho)

theorem applyExit_here (h : r.zone = inner) : s.applyExit inner outer p = s.leave i r outer := by
  unfold applyExit
  rw [hr]
  exact if_pos h

theorem applyExit_outer (h : r.zone = outer) (hne : inner ≠ outer) :
    s.applyExit inner outer p = (s.mismatch p inner).markUnverified inner := by
  unfold applyExit
  rw [hr]
  exact (if_neg (h.trans_ne hne.symm)).trans (if_pos h)

theorem applyExit_elsewhere (h : r.zone ≠ inner) (ho : r.zone ≠ outer) :
    s.applyExit inner outer p = ((s.leave i r outer).mismatch p inner).markUnverified inner := by
  unfold applyExit
  rw [hr]
  exact (if_neg h).trans (if_neg ho)

end

section
variable (hr : s.recordOf p = none)
include hr

theorem applyEntry_unrecorded (h : s.suspectRecordOf p = none) : s.applyEntry inner outer p x =
    if outer = 0 then s.makeEntry p inner x
    else ((s.makeEntry p inner x).mismatch p inner).markUnverified outer := by
  unfold applyEntry
  rw [hr, h]
  rfl

theorem applyEntry_suspect (h : s.suspectRecordOf p ≠ none) :
    s.applyEntry inner outer p x = s.markUnverified inner := by
  unfold applyEntry
  rw [hr]
  exact if_pos (Option.isSome_iff_ne_none.2 h)

theorem applyExit_unrecorded (h : s.suspectRecordOf p = none) :
    s.applyExit inner outer p = ((s.mismatch p inner).markUnverified inner).markUnverified outer := by
  unfold applyExit
  rw [hr, h]
  rfl

theorem applyExit_suspect (h : s.suspectRecordOf p ≠ none) :
    s.applyExit inner outer p = (s.markUnverified inner).markUnverified outer := by
  unfold applyExit
  rw [hr]
  exact if_pos (Option.isSome_iff_ne_none.2 h)

end

/-! ### Passages -/

theorem applyPassage_entry (h : x.dir = .entry) : s.applyPassage inner outer x =
    (match x.person with | some n => s.applyEntry inner outer n x | none => s.markUnverified inner).reportUse x := by
  unfold applyPassage
  rw [h]
  cases x.person <;> rfl

theorem applyPassage_exit (h : x.dir = .exit) : s.applyPassage inner outer x =
    match x.person with | some n => s.applyExit inner outer n | none => s := by
  unfold applyPassage
  rw [h]
  cases x.person <;> rfl

theorem inferExit_double (s : State) (inner outer : Nat) :
    s.inferExit inner outer true = (s.inferExit inner outer false).markUnverified inner := rfl

theorem inferExit_single (h : s.zoneOrder inner = [(i, r)]) :
    s.inferExit inner outer false = if r.suspect = true then s else s.leave i r outer := by
  unfold inferExit
  rw [h]
  rfl

theorem inferExit_not_single (h : s.occupants inner ≠ 1) :
    s.inferExit inner outer false = s.markUnverified inner := by
  rw [← length_zoneOrder] at h
  unfold inferExit
  match ho : s.zoneOrder inner with
  | [] => rfl
  | [q] => exact absurd (by rw [ho]; rfl) h
  | _ :: _ :: _ => rfl

/-! ### The use of a grant (R59) -/

theorem reportUse_none (h : x.grant = none ∨ x.retiredGrant = true) : s.reportUse x = s := by
  unfold reportUse
  cases hg : x.grant with
  | none => rfl
  | some n => exact if_pos (h.resolve_left (by rw [hg]; exact Option.some_ne_none n))

theorem reportUse_grant {n : Nat} {g : GrantRec} (hx : x.grant = some n) (hr : x.retiredGrant = false)
    (hg : (s.testGrant n).grant? n = some g) : s.reportUse x =
      match g.cfg.uses with
      | some (k + 1) => if g.suspect = true then s.testGrant n
        else (s.testGrant n).putGrant n { g with cfg := { g.cfg with uses := some k } }
      | _ => s.testGrant n := by
  unfold reportUse
  rw [hx]
  dsimp only
  rw [if_neg (Bool.eq_false_iff.1 hr), hg]
  dsimp only
  match g.cfg.uses with
  | none => exact ite_self _
  | some 0 => exact ite_self _
  | some (k + 1) => rfl

end State

open State in
/-- Settles O35. -/
theorem completionMovesRecords : Obligations.CompletionMovesRecords := by
  unfold Obligations.CompletionMovesRecords
  refine ⟨?whole, ?hand, ?passages⟩
  case whole =>
    intro s inner outer xs unlisted nobody t
    unfold State.complete
    rw [inferred_eq]
    rfl
  case hand =>
    intro s d r c hd hc
    unfold handOver
    rw [hd]
    dsimp only
    rw [hc]
  case passages =>
    intro s inner outer p x moved left mismatch
    have hmoved (i r z m) : s.moveRecord i r z m = moved i r z (r.duress || decide (m = .duress)) := rfl
    have hleft {i r} (h : r.suspect = false) : s.leave i r outer = left i r := by
      by_cases ho : outer = 0
      · exact (leave_outside h ho).trans (if_pos ho).symm
      · rw [leave_inside ho, hmoved, show decide (Mode.normal = .duress) = false from rfl, Bool.or_false]
        exact (if_neg ho).symm
    refine ⟨fun hr hs => ⟨applyEntry_unrecorded hr hs, fun i hi hf hb => makeEntry_slot hi hf hb, makeEntry_full,
        applyExit_unrecorded hr hs⟩, fun hr hs => ⟨applyEntry_suspect hr hs, applyExit_suspect hr hs⟩,
      fun i r hr => ⟨applyEntry_here hr, applyEntry_outer hr, applyEntry_elsewhere hr,
        fun hs h => (applyExit_here hr h).trans (hleft hs), applyExit_outer hr,
        fun hs h ho => ?_⟩, applyPassage_entry, applyPassage_exit, fun i r ho => ?_, inferExit_not_single,
      inferExit_double s inner outer, reportUse_none, fun n g => reportUse_grant⟩
    · rw [applyExit_elsewhere hr h ho, hleft hs]
      rfl
    · rw [inferExit_single ho]
      by_cases hs : r.suspect = true
      · rw [if_pos hs, if_pos hs]
      · rw [if_neg hs, if_neg hs, hleft (Bool.eq_false_iff.2 hs)]

end Sys2Proof.Machine

/-! ## The checks of an entry and what follows them (R63 to R70, R77) -/

namespace Sys2Proof.Machine
namespace State
variable {s t : State} {d n p : Nat} {r : DoorRec} {z : ZoneRec}

/-! ### The checks 1 to 12 (R63 to R66) -/

/-- Checks 1 to 5, which read the door and its inner zone alone, and then the rest (R64). -/
def doorChecks (s : State) (r : DoorRec) (z : ZoneRec) (rest : State × Verdict) : State × Verdict :=
  if s.ret.active = false then (s, .refused .notCommissioned none)
  else if r.state = .unknown ∨ r.suspect = true then (s, .refused .doorUnavailable none)
  else if r.lockout = true then (s, .refused .lockedOut none)
  else if z.entry ≠ .opened ∨ z.suspect = true then (s, .refused .zoneClosed none)
  else if z.freeze ≠ .thawed then (s, .diverted)
  else rest

theorem entryChecks_error {res : Resolution} {c : RefusalCode} (hz : s.zone? r.cfg.inner = some z)
    (h : s.checkPerson r.cfg.inner z res = .error c) : s.entryChecks r res n = s.doorChecks r z (s, .refused c none) := by
  unfold entryChecks doorChecks
  rw [hz]
  dsimp only
  rw [h]
  simp only [Bool.not_eq_true', Bool.or_eq_true, decide_eq_true_eq, bne_iff_ne]

theorem entryChecks_ok {res : Resolution} (hz : s.zone? r.cfg.inner = some z)
    (h : s.checkPerson r.cfg.inner z res = .ok p) :
    s.entryChecks r res n = s.doorChecks r z (s.checkGrant r.cfg.inner z p n) := by
  unfold entryChecks doorChecks
  rw [hz]
  dsimp only
  rw [h]
  simp only [Bool.not_eq_true', Bool.or_eq_true, decide_eq_true_eq, bne_iff_ne]

theorem checkPerson_eq {q : PersonRec} {k : Nat} (hq : s.person? p = some q) : s.checkPerson k z (.person p) =
    if q.cfg.suspended = true then .error .suspended
    else if s.presentZone p ≠ s.parentOf k then .error .locationMismatch
    else if q.cfg.clearance < z.cfg.clearance then .error .clearance
    else .ok p := by
  simp only [checkPerson, hq, bne_iff_ne]

theorem checkGrant_day {k : Nat} (h : z.hours = .day) : s.checkGrant k z p n =
    (s, if s.hasRoom k n = true then .passed p none none else .refused .zoneFull none) := by
  unfold checkGrant
  rw [h]
  exact (apply_ite (Prod.mk s) _ _ _).symm

theorem checkGrant_none {k : Nat} (h : z.hours = .after) (hg : s.grantSearch p k = (t, none)) :
    s.checkGrant k z p n = (t, .refused .noGrant none) := by
  unfold checkGrant
  rw [h]
  dsimp only
  rw [hg]

theorem checkGrant_some {k g : Nat} {c : GrantCfg} (h : z.hours = .after)
    (hg : s.grantSearch p k = (t, some (g, c))) : s.checkGrant k z p n =
      (t, if t.hasRoom k n = true then .passed p (some g) c.ceiling else .refused .zoneFull (some g)) := by
  unfold checkGrant
  rw [h]
  dsimp only
  rw [hg]
  exact (apply_ite (Prod.mk t) _ _ _).symm

theorem hasRoom_iff {k : Nat} (hz : s.zone? k = some z) : s.hasRoom k n = true ↔
    s.occupants k + s.reservations k + n ≤ z.cfg.capacity ∧ s.allReservations + n ≤ 256 - s.occ.recs.length := by
  unfold hasRoom
  rw [hz]
  simp only [Bool.and_eq_true, decide_eq_true_eq]
  rfl

end State

open State in
/-- Settles O32. -/
theorem entryChecks : Obligations.EntryChecks := by
  unfold Obligations.EntryChecks
  intro s r z n hz door
  refine ⟨entryChecks_error hz rfl, entryChecks_error hz rfl, fun p q hq => ?person, hasRoom_iff hz⟩
  case person =>
    have hcheck := checkPerson_eq (s := s) (z := z) (k := r.cfg.inner) hq
    by_cases hs : q.cfg.suspended = true
    · rw [if_pos hs] at hcheck ⊢
      exact entryChecks_error hz hcheck
    by_cases hl : s.presentZone p ≠ s.parentOf r.cfg.inner
    · rw [if_neg hs, if_pos hl] at hcheck ⊢
      exact entryChecks_error hz hcheck
    by_cases hc : q.cfg.clearance < z.cfg.clearance
    · rw [if_neg hs, if_neg hl, if_pos hc] at hcheck ⊢
      exact entryChecks_error hz hcheck
    rw [if_neg hs, if_neg hl, if_neg hc] at hcheck ⊢
    refine (entryChecks_ok hz hcheck).trans (congrArg door ?_)
    cases hh : z.hours with
    | day => exact checkGrant_day hh
    | after =>
      cases hg : s.grantSearch p r.cfg.inner with
      | mk t o =>
        cases o with
        | none => exact checkGrant_none hh hg
        | some g => exact checkGrant_some hh hg

namespace State
variable {s t : State} {d n p : Nat} {r : DoorRec} {cred : Option Nat} {res : Resolution} {m : Mode} {arrival : Nat}

/-! ### Repeats and the pair rule (R68, R69) -/

theorem isRepeat_iff (r : DoorRec) (p : Nat) : isRepeat r p = true ↔
    (∃ c x, r.cycle = some c ∧ x ∈ c.passages ∧ x.dir = .entry ∧ x.person = some p) ∨
      ∃ w, r.pairWait = some w ∧ w.person = p := by
  unfold isRepeat
  rw [Bool.or_eq_true]
  refine or_congr ?_ ?_
  · cases r.cycle <;> simp
  · cases r.pairWait <;> simp

theorem pairWindowOf_eq {k : Nat} {z : ZoneRec} (hz : s.zone? k = some z) : s.pairWindowOf k = z.cfg.pairWindow := by
  unfold pairWindowOf
  rw [hz]

theorem pairRuleApplies_iff {z : ZoneRec} (hz : s.zone? r.cfg.inner = some z) : s.pairRuleApplies r p = true ↔
    z.cfg.pairRule = true ∧ z.hours = .after ∧ (∀ q, s.person? p = some q → q.cfg.loneWork = false) ∧
      s.occupants r.cfg.inner = 0 ∧ s.reservations r.cfg.inner = 0 ∧ r.pairWait = none := by
  unfold pairRuleApplies
  rw [hz]
  cases s.person? p <;> simp [and_assoc]

/-! ### The decision (R67, R68, R70, R77) -/

theorem decideEntry_repeat (hd : s.door? d = some r) (h : isRepeat r p = true) :
    s.decideEntry d cred (.person p) m arrival = s := by
  unfold decideEntry
  rw [hd]
  exact if_pos h

/-- A refusal at check 9 raises LOCATION_MISMATCH for the person (R65). -/
def mismatchAtCheck (t : State) (z : Nat) : RefusalCode → Option Nat → State
  | .locationMismatch, some p => t.mismatch p z
  | _, _ => t

theorem mismatchAtCheck_now (t : State) (z : Nat) (c : RefusalCode) (p : Option Nat) :
    (t.mismatchAtCheck z c p).now = t.now := by
  unfold mismatchAtCheck now
  split
  · exact congrArg _ (raise_ret t _ _ _ _)
  · rfl

/-- What follows the checks of a request that is no repeat. -/
def followChecks (d : Nat) (r : DoorRec) (cred : Option Nat) (res : Resolution) (m : Mode) (arrival : Nat) :
    State × Verdict → State
  | (t, .refused c g) =>
    (t.mismatchAtCheck r.cfg.inner c res.person?).refuse d c res.person? g
  | (t, .diverted) => t.divert { credential := cred, door := d, mode := m, arrival := arrival } res.person?
  | (t, .passed p g c) => t.admitEntry d r p g c m arrival

theorem decideEntry_fresh (hd : s.door? d = some r) (h : ∀ p, res.person? = some p → isRepeat r p = false) :
    s.decideEntry d cred res m arrival =
      followChecks d r cred res m arrival (s.entryChecks r res (if r.pairWait.isSome then 2 else 1)) := by
  unfold decideEntry
  rw [hd]
  dsimp only
  refine (if_neg ?_).trans ?_
  · cases hp : res.person? with
    | none => exact Bool.false_ne_true
    | some p => exact Bool.eq_false_iff.1 (h p hp)
  · cases s.entryChecks r res (if r.pairWait.isSome then 2 else 1) with
    | mk t v => cases v <;> rfl

theorem divert_eq (t : State) (e : WaitEntry) (p : Option Nat) : t.divert e p =
    if ∃ q ∈ t.adm.waits, q.credential = e.credential ∧ q.door = e.door then t
    else if t.adm.waits.length < Config.waitPlaces then t.setAdm { t.adm with waits := t.adm.waits ++ [e] }
    else t.refuse e.door .waitFull p none := by
  unfold divert
  have hany : t.adm.waits.any (fun q => decide (q.credential = e.credential) && decide (q.door = e.door)) = true ↔
      ∃ q ∈ t.adm.waits, q.credential = e.credential ∧ q.door = e.door := by
    simp
  simp only [hany]
  by_cases hfull : t.adm.waits.length < Config.waitPlaces
  · rw [if_neg (Nat.not_le.2 hfull), if_pos hfull]
  · rw [if_pos (Nat.not_lt.1 hfull), if_neg hfull]

section
variable {g c : Option Nat}

/-- The ENTRY passage that a granted request hands over (R68). -/
def passageOf (p : Nat) (g c : Option Nat) (m : Mode) (arrival : Nat) : Passage :=
  { dir := .entry, person := some p, grant := g, ceiling := c, mode := m, arrival := arrival }

theorem admitEntry_waits (hw : r.pairWait = none) (h : t.pairRuleApplies r p = true) :
    t.admitEntry d r p g c m arrival = t.beginPairWait d p g c m arrival (t.pairWindowOf r.cfg.inner) := by
  unfold admitEntry
  rw [hw]
  exact if_pos h

theorem admitEntry_grants (hw : r.pairWait = none) (h : t.pairRuleApplies r p = false) :
    t.admitEntry d r p g c m arrival = t.grantEntry d p g c m arrival := by
  unfold admitEntry
  rw [hw]
  exact if_neg (Bool.eq_false_iff.1 h)

theorem admitEntry_pair {w : PairWait} (hw : r.pairWait = some w) :
    t.admitEntry d r p g c m arrival = t.pairRelease d w p g c m arrival := by
  unfold admitEntry
  rw [hw]

theorem grantEntry_taken {y : State × Joined}
    (hy : (t.decided d (t.grantedNow (some p) g)).releaseRequest d [passageOf p g c m arrival] = y) (h : y.2 = .taken) :
    t.grantEntry d p g c m arrival = y.1 := by
  obtain ⟨u, _⟩ := y
  subst h
  unfold grantEntry
  dsimp only
  unfold passageOf at hy
  rw [hy]

theorem grantEntry_full {y : State × Joined}
    (hy : (t.decided d (t.grantedNow (some p) g)).releaseRequest d [passageOf p g c m arrival] = y) (h : y.2 = .full) :
    t.grantEntry d p g c m arrival = y.1.refuse d .zoneFull (some p) g := by
  obtain ⟨u, _⟩ := y
  subst h
  unfold grantEntry
  dsimp only
  unfold passageOf at hy
  rw [hy]

section
variable {w : PairWait} {y : State × Joined}
  (hy : t.releaseRequest d [firstPassage w, passageOf p g c m arrival] = y)
include hy

theorem pairRelease_taken (h : y.2 = .taken) : t.pairRelease d w p g c m arrival =
    (y.1.changeDoor d (fun z => { z with pairWait := none })).decided d (y.1.grantedNow (some p) g) := by
  obtain ⟨u, _⟩ := y
  subst h
  unfold pairRelease
  dsimp only
  unfold passageOf at hy
  rw [hy]

theorem pairRelease_full (h : y.2 = .full) : t.pairRelease d w p g c m arrival =
    y.1.refuse d .zoneFull (some p) g := by
  obtain ⟨u, _⟩ := y
  subst h
  unfold pairRelease
  dsimp only
  unfold passageOf at hy
  rw [hy]

end

end

end State

open State in
/-- Settles O33. -/
theorem entryDecisions : Obligations.EntryDecisions := by
  unfold Obligations.EntryDecisions
  intro s d r cred m arrival hd
  refine ⟨fun p h => decideEntry_repeat hd h, isRepeat_iff r, fun p z hz => ⟨pairWindowOf_eq hz, pairRuleApplies_iff hz⟩,
    ?decided⟩
  intro res hres n
  have hfresh : s.decideEntry d cred res m arrival = followChecks d r cred res m arrival (s.entryChecks r res n) :=
    decideEntry_fresh hd hres
  refine ⟨fun t c g h => ?refused, fun t h => ?diverted, fun t p g c h => ?passed⟩
  case refused =>
    rw [hfresh, h]
    show State.decided _ d _ = _
    rw [mismatchAtCheck_now]
    rfl
  case diverted =>
    rw [hfresh, h]
    exact divert_eq t _ _
  case passed =>
    intro x granted
    have hadmit : s.decideEntry d cred res m arrival = t.admitEntry d r p g c m arrival := by
      rw [hfresh, h]
      rfl
    refine ⟨fun hw hr => hadmit.trans (admitEntry_waits hw hr), fun hw hr => ?_, fun w hw => ?_⟩
    · have hgrant := hadmit.trans (admitEntry_grants hw hr)
      exact ⟨fun hy => hgrant.trans (grantEntry_taken rfl hy), fun hy => hgrant.trans (grantEntry_full rfl hy)⟩
    · have hpair := hadmit.trans (admitEntry_pair hw)
      exact ⟨fun hy => hpair.trans (pairRelease_taken rfl hy), fun hy => hpair.trans (pairRelease_full rfl hy)⟩

end Sys2Proof.Machine

/-! ## FREEZE, THAW and HOURS_OVERRIDE (R6, R76, R79) -/

namespace Sys2Proof.Machine

/-- A key outside a request's range is none of it. -/
theorem opKey_outside {tag : Byte} {lo hi k : Nat} (hk : k ≤ 255) (h : k < lo ∨ hi < k) :
    State.opKey lo hi (keyReq tag k) = none := by
  have hkey : keyAlone 1 lo hi (keyReq tag k) = none := by
    show numIn 1 lo hi (toBE 1 k) = none
    unfold numIn
    rw [num_byte (by omega)]
    exact if_neg (by omega)
  unfold State.opKey
  rw [hkey]
  rfl

namespace State
variable {s u : State} {tag : Byte} {k : Nat} {r : ZoneRec}

theorem opKey_zone (h1 : 1 ≤ k) (h31 : k ≤ 31) : opKey 1 31 (keyReq tag k) = some k :=
  opKey_keyReq h1 h31 (by decide)

/-! ### FREEZE -/

theorem frozen_eq (s : State) (z : Nat) (f : Freeze) : s.frozen z f =
    if f = .thawed then (if s.inFlight z = 0 then .held else .requested) else f := by
  cases f <;> rfl

theorem freeze_outside (hk : k ≤ 255) (h : k < 1 ∨ 31 < k) :
    u.freeze (keyReq tag k) = (u, refusedWith .badValue) := by
  unfold freeze
  rw [opKey_outside hk h]

section
variable (h1 : 1 ≤ k) (h31 : k ≤ 31)
include h1 h31

theorem freeze_absent (hz : u.zone? k = none) : u.freeze (keyReq tag k) = (u, refusedWith .notFound) := by
  unfold freeze
  rw [opKey_zone h1 h31]
  dsimp only
  rw [hz]

theorem freeze_found (hz : u.zone? k = some r) : u.freeze (keyReq tag k) =
    (u.putZone k { r with freeze := u.frozen k r.freeze }, freezeAnswer (u.frozen k r.freeze)) := by
  unfold freeze
  rw [opKey_zone h1 h31]
  dsimp only
  rw [hz]

/-! ### THAW -/

theorem thaw_found (hz : u.zone? k = some r) : u.thaw (keyReq tag k) =
    let mine := if r.freeze = .thawed then [] else u.adm.waits.filter (fun e => u.waitsFor k e)
    let done := mine.foldl State.thawNext (u.putZone k { r with freeze := .thawed }, 0)
    (done.1, okWith [fldN 21 1 (freezeCode .thawed), fldN 240 1 done.2]) := by
  unfold thaw
  rw [opKey_zone h1 h31]
  dsimp only
  rw [hz]

end

theorem thawNext_eq : State.thawNext = fun x e => if e ∈ x.1.adm.waits then (x.1.thawOne e, x.2 + 1) else x := by
  funext x e
  unfold thawNext
  simp only [List.contains_iff_mem]

theorem thawOne_credential {v : State} {e : WaitEntry} {c : Nat} (hc : e.credential = some c) :
    let w := (v.setAdm { v.adm with waits := v.adm.waits.erase e }).resolve c
    v.thawOne e = (w.1.decideEntry e.door (some c) w.2 e.mode w.1.nowTenths).conclude := by
  unfold thawOne
  rw [hc]

/-! ### HOURS_OVERRIDE -/

theorem enumIn_override (o : Override) : enumIn overrides (toBE 1 (overrideCode o)) = some o := by
  cases o <;> rfl

/-- The request that carries an override. -/
def overrideReq (tag : Byte) (k : Nat) (o : Override) : Req :=
  { tag := tag, key := toBE 1 k, fields := [fldN 1 1 (overrideCode o)] }

section
variable (h1 : 1 ≤ k) (h31 : k ≤ 31) (o : Override)
include h1 h31

theorem keyIn_override : keyIn 1 1 31 (overrideReq tag k o) = some k := numIn_byte h1 h31 (by decide)

theorem hoursOverride_absent (hz : u.zone? k = none) :
    u.hoursOverride (overrideReq tag k o) = (u, refusedWith .notFound) := by
  unfold hoursOverride
  rw [keyIn_override h1 h31,
    show (oneField (overrideReq tag k o)).bind (fun v => enumIn overrides v) = some o from enumIn_override o]
  refine (if_pos rfl).trans ?_
  dsimp only
  rw [hz]

theorem hoursOverride_found (hz : u.zone? k = some r) : u.hoursOverride (overrideReq tag k o) =
    if r.suspect = true then (u, refusedWith .suspect)
    else ((u.putZone k { r with cfg := { r.cfg with override := o } }).evaluateHours k,
      okWith [fldN 16 1 (hoursCode (computeHours u.ret.calendar { r.cfg with override := o }))]) := by
  unfold hoursOverride
  rw [keyIn_override h1 h31,
    show (oneField (overrideReq tag k o)).bind (fun v => enumIn overrides v) = some o from enumIn_override o]
  refine (if_pos rfl).trans ?_
  dsimp only
  rw [hz]

end

end State

open State in
/-- Settles O24. -/
theorem freezeThawAndHours : Obligations.FreezeThawAndHours := by
  unfold Obligations.FreezeThawAndHours
  intro s tag k hs u
  refine ⟨fun hk => ?freeze, fun r h1 h31 hz => ?thaw, fun o h1 h31 => ?hours, fun v e c hc => thawOne_credential hc⟩
  case freeze =>
    show Host.Outcome.next (s.serveWrite (keyReq tag k) State.freeze) = _
    rw [serveWrite_answered hs State.ids_nil]
    by_cases hout : k = 0 ∨ 31 < k
    · rw [if_pos hout, freeze_outside hk (by omega)]
      exact congrArg _ (answered_no tag _ nofun)
    rw [if_neg hout]
    cases hz : u.zone? k with
    | none =>
      rw [freeze_absent (by omega) (by omega) hz]
      exact congrArg _ (answered_no tag _ nofun)
    | some r =>
      rw [freeze_found (by omega) (by omega) hz, frozen_eq]
      exact congrArg _ (answered_ok tag _ _)
  case thaw =>
    intro mine x
    show Host.Outcome.next (s.serveWrite (keyReq tag k) State.thaw) = _
    rw [serveWrite_answered hs State.ids_nil, thaw_found h1 h31 hz, thawNext_eq]
    simp only [waitsFor_eq]
    exact congrArg _ (answered_ok tag _ _)
  case hours =>
    show Host.Outcome.next (s.serveWrite (overrideReq tag k o) State.hoursOverride) = _
    rw [serveWrite_answered hs (State.ids_one _)]
    cases hz : u.zone? k with
    | none =>
      rw [hoursOverride_absent h1 h31 o hz]
      exact congrArg _ (answered_no tag _ nofun)
    | some r =>
      rw [hoursOverride_found h1 h31 o hz]
      dsimp only
      by_cases hsus : r.suspect = true
      · rw [if_pos hsus, if_pos hsus]
        exact congrArg _ (answered_no tag _ nofun)
      · rw [if_neg hsus, if_neg hsus]
        exact congrArg _ (answered_ok tag _ _)

end Sys2Proof.Machine

/-! ## The events of a report (R61, R62, R94, R150, R162) -/

namespace Sys2Proof.Machine
namespace State
variable {s : State} {b : Nat} {e : Event}

/-! ### Resolution (R43) -/

theorem resolve_eq (s : State) (c : Nat) : s.resolve c =
    (s.testPersons (s.holders c), (s.testPersons (s.holders c)).resolved c) := rfl

theorem resolved_eq (t : State) (c : Nat) : t.resolved c =
    match t.adm.persons.filter (fun q => q.2.cfg.credential = c) with
    | [] => .unknown
    | [(p, r)] => if r.suspect then .suspect else .person p
    | _ => .suspect := by
  unfold resolved
  generalize t.adm.persons.filter (fun q => q.2.cfg.credential = c) = l
  match l with
  | [] => rfl
  | [_] => rfl
  | _ :: _ :: _ => rfl

/-! ### Reader events and the exit button (R61, R62) -/

/-- A reader event in the mode DURESS raises it before anything is decided (R62). -/
def duressTaken (s : State) (d : Nat) (p : Option Nat) : Mode → State
  | .duress => (s.raiseDuress d p).settleBits 0x00002000#32
  | .normal => s

theorem doorRequest_eq (s : State) (d : Nat) (isEntry : Bool) (cred : Nat) (m : Mode) :
    s.doorRequest d isEntry cred m =
      let t := (s.resolve cred).1.duressTaken d (s.resolve cred).2.person? m
      if isEntry then t.decideEntry d (some cred) (s.resolve cred).2 m t.nowTenths
      else t.exitRequest d (s.resolve cred).2.person? t.nowTenths := by
  unfold doorRequest duressTaken
  cases m <;> rfl

theorem raiseDuress_door {r : DoorRec} (hd : s.door? b = some r) (p : Option Nat) : s.raiseDuress b p =
    s.raise .duress (match p with | some n => .person n | none => .door b) (some r.cfg.inner) p := by
  unfold raiseDuress
  rw [hd]
  rfl

/-! ### Check-ins (R94) and fob reports (R150) -/

section
variable {c z p : Nat}

theorem checkIn_unresolved (h : (s.resolve c).2 = .unknown ∨ (s.resolve c).2 = .suspect) :
    s.checkIn z c = (s.resolve c).1.raise .locationMismatch (.zone z) (some z) none := by
  unfold checkIn
  generalize s.resolve c = w at h ⊢
  obtain ⟨t, res⟩ := w
  rcases h with rfl | rfl <;> rfl

section
variable (hp : (s.resolve c).2 = .person p)
include hp

/-- A check-in by a person goes by the person's occupancy record. -/
theorem checkIn_here {i : Nat} {r : OccRec} (hr : (s.resolve c).1.recordOf p = some (i, r)) (hz : r.zone = z) :
    s.checkIn z c =
      let v := (s.resolve c).1.changeOcc i (fun q => { q with missing := false, checkin := (s.resolve c).1.checkinFor z })
      if r.missing then v.endAlarm .checkinMissed (.person p) else v := by
  unfold checkIn
  generalize s.resolve c = w at hp hr ⊢
  obtain ⟨t, res⟩ := w
  subst hp
  dsimp only at hr ⊢
  rw [hr]
  exact if_pos hz

theorem checkIn_elsewhere {i : Nat} {r : OccRec} (hr : (s.resolve c).1.recordOf p = some (i, r)) (hz : r.zone ≠ z) :
    s.checkIn z c = (s.resolve c).1.mismatch p z := by
  unfold checkIn
  generalize s.resolve c = w at hp hr ⊢
  obtain ⟨t, res⟩ := w
  subst hp
  dsimp only at hr ⊢
  rw [hr]
  exact if_neg hz

theorem checkIn_unrecorded (hr : (s.resolve c).1.recordOf p = none) : s.checkIn z c =
    if (s.resolve c).1.suspectRecordOf p = none then (s.resolve c).1.mismatch p z else (s.resolve c).1 := by
  unfold checkIn
  generalize s.resolve c = w at hp hr ⊢
  obtain ⟨t, res⟩ := w
  subst hp
  dsimp only at hr ⊢
  rw [hr]
  cases t.suspectRecordOf p <;> rfl

end

theorem fobReport_unresolved {k : Kind} (h : (s.resolve c).2 = .unknown ∨ (s.resolve c).2 = .suspect) :
    s.fobReport k z c = (s.resolve c).1.raise k (.zone z) (some z) none := by
  unfold fobReport
  generalize s.resolve c = w at h ⊢
  obtain ⟨t, res⟩ := w
  rcases h with rfl | rfl <;> rfl

theorem fobReport_person {k : Kind} (hp : (s.resolve c).2 = .person p) : s.fobReport k z c =
    let v := (s.resolve c).1.raise k (.person p) (some z) (some p)
    match (s.resolve c).1.recordOf p with
    | some (_, r) => if r.zone = z then v else v.mismatch p z
    | none => if (s.resolve c).1.suspectRecordOf p = none then v.mismatch p z else v := by
  unfold fobReport
  generalize s.resolve c = w at hp ⊢
  obtain ⟨t, res⟩ := w
  subst hp
  have hrec : (t.raise k (.person p) (some z) (some p)).recordOf p = t.recordOf p := rfl
  have hsus : (t.raise k (.person p) (some z) (some p)).suspectRecordOf p = t.suspectRecordOf p := rfl
  dsimp only
  rw [hrec, hsus]
  cases t.recordOf p with
  | some q => rfl
  | none => cases t.suspectRecordOf p <;> rfl

end

/-! ### Delivery (R162) -/

theorem deliverEvent_reader {isEntry : Bool} (ht : e.type = if isEntry then 1 else 2) (hc : e.credential ≠ 0) :
    deliverEvent .door b s e = (s.doorRequest b isEntry e.credential (modeOf e.qualifier)).conclude := by
  unfold deliverEvent
  rw [ht]
  cases isEntry <;> exact if_neg hc

theorem deliverEvent_button (ht : e.type = 3) :
    deliverEvent .door b s e = (s.exitRequest b none s.nowTenths).conclude := by
  obtain ⟨_, _, _⟩ := e
  subst ht
  rfl

theorem deliverEvent_checkIn (ht : e.type = 4) (hc : e.credential ≠ 0) :
    deliverEvent .zone b s e = (s.checkIn b e.credential).conclude := by
  unfold deliverEvent
  rw [ht]
  exact if_neg hc

theorem deliverEvent_fob (ht : e.type = 5 ∨ e.type = 6) (hc : e.credential ≠ 0) : deliverEvent .zone b s e =
    (s.fobReport (if e.type = 5 then .duress else .manDown) b e.credential).conclude := by
  unfold deliverEvent
  rcases ht with ht | ht <;> rw [ht] <;> exact if_neg hc

theorem deliverEvent_discarded {k : StationKind} (h : k = .agent ∨ (k = .door ∧ e.type ∉ [1, 2, 3]) ∨
    (k = .zone ∧ e.type ∉ [4, 5, 6]) ∨ (e.credential = 0 ∧ e.type ≠ 3)) : deliverEvent k b s e = s := by
  unfold deliverEvent
  split
  case h_7 => rfl
  case h_3 ht => simp [ht] at h
  all_goals
    rename_i ht
    exact if_pos (by simpa [ht] using h)

end State

open State in
/-- Settles O53. -/
theorem eventsDelivered : Obligations.EventsDelivered := by
  unfold Obligations.EventsDelivered
  refine ⟨?door, ?checkIn, ?fob, fun s k b e h => deliverEvent_discarded h, fun s c => ?resolve⟩
  case door =>
    intro s b e r hd w t m
    have hd' : w.1.door? b = some r := (door?_of_doors (resolve_door s e.credential) b).trans hd
    have hmode : modeOf e.qualifier = m := rfl
    have ht : w.1.duressTaken b w.2.person? m = t := by
      by_cases hq : e.qualifier = 1
      · rw [show m = .duress from if_pos hq, show t = _ from if_pos hq]
        exact congrArg (fun v : State => v.settleBits 0x00002000#32) (raiseDuress_door hd' _)
      · rw [show m = .normal from if_neg hq, show t = _ from if_neg hq]
        rfl
    refine ⟨fun h1 hc => ?_, fun h2 hc => ?_, deliverEvent_button⟩
    · rw [deliverEvent_reader (isEntry := true) h1 hc, hmode, doorRequest_eq, show State.duressTaken _ _ _ _ = _ from ht]
      rfl
    · rw [deliverEvent_reader (isEntry := false) h2 hc, hmode, doorRequest_eq, show State.duressTaken _ _ _ _ = _ from ht]
      rfl
  case checkIn =>
    intro s b e h4 hc w
    rw [deliverEvent_checkIn h4 hc]
    refine ⟨fun h => congrArg conclude (checkIn_unresolved h), fun p hp => ?_⟩
    intro mismatch
    refine ⟨fun i r hr hz => congrArg conclude (checkIn_here hp hr hz), fun i r hr hz =>
      congrArg conclude (checkIn_elsewhere hp hr hz), fun hr hs => ?_, fun hr hs => ?_⟩
    · exact congrArg conclude ((checkIn_unrecorded hp hr).trans (if_pos hs))
    · exact congrArg conclude ((checkIn_unrecorded hp hr).trans (if_neg hs))
  case fob =>
    intro s b e ht hc w k
    rw [deliverEvent_fob ht hc]
    exact ⟨fun h => congrArg conclude (fobReport_unresolved h), fun p hp => congrArg conclude (fobReport_person hp)⟩
  case resolve =>
    rw [resolve_eq, resolved_eq]
    rfl

end Sys2Proof.Machine

/-! ## The end of an exchange (R38, R39, R160 to R164) -/

namespace Sys2Proof.Machine
namespace State
variable {s u : State} {addr d : Nat} {st : StationRec} {x : Exchange} {bytes : List Byte} {r : DoorRec}

/-! ### A missed reply -/

theorem windowEnds_open (hx : u.link.exchange = some x) : u.windowEnds = (u.missedReply x).exchangeOver := by
  unfold windowEnds
  rw [hx]

theorem missedReply_void (h : x.void = true) : u.missedReply x = u := if_pos h

theorem missedReply_station (hv : x.void = false) (hst : u.station? x.address = some st) (hs : st.suspect = false) :
    u.missedReply x = u.missedPoll x.address st := by
  unfold missedReply
  rw [hst]
  exact (if_neg (Bool.eq_false_iff.1 hv)).trans (if_neg (Bool.eq_false_iff.1 hs))

theorem missedPoll_eq (u : State) (addr : Nat) (st : StationRec) : u.missedPoll addr st =
    let w := (u.putStation addr { st with link := .silent, missed := 3 }).raise .stationSilent (.station addr)
      (u.stationZone addr st) none
    if st.link = .silent then u
    else if st.missed < 2 then u.putStation addr { st with missed := st.missed + 1 }
    else if w.serves addr st then w.tellSilence st.cfg else w := rfl

theorem reply_bad (h : u.goodReply bytes = none) : u.reply bytes = u.finish := by
  unfold reply
  rw [h]

theorem goodReply_void (hx : u.link.exchange = some x) (h : x.void = true) : u.goodReply bytes = none := by
  unfold goodReply
  rw [hx]
  exact if_pos h

/-! ### A door's station falls silent or returns (R38, R39) -/

theorem mayHavePassed_iff (x : DoorState) :
    mayHavePassed x = true ↔ x = .released ∨ x = .opened ∨ x = .held ∨ x = .forced := by
  cases x <;> simp [mayHavePassed]

/-- The entries that a silence refuses: those of a cycle in INTERLOCK_WAIT (R38). -/
def silencedEntries (r : DoorRec) : List Passage :=
  (if r.state = .interlockWait then (r.cycle.map (fun c => c.passages)).getD [] else []).filter (fun x => x.dir = .entry)

theorem silencedEntries_waits {c : Cycle} (hs : r.state = .interlockWait) (hc : r.cycle = some c) :
    silencedEntries r = c.passages.filter (fun x => x.dir = .entry) := by
  unfold silencedEntries
  rw [if_pos hs, hc]
  rfl

theorem silencedEntries_nil (h : ∀ c, r.state = .interlockWait → r.cycle = some c → False) : silencedEntries r = [] := by
  unfold silencedEntries
  by_cases hs : r.state = .interlockWait
  · cases hc : r.cycle with
    | none => rw [if_pos hs]; rfl
    | some c => exact (h c hs hc).elim
  · rw [if_neg hs]
    rfl

/-- The door's pair wait is refused, if it holds one (R38). -/
def refusePair (s : State) (d : Nat) : Option PairWait → State
  | none => s
  | some y => s.refuse d .doorUnavailable (some y.person) y.grant

/-- What a silence leaves of a door whose entries `xs` it refuses (R38). -/
def silenced (s : State) (d : Nat) (r : DoorRec) (xs : List Passage) : State :=
  let x := ((s.refuseEach d .doorUnavailable xs).refusePair d r.pairWait).changeDoor d (fun q => { q with
    state := .unknown, right := false, cycle := none, pairWait := none, heldInhibit := false, indication := .none,
    indEnd := none })
  (if mayHavePassed r.state then x.markUnverified r.cfg.inner else x).arbitrate d

theorem doorSilent_eq (hd : s.door? d = some r) : s.doorSilent d = s.silenced d r (silencedEntries r) := by
  have hentries : (match r.state, r.cycle with
      | .interlockWait, some c => c.passages.filter (fun x => x.dir = .entry)
      | _, _ => []) = silencedEntries r := by
    split
    · next hs hc => exact (silencedEntries_waits hs hc).symm
    · next hnot => exact (silencedEntries_nil hnot).symm
  unfold doorSilent
  rw [hd]
  dsimp only
  refine Eq.trans ?_ (congrArg (s.silenced d r) hentries)
  unfold silenced refusePair
  cases r.pairWait <;> rfl

theorem doorReturn_open (hd : s.door? d = some r) (h : r.state = .unknown) (latch : Bool) :
    s.doorReturn d true latch = s.opening d := by
  unfold doorReturn
  rw [hd]
  exact if_pos h

theorem doorReturn_closed (hd : s.door? d = some r) (h : r.state = .unknown) (latch : Bool) :
    s.doorReturn d false latch =
      let v := s.putDoor d { r with state := .secured, right := false, cycle := none }
      let w := if latch then v.markUnverified r.cfg.inner else v
      (((w.endAlarm .doorForced (.door d)).endAlarm .doorHeld (.door d)).endBreach d).arbitrate d := by
  unfold doorReturn
  rw [hd]
  exact if_pos h

end State

open State in
/-- Settles O54. -/
theorem windowMisses : Obligations.WindowMisses := by
  unfold Obligations.WindowMisses
  refine ⟨?missed, ?void, fun s b => ⟨rfl, rfl, rfl⟩, ?silent⟩
  case missed =>
    intro s addr st u hx hst hs w ended
    show Host.Outcome.next u.windowEnds = _
    rw [windowEnds_open hx, missedReply_station rfl hst hs]
    exact congrArg (fun t : State => Host.Outcome.next t.exchangeOver) (missedPoll_eq u addr st)
  case void =>
    intro s x bytes hx hv
    refine ⟨congrArg Host.Outcome.next (reply_bad (goodReply_void hx hv)), ?_⟩
    show Host.Outcome.next s.readTables.windowEnds = _
    rw [windowEnds_open hx, missedReply_void hv]
    rfl
  case silent =>
    intro s d r hd refused waiting v w x
    have hw : (s.refuseEach d .doorUnavailable (silencedEntries r)).refusePair d r.pairWait = w := by
      cases hp : r.pairWait <;> simp only [w, hp] <;> rfl
    rw [doorSilent_eq hd]
    unfold silenced
    rw [hw]
    simp only [mayHavePassed_iff]
    rfl

/-! ### A good report (R161, R162, R164) -/

namespace State
variable {s u y : State} {addr d : Nat} {st : StationRec} {bytes : List Byte} {p : Report} {r : DoorRec}
  {image : Option Outputs} {accepted : Bool}

theorem goodReply_good (hx : u.link.exchange = some { address := addr }) (hst : u.station? addr = some st)
    (hs : st.suspect = false) (hp : readReport st.cfg.kind addr bytes = some p) :
    u.goodReply bytes = some (addr, st, p) := by
  simp [goodReply, hx, hst, hs, hp]

theorem reply_good (h : u.goodReply bytes = some (addr, st, p)) :
    u.reply bytes = (u.deliver addr st p).exchangeOver := by
  unfold reply
  rw [h]

theorem echoedImage_eq (st : StationRec) (n : Nat) : echoedImage st n =
    if (st.sent.map (fun m => m.2)) = some n then st.sent.map (fun m => m.1) else none := by
  unfold echoedImage
  cases st.sent with
  | none => exact (ite_self _).symm
  | some m => exact if_congr Option.some_inj.symm rfl rfl

theorem deliver_unserved (h : u.serves addr st = false) : u.deliver addr st p = u.judged addr st p.number :=
  if_neg (Bool.eq_false_iff.1 h)

/-- The station as a served report finds it: judged, with the echo of the token sent. -/
def echoTaken (u : State) (addr : Nat) (st : StationRec) (p : Report) (image : Option Outputs) : State :=
  if image.isSome then (u.judged addr st p.number).changeStation addr (fun q => { q with echo := some p.echo })
  else u.judged addr st p.number

theorem deliver_served (h : u.serves addr st = true) (hi : echoedImage st p.echo = image) : u.deliver addr st p =
    if decide (st.lastReport ≠ some p.number) = true then
      p.events.foldl (deliverEvent st.cfg.kind st.cfg.bound) ((u.echoTaken addr st p image).deliverStatus st p image
        (decide (st.lastReport ≠ some p.number)))
    else (u.echoTaken addr st p image).deliverStatus st p image (decide (st.lastReport ≠ some p.number)) := by
  have hfresh : (st.lastReport != some p.number) = decide (st.lastReport ≠ some p.number) := by
    rw [Bool.eq_iff_iff, bne_iff_ne, decide_eq_true_eq]
  subst hi
  unfold deliver echoTaken
  dsimp only
  rw [if_pos h, hfresh]
  cases echoedImage st p.echo <;> rfl

theorem judged_door (u : State) (addr : Nat) (st : StationRec) (n : Nat) : (u.judged addr st n).door = u.door := by
  unfold judged
  dsimp only
  split <;> rfl

theorem echoTaken_door? (u : State) (addr : Nat) (st : StationRec) (p : Report) (image : Option Outputs) (d : Nat) :
    (u.echoTaken addr st p image).door? d = u.door? d := by
  refine door?_of_doors ?_ d
  unfold echoTaken
  split <;> exact judged_door u addr st _

theorem takesReturn_eq (hd : y.door? st.cfg.bound = some r) :
    y.takesReturn st = decide (st.link ≠ .answering ∧ r.state = .unknown) := by
  unfold takesReturn
  rw [hd, Bool.eq_iff_iff]
  simp

theorem deliverStatus_zone (hk : st.cfg.kind = .zone) : y.deliverStatus st p image accepted = y := by
  unfold deliverStatus
  rw [hk]

/-- The echo of a strike ON starts the strike timer (R22). -/
def strikeStarted (t : State) (d : Nat) (image : Option Outputs) : State :=
  if (image.map strikeIn) = some true then t.strikeEcho d else t

theorem strikeStarted_eq (t : State) (d : Nat) (o : Outputs) :
    t.strikeStarted d (some o) = if strikeIn o then t.strikeEcho d else t := by
  unfold strikeStarted
  simp only [Option.map_some, Option.some_inj]

section
variable {isOpen latch : Bool} (hk : st.cfg.kind = .door) (hp : p.status = .door isOpen latch)
include hk hp

theorem deliverStatus_door : y.deliverStatus st p image accepted =
    if y.takesReturn st then
      ((y.doorReturn st.cfg.bound isOpen (latch && accepted)).conclude).strikeStarted st.cfg.bound image
    else (y.strikeStarted st.cfg.bound image).doorStatus st.cfg.bound isOpen (latch && accepted) := by
  unfold deliverStatus
  rw [hk, hp]
  dsimp only
  cases image with
  | none => split <;> rfl
  | some o =>
    simp only [strikeStarted_eq]
    split <;> rfl

theorem deliverStatus_door_stays (hd : y.door? st.cfg.bound = some r) (h : st.link = .answering ∨ r.state ≠ .unknown) :
    y.deliverStatus st p image accepted =
      (y.strikeStarted st.cfg.bound image).doorStatus st.cfg.bound isOpen (latch && accepted) := by
  rw [deliverStatus_door hk hp, takesReturn_eq hd]
  exact if_neg (by simp; tauto)

theorem deliverStatus_door_returns (hd : y.door? st.cfg.bound = some r) (hl : st.link ≠ .answering)
    (hr : r.state = .unknown) : y.deliverStatus st p image accepted =
      ((y.doorReturn st.cfg.bound isOpen (latch && accepted)).conclude).strikeStarted st.cfg.bound image := by
  rw [deliverStatus_door hk hp, takesReturn_eq hd]
  exact if_pos (decide_eq_true ⟨hl, hr⟩)

end

theorem deliverStatus_agent {v1 v2 : Nat} {m a sa sb rd pr : Bool} (hk : st.cfg.kind = .agent)
    (hp : p.status = .agent v1 v2 m a sa sb rd pr) : y.deliverStatus st p image accepted =
      (y.agentReport st.cfg.bound ⟨v1, v2, m, a, sa, sb, rd, pr⟩ (st.link != .answering)
        (decide (image.map flagIn = some true))).conclude := by
  unfold deliverStatus
  rw [hk, hp]
  cases image with
  | none => rfl
  | some o =>
    have hflag : flagIn o = decide ((some o).map flagIn = some true) := by
      cases h : flagIn o <;> simp [h]
    rw [← hflag]

end State

open State in
/-- Settles O52. -/
theorem goodReportDelivers : Obligations.GoodReportDelivers := by
  unfold Obligations.GoodReportDelivers
  intro s addr st bytes p u hx hst hs hp v x image y fresh ended deliver
  have hexec : exec (.goodReport bytes) s = .next (u.deliver addr st p).exchangeOver :=
    congrArg Host.Outcome.next (reply_good (goodReply_good hx hst hs hp))
  have hdeliver (t : State) : deliver t =
      (if fresh then p.events.foldl (State.deliverEvent st.cfg.kind st.cfg.bound) t else t).exchangeOver := rfl
  have hy : u.echoTaken addr st p image = y := rfl
  have himage : echoedImage st p.echo = image := echoedImage_eq st p.echo
  have hserved (h : u.serves addr st = true) : exec (.goodReport bytes) s =
      .next (deliver (y.deliverStatus st p image fresh)) := by
    rw [hexec, deliver_served h himage, hy, hdeliver]
  have hdoor (d : Nat) : y.door? d = u.door? d := echoTaken_door? u addr st p image d
  refine ⟨fun h => ?unserved, fun h => ⟨fun hk => ?zone, ?door, fun v1 v2 m a sa sb rd pr hk hst => ?agent⟩,
    fun t d r latch hd hr => ⟨doorReturn_open hd hr latch, doorReturn_closed hd hr latch⟩⟩
  case unserved =>
    have hx : u.judged addr st p.number = x := rfl
    have hended : ended x = x.exchangeOver := rfl
    rw [hexec, deliver_unserved h, hx, hended]
  case zone => rw [hserved h, deliverStatus_zone hk]
  case door =>
    intro r isOpen latch hk hd hstat started
    have hstarted (t : State) : started t = t.strikeStarted st.cfg.bound image := rfl
    refine ⟨fun hstays => ?_, fun hl hr => ?_⟩
    · rw [hserved h, deliverStatus_door_stays hk hstat ((hdoor _).trans hd) hstays, hstarted]
    · rw [hserved h, deliverStatus_door_returns hk hstat ((hdoor _).trans hd) hl hr, hstarted]
  case agent => rw [hserved h, deliverStatus_agent hk hst]

end Sys2Proof.Machine

/-! ## Contact openings and closings (R23 to R26, R28, R30, R31) -/

namespace Sys2Proof.Machine
namespace State
variable {s : State} {d p : Nat} {r q : DoorRec} {c : Cycle}

theorem markUnverified_door (s : State) (z : Nat) : (s.markUnverified z).door = s.door := by
  unfold markUnverified
  split
  · rfl
  · split <;> rfl

/-! ### Openings -/

section
variable (hd : s.door? d = some r)
include hd

theorem opening_released (hc : r.cycle = some c) (h : r.state = .releasing ∨ r.state = .released) : s.opening d =
    (s.putDoor d { r with state := .opened, cycle := some { c with
      leadEnd := none, strikeEnd := none, heldEnd := some (s.base + c.vals.heldOpen * 100) } }).breachIfBothOpen d := by
  rcases h with h | h <;> simp only [opening, hd, h, hc, Option.map_some]

theorem opening_forces (h : r.state = .secured ∨ r.state = .unknown) :
    s.opening d = (s.force d r (s.newCycle r [])).breachIfBothOpen d := by
  rcases h with h | h <;> simp only [opening, hd, h]

theorem opening_reopens (h : r.state = .relocking) : s.opening d = (s.reopen d r).breachIfBothOpen d := by
  simp only [opening, hd, h]

theorem opening_keeps (h : r.state = .opened ∨ r.state = .held ∨ r.state = .forced) : s.opening d = s := by
  rcases h with h | h | h <;> simp only [opening, hd, h]

theorem force_partnerOf (e : Nat) : (s.force d r c).partnerOf e = s.partnerOf e :=
  (partnerOf_of_doors ((markUnverified_door _ _).trans (raise_door _ _ _ _ _)) e).trans
    (partnerOf_putDoor hd (q := { r with state := .forced, right := false, cycle := some c }) rfl e)

omit hd in
theorem force_door? (e : Nat) : (s.force d r c).door? e =
    if e = d then some { r with state := .forced, right := false, cycle := some c } else s.door? e :=
  (door?_of_doors ((markUnverified_door _ _).trans (raise_door _ _ _ _ _)) e).trans (door?_putDoor _ _ _ _)

theorem force_inner (e : Nat) :
    ((s.force d r c).door? e).map (fun y => y.cfg.inner) = (s.door? e).map (fun y => y.cfg.inner) := by
  rw [force_door?]
  by_cases he : e = d
  · rw [if_pos he, he, hd]
    rfl
  · rw [if_neg he]

theorem opening_waits_unpaired (hc : r.cycle = some c) (h : r.state = .interlockWait) (hp : s.partnerOf d = none) :
    s.opening d = s.force d r { c with waiting := true } := by
  simp only [opening, hd, h, hc, Option.getD_some, force_partnerOf hd, hp, Option.bind_none]

theorem opening_waits_paired (hc : r.cycle = some c) (h : r.state = .interlockWait) (hp : s.partnerOf d = some p)
    (hq : s.door? p = some q) : s.opening d =
      if q.state = .secured ∨ q.state = .interlockWait ∨ q.state = .relocking then s.force d r { c with waiting := true }
      else (s.force d r { c with waiting := true }).raise .interlockBreach (.door (min d p))
        ((s.door? (min d p)).map (fun y => y.cfg.inner)) none := by
  have hfind : (s.force d r { c with waiting := true }).door? p = some q := by
    rw [force_door?, if_neg (partnerOf_ne hp), hq]
  have hpart := (force_partnerOf (c := { c with waiting := true }) hd d).trans hp
  simp only [opening, hd, h, hc, Option.getD_some, raiseBreach_paired hpart, force_inner hd, hpart, Option.bind_some,
    hfind, closedForPair_iff]

/-! ### Reopenings (R28) -/

omit hd

theorem reopen_own (hc : r.cycle = some c) (h : r.right = true ∨ s.partnerOf d = none) : s.reopen d r =
    s.putDoor d { r with state := .opened, cycle := some { c with
      relockEnd := none, heldEnd := some (s.base + c.vals.heldOpen * 100) } } := by
  unfold reopen
  rw [hc]
  cases hp : s.partnerOf d with
  | none => rfl
  | some p =>
    have hright := h.resolve_right (by rw [hp]; exact Option.some_ne_none p)
    dsimp only
    cases s.door? p with
    | none => rfl
    | some q => exact if_pos hright

theorem reopen_paired (hc : r.cycle = some c) (hr : r.right = false) (hp : s.partnerOf d = some p)
    (hq : s.door? p = some q) :
    let opened := fun (right : Bool) => { r with state := .opened, right := right, cycle := some { c with
      relockEnd := none, heldEnd := some (s.base + c.vals.heldOpen * 100) } }
    s.reopen d r = if q.right = true ∧ q.state = .releasing then
        (s.putDoor p { q with state := .interlockWait, right := false,
                              cycle := q.cycle.map (fun e => { e with leadEnd := none }) }).putDoor d (opened true)
      else s.putDoor d (opened (!q.right)) := by
  intro opened
  have hopened : opened false = { r with state := .opened, cycle := some { c with
      relockEnd := none, heldEnd := some (s.base + c.vals.heldOpen * 100) } } := by
    simp only [opened, ← hr]
  unfold reopen
  rw [hc, hp]
  dsimp only
  rw [hq]
  dsimp only
  rw [if_neg (Bool.eq_false_iff.1 hr)]
  simp only [Bool.and_eq_true, decide_eq_true_eq]
  by_cases hgive : q.right = true ∧ q.state = .releasing
  · rw [if_pos hgive, if_pos hgive]
    rfl
  · rw [if_neg hgive, if_neg hgive]
    cases hqr : q.right with
    | true => exact (if_pos rfl).trans (congrArg _ hopened.symm)
    | false => exact if_neg Bool.false_ne_true

/-! ### INTERLOCK_BREACH (R30) -/

include hd

theorem breachIfBothOpen_unpaired (hp : s.partnerOf d = none) : s.breachIfBothOpen d = s := by
  simp only [breachIfBothOpen, hd, hp, Option.bind_none]

theorem breachIfBothOpen_paired (hp : s.partnerOf d = some p) (hq : s.door? p = some q) : s.breachIfBothOpen d =
    if contactOpen r.state = true ∧ contactOpen q.state = true then
      s.raise .interlockBreach (.door (min d p)) ((s.door? (min d p)).map (fun y => y.cfg.inner)) none
    else s := by
  unfold breachIfBothOpen
  rw [raiseBreach_paired hp, hd, hp, Option.bind_some, hq]
  simp only [Bool.and_eq_true]

/-! ### Closings (R24, R25, R31) -/

theorem closing_forced (h : r.state = .forced) : s.closing d = s.closeForced d r := by
  simp only [closing, hd, h]

theorem closing_keeps (ho : r.state ≠ .opened) (hh : r.state ≠ .held) (hf : r.state ≠ .forced) :
    s.closing d = (s, false) := by
  unfold closing
  rw [hd]
  cases h : r.state with
  | opened => exact absurd h ho
  | held => exact absurd h hh
  | forced => exact absurd h hf
  | secured | interlockWait | releasing | released | relocking | unknown => simp only [h]

theorem closing_open (hc : r.cycle = some c) (h : r.state = .opened ∨ r.state = .held) :
    let v := if r.state = .held then s.endAlarm .doorHeld (.door d) else s
    let i := if r.state = .held then false else r.heldInhibit
    s.closing d =
      (((if c.vals.relock = 0 then
          (v.putDoor d { r with state := .secured, right := false, heldInhibit := i,
                                cycle := some { c with heldEnd := none } }).endBreach d
        else v.putDoor d { r with state := .relocking, heldInhibit := i, cycle := some { c with
          heldEnd := none, relockEnd := some (s.base + c.vals.relock * 10) } }).arbitrate d), true) := by
  rcases h with h | h <;> simp only [closing, hd, h, hc, Option.getD_some]

theorem takeCycle_find (hc : r.cycle = some c) : (s.takeCycle d).door? d =
    some (if r.state = .secured then { r with cycle := none }
      else { r with cycle := some { c with passages := [], unlisted := false, exitDue := none } }) := by
  unfold takeCycle
  rw [changeDoor_find _ hd, if_pos rfl]
  simp only [hc, Option.map_some]

theorem doorStatus_eq (isOpen latch : Bool) : s.doorStatus d isOpen latch =
    if isOpen then (if contactOpen r.state then s else (s.opening d).conclude)
    else if contactOpen r.state then (s.closeAndComplete d).conclude
    else if latch then (((s.opening d).conclude).closeAndComplete d).conclude else s := by
  unfold doorStatus
  rw [hd]

end

section
variable (hc : r.cycle = some c)
include hc

theorem closeForced_own (h : c.waiting = false) : s.closeForced d r =
    (((((s.endAlarm .doorForced (.door d)).endAlarm .doorHeld (.door d)).putDoor d
      { r with state := .secured, right := false }).endBreach d).arbitrate d, true) := by
  unfold closeForced
  rw [hc]
  exact if_neg (Bool.eq_false_iff.1 h)

theorem closeForced_empty (h : c.waiting = true) (he : emptyCycle c = true) : s.closeForced d r =
    (((s.endAlarm .doorForced (.door d)).endAlarm .doorHeld (.door d)).toSecured d, false) := by
  unfold closeForced
  rw [hc]
  exact (if_pos h).trans (if_pos he)

/-- A waiting cycle waits again, or takes the right where exit due is reached (R31). -/
theorem closeForced_waits (h : c.waiting = true) (he : emptyCycle c = false) :
    let w := ((s.endAlarm .doorForced (.door d)).endAlarm .doorHeld (.door d)).putDoor d
      { r with state := .interlockWait, cycle := some { c with waiting := false } }
    s.closeForced d r = (if s.fallsDue c.exitDue then w.overrideRight d else w.arbitrate d, false) := by
  unfold closeForced
  rw [hc]
  exact (if_pos h).trans (if_neg (Bool.eq_false_iff.1 he))

end

theorem emptyCycle_false_iff (c : Cycle) : emptyCycle c = false ↔ c.passages ≠ [] ∨ c.unlisted = true := by
  rw [← Bool.not_eq_true, emptyCycle_iff, Classical.not_and_iff_not_or_not, Bool.not_eq_false]

theorem closeAndComplete_none {t : State} (h : s.closing d = (t, false)) : s.closeAndComplete d = t := by
  unfold closeAndComplete
  rw [h]

theorem closeAndComplete_some {t : State} (h : s.closing d = (t, true)) : s.closeAndComplete d =
    let u := t.settleBits (maskOf bitDoorsClosed)
    let v := (u.handOver d).freezeReached
    ((v.settleBits (maskOf bitDuressOpen)).settle.recomputeFor (u.handedZones d)).settle := by
  unfold closeAndComplete
  rw [h]

theorem contactOpen_eq (x : DoorState) :
    contactOpen x = (decide (x = .opened) || decide (x = .held) || decide (x = .forced)) := by
  cases x <;> rfl

end State

open State in
/-- Settles O30. -/
theorem doorContacts : Obligations.DoorContacts := by
  unfold Obligations.DoorContacts
  intro s d r hd
  refine ⟨fun c hc h => opening_released hd hc h, opening_forces hd, fun c hc h hr => ?own, opening_keeps hd,
    fun c hc h => ⟨opening_waits_unpaired hd hc h, fun p q hp hq => opening_waits_paired hd hc h hp hq⟩,
    fun c p q hc h hr hp hq => ?reopens, breachIfBothOpen_unpaired hd, fun p q hp hq => breachIfBothOpen_paired hd hp hq,
    fun c hc h => ?forced, fun t => closeAndComplete_none, fun t => closeAndComplete_some,
    fun c hc h => closing_open hd hc h, closing_keeps hd, fun c hc => takeCycle_find hd hc, fun isOpen latch => ?report⟩
  case own => rw [opening_reopens hd h, reopen_own hc hr]
  case reopens =>
    intro opened
    rw [opening_reopens hd h, reopen_paired hc hr hp hq]
  case forced =>
    rw [closing_forced hd h]
    refine ⟨closeForced_own hc, fun hw hn hu => closeForced_empty hc hw ((emptyCycle_iff c).2 ⟨hn, hu⟩),
      fun hw hne => ?_⟩
    have hwaits := closeForced_waits (s := s) (d := d) hc hw ((emptyCycle_false_iff c).2 hne)
    refine ⟨fun hdue => ?_, fun hdue => ?_⟩
    · rw [hwaits, hdue]
      rfl
    · rw [hwaits, hdue]
      rfl
  case report =>
    rw [doorStatus_eq hd, contactOpen_eq]

end Sys2Proof.Machine

/-! ## The lanes and the polls (R126, R159, R163) -/

namespace Sys2Proof.Machine

/-! ### Ascending lists -/

theorem find?_eq_some_iff_least {l : List Nat} (h : l.Pairwise (· < ·)) {k a : Nat} :
    l.find? (fun b => decide (k < b)) = some a ↔ a ∈ l ∧ k < a ∧ ∀ b ∈ l, k < b → a ≤ b := by
  induction l with
  | nil => simp
  | cons x l ih =>
    obtain ⟨hx, hl⟩ := List.pairwise_cons.1 h
    rw [List.find?_cons]
    by_cases hk : k < x
    · rw [decide_eq_true hk]
      constructor
      · rintro ⟨⟩
        refine ⟨List.mem_cons_self, hk, fun b hb _ => ?_⟩
        rcases List.mem_cons.1 hb with rfl | hb
        · exact le_refl _
        · exact le_of_lt (hx b hb)
      · rintro ⟨ha, hka, hmin⟩
        rcases List.mem_cons.1 ha with rfl | ha
        · rfl
        · exact absurd (hmin x List.mem_cons_self hk) (Nat.not_le.2 (hx a ha))
    · rw [decide_eq_false hk]
      simp only [ih hl, List.mem_cons, forall_eq_or_imp]
      constructor
      · rintro ⟨ha, hka, hmin⟩
        exact ⟨.inr ha, hka, fun h => absurd h hk, hmin⟩
      · rintro ⟨rfl | ha, hka, _, hmin⟩
        · exact absurd hka hk
        · exact ⟨ha, hka, hmin⟩

theorem head?_eq_some_iff_least {l : List Nat} (h : l.Pairwise (· < ·)) {a : Nat} :
    l.head? = some a ↔ a ∈ l ∧ ∀ b ∈ l, a ≤ b := by
  cases l with
  | nil => simp
  | cons x l =>
    have hx := (List.pairwise_cons.1 h).1
    constructor
    · rintro ⟨⟩
      refine ⟨List.mem_cons_self, fun b hb => ?_⟩
      rcases List.mem_cons.1 hb with rfl | hb
      · exact le_refl _
      · exact le_of_lt (hx b hb)
    · rintro ⟨ha, hmin⟩
      rcases List.mem_cons.1 ha with rfl | ha
      · rfl
      · exact absurd (hmin x List.mem_cons_self) (Nat.not_le.2 (hx a ha))

namespace State
variable {s u : State} {addr a : Nat} {st : StationRec} {lane : Lane}

/-! ### The rotation lane -/

theorem rotationLane_ascending (h : s.link.stations.wf = true) : s.rotationLane.Pairwise (· < ·) :=
  (Table.wf_iff _).1 (Table.wf_filter _ h)

/-- The rotation lane holds the configured stations that are not suspect (R163). -/
theorem mem_rotationLane (h : s.link.stations.wf = true) :
    a ∈ s.rotationLane ↔ ∃ st, s.station? a = some st ∧ st.suspect = false := by
  unfold rotationLane
  simp only [List.mem_map, List.mem_filter, Bool.not_eq_true', Prod.exists, exists_and_right, exists_eq_right]
  exact exists_congr fun st => and_congr_left' ⟨Table.find_of_mem h, Table.mem_of_find⟩

theorem rotationNext_iff (h : s.link.stations.wf = true) : s.rotationNext = some a ↔ a ∈ s.rotationLane ∧
    ((s.link.rotation < a ∧ ∀ b ∈ s.rotationLane, s.link.rotation < b → a ≤ b) ∨
      ((∀ b ∈ s.rotationLane, b ≤ s.link.rotation) ∧ ∀ b ∈ s.rotationLane, a ≤ b)) := by
  have hasc := rotationLane_ascending h
  unfold rotationNext
  cases hf : s.rotationLane.find? (fun b => decide (s.link.rotation < b)) with
  | some b =>
    obtain ⟨hb, hlt, hmin⟩ := (find?_eq_some_iff_least hasc).1 hf
    dsimp only
    rw [← hf, find?_eq_some_iff_least hasc, and_congr_right_iff]
    intro _
    refine ⟨.inl, fun hcase => hcase.resolve_right fun hnone => ?_⟩
    exact absurd (hnone.1 b hb) (Nat.not_le.2 hlt)
  | none =>
    have hnone : ∀ b ∈ s.rotationLane, b ≤ s.link.rotation := by
      simpa using List.find?_eq_none.1 hf
    dsimp only
    rw [head?_eq_some_iff_least hasc, and_congr_right_iff]
    intro ha
    refine ⟨fun hmin => .inr ⟨hnone, hmin⟩, fun hcase => ?_⟩
    rcases hcase with ⟨hlt, _⟩ | ⟨_, hmin⟩
    · exact absurd (hnone a ha) (Nat.not_le.2 hlt)
    · exact hmin

/-! ### The station that is taken -/

theorem chosen_safety {rest : List Nat} (h : s.link.safetyLane = a :: rest) : s.chosen = some (a, .safety) := by
  unfold chosen
  rw [h]

theorem chosen_door {rest : List Nat} (hs : s.link.safetyLane = []) (hd : s.link.doorLane = a :: rest)
    (h : s.link.rotationTurn = false ∨ s.rotationNext = none) : s.chosen = some (a, .door) := by
  unfold chosen
  rw [hs, hd]
  cases hr : s.rotationNext with
  | none => rfl
  | some r => exact if_neg (Bool.eq_false_iff.1 (h.resolve_right (by rw [hr]; exact Option.some_ne_none r)))

theorem chosen_rotation (hs : s.link.safetyLane = []) (hr : s.rotationNext = some a)
    (h : s.link.rotationTurn = true ∨ s.link.doorLane = []) : s.chosen = some (a, .rotation) := by
  unfold chosen
  rw [hs, hr]
  cases hd : s.link.doorLane with
  | nil => rfl
  | cons d ds => exact if_pos (h.resolve_right (by rw [hd]; exact List.cons_ne_nil d ds))

theorem mem_laneWith {holds : Nat → Bool} {keys l : List Nat} (h : a ∈ laneWith holds keys l) : holds a = true := by
  unfold laneWith at h
  rcases List.mem_append.1 h with h | h
  · exact (List.mem_filter.1 h).2
  · exact (Bool.and_eq_true_iff.1 (List.mem_filter.1 h).2).1

theorem safetyHolds_sound (hst : s.station? a = some st) (h : s.safetyHolds a = true) : st.suspect = false := by
  unfold safetyHolds at h
  rw [hst] at h
  simp only [Bool.and_eq_true, Bool.not_eq_true'] at h
  obtain ⟨⟨⟨hs, _⟩, _⟩, _⟩ := h
  exact hs

theorem doorHolds_sound (hst : s.station? a = some st) (h : s.doorHolds a = true) : st.suspect = false := by
  unfold doorHolds at h
  rw [hst] at h
  simp only [Bool.and_eq_true, Bool.not_eq_true'] at h
  obtain ⟨⟨⟨hs, _⟩, _⟩, _⟩ := h
  exact hs

theorem rotationNext_mem (h : s.rotationNext = some a) : a ∈ s.rotationLane := by
  unfold rotationNext at h
  split at h
  · next hf => cases h; exact List.mem_of_find?_eq_some hf
  · exact List.mem_of_head? h

/-- Whence the station that is taken comes. -/
theorem chosen_cases (h : s.chosen = some (a, lane)) :
    a ∈ s.link.safetyLane ∨ a ∈ s.link.doorLane ∨ s.rotationNext = some a := by
  unfold chosen at h
  split at h
  · next hs => cases h; exact .inl (by rw [hs]; exact List.mem_cons_self)
  · split at h
    · next hd _ => cases h; exact .inr (.inl (by rw [hd]; exact List.mem_cons_self))
    · next hd hr =>
      split at h
      · cases h; exact .inr (.inr hr)
      · cases h; exact .inr (.inl (by rw [hd]; exact List.mem_cons_self))
    · next _ hr => cases h; exact .inr (.inr hr)
    · cases h

/-- A suspect station is never taken (R166). -/
theorem chosen_sound {t : State} (h : t.refreshLanes.chosen = some (addr, lane))
    (hst : t.refreshLanes.station? addr = some st) (hw : t.refreshLanes.link.stations.wf = true) : st.suspect = false := by
  rcases chosen_cases h with h | h | h
  · exact safetyHolds_sound (s := t) hst (mem_laneWith (by exact h))
  · exact doorHolds_sound (s := t) hst (mem_laneWith (by exact h))
  · obtain ⟨st', hst', hs⟩ := (mem_rotationLane hw).1 (rotationNext_mem h)
    cases hst.symm.trans hst'
    exact hs

/-! ### The gate test and the poll (R126, R159) -/

theorem gateShuts_iff : s.gateShuts st = true ↔ flagIn st.desired = true ∧ s.gateOpen st.cfg.bound = false := by
  unfold gateShuts
  rw [Bool.and_eq_true, Bool.not_eq_true']

theorem polledOutputs_flag (h : flagIn (s.polledOutputs st) = true) :
    s.gateOpen st.cfg.bound = true ∧ flagIn st.desired = true := by
  unfold polledOutputs at h
  cases hd : st.desired with
  | agent f e =>
    rw [hd] at h
    exact (Bool.and_eq_true_iff.1 h).symm
  | door n i => rw [hd] at h; cases h
  | zone x => rw [hd] at h; cases h

theorem polledOutputs_desired (h : flagIn st.desired = false ∨ s.gateOpen st.cfg.bound = true) :
    s.polledOutputs st = st.desired := by
  unfold polledOutputs
  cases hd : st.desired with
  | agent f e =>
    dsimp only
    congr 1
    rcases h with h | h
    · rw [show f = false from by rw [hd] at h; exact h, Bool.false_and]
    · rw [h, Bool.and_true]
  | door n i => rfl
  | zone x => rfl

theorem pollGate_withdraws (hf : (s.agent a).flag = true) (hg : s.gateOpen a = false)
    (hs : (s.agent a).state = .discharge) (he : (s.agent a).echoed = false) : s.pollGate a =
      ((s.putAgent a { s.agent a with flag := false }).enterState a .occupiedHold).raiseAgent a .occupiedHold := by
  unfold pollGate
  refine (if_pos ?_).trans (if_pos ?_)
  · rw [hf, hg]
    rfl
  · rw [hs, he]
    rfl

theorem pollNext_idle (h : u.link.exchange.isSome = true ∨ u.chosen = none) : u.pollNext = u := by
  unfold pollNext
  cases hx : u.link.exchange with
  | some x => rfl
  | none =>
    dsimp only
    rw [h.resolve_left (by rw [hx]; exact Bool.false_ne_true)]

theorem pollNext_sends {st1 : StationRec} (hx : u.link.exchange = none) (hc : u.chosen = some (addr, lane))
    (hst : u.station? addr = some st) (h1 : (u.gateBeforePoll st).station? addr = some st1) :
    u.pollNext = (u.gateBeforePoll st).sendPoll addr lane st1 := by
  unfold pollNext
  rw [hx]
  dsimp only
  rw [hc]
  dsimp only
  rw [hst]
  dsimp only
  rw [h1]

end State

open State in
/-- Settles O51. -/
theorem pollSends : Obligations.PollSends := by
  unfold Obligations.PollSends
  refine ⟨?sends, fun s st => ⟨polledOutputs_flag, polledOutputs_desired⟩,
    fun s a _ hf hg hs he => pollGate_withdraws hf hg hs he, ?idle, fun s => rfl, fun u addr lane => ?taken,
    fun s a hw => ?rotation, fun s a rest => ⟨chosen_safety, chosen_door, chosen_rotation⟩⟩
  case sends =>
    intro s addr lane st u hx hc hst
    refine ⟨chosen_sound hc hst, ?_⟩
    intro v st1 h1 w
    have hv : u.gateBeforePoll st = v := if_congr gateShuts_iff rfl rfl
    show Host.Outcome.next u.pollNext.finish = _
    rw [pollNext_sends hx hc hst (by rw [hv]; exact h1), hv]
    rfl
  case idle =>
    intro s u h
    show Host.Outcome.next u.pollNext.finish = _
    rw [pollNext_idle h]
  case taken => cases lane <;> rfl
  case rotation =>
    rw [rotationNext_iff hw]
    simp only [mem_rotationLane hw]

end Sys2Proof.Machine

/-! ## SET_CLOCK, STATUS, COMMISSION and ACK_RESTART (R176, R177, R183) -/

namespace Sys2Proof.Machine

/-! ### SET_CLOCK -/

theorem numIn_above {w hi k : Nat} {v : List Byte} (hn : num w v = some k) (h : hi < k) : numIn w 0 hi v = none := by
  unfold numIn
  rw [hn]
  exact if_neg (by omega)

theorem numIn_zero {w hi k : Nat} {v : List Byte} (hn : num w v = some k) (h : k ≤ hi) : numIn w 0 hi v = some k := by
  unfold numIn
  rw [hn]
  exact if_pos ⟨Nat.zero_le k, h⟩

/-- The fields of a SET_CLOCK (R183). -/
def clockFields (d m x : Nat) : List Field := [fldN 1 2 d, fldN 2 2 m, fldN 3 1 x]

theorem ids_clockFields (d m x : Nat) : (ids (clockFields d m x)).Nodup := by
  show [1, 2, 3].Nodup
  decide

namespace State
variable {u : State} {tag : Byte}

section
variable {d m x : Nat} (hd : d ≤ 65535) (hm : m ≤ 65535) (hx : x ≤ 255)
include hd hm hx

theorem clockIn_eq : clockIn (clockFields d m x) = if m ≤ 10079 ∧ x ≤ 59 then some ⟨d, m, x⟩ else none := by
  have h1 : (valueOf (clockFields d m x) 1).bind (numIn 2 0 65535) = some d := numIn_zero (num_two (by omega)) hd
  have h2 : (valueOf (clockFields d m x) 2).bind (numIn 2 0 10079) = if m ≤ 10079 then some m else none := by
    show numIn 2 0 10079 (toBE 2 m) = _
    by_cases h : m ≤ 10079
    · rw [if_pos h, numIn_zero (num_two (by omega)) h]
    · rw [if_neg h, numIn_above (num_two (by omega)) (by omega)]
  have h3 : (valueOf (clockFields d m x) 3).bind (numIn 1 0 59) = if x ≤ 59 then some x else none := by
    show numIn 1 0 59 (toBE 1 x) = _
    by_cases h : x ≤ 59
    · rw [if_pos h, numIn_zero (num_byte (by omega)) h]
    · rw [if_neg h, numIn_above (num_byte (by omega)) (by omega)]
  unfold clockIn
  rw [if_pos (by rfl), h1, h2, h3]
  by_cases hm' : m ≤ 10079
  · by_cases hx' : x ≤ 59
    · rw [if_pos hm', if_pos hx', if_pos ⟨hm', hx'⟩]
    · rw [if_pos hm', if_neg hx']
      exact (if_neg (mt And.right hx')).symm
  · rw [if_neg hm']
    exact (if_neg (mt And.left hm')).symm

theorem setClock_eq : u.setClock { tag := tag, fields := clockFields d m x } =
    if m ≤ 10079 ∧ x ≤ 59 then
      (((u.setRet { u.ret with calendar := some ⟨d, m, x⟩ }).endAlarm .clockUnset (.zone 0)).evaluateAllHours,
        okWith (clockFields d m x))
    else (u, refusedWith .badValue) := by
  unfold setClock
  rw [if_pos ⟨rfl, rfl⟩, clockIn_eq hd hm hx]
  by_cases h : m ≤ 10079 ∧ x ≤ 59
  · rw [if_pos h, if_pos h]
    rfl
  · rw [if_neg h, if_neg h]

end

/-! ### STATUS -/

theorem length_filter_marked {α : Type} (f : α → Bool) (l : List α) :
    ((l.map f).filter (fun b => b)).length = (l.filter f).length := by
  rw [List.filter_map, List.length_map]
  rfl

end State

open State in
/-- Settles O55. -/
theorem clockAndPartRequests : Obligations.ClockAndPartRequests := by
  unfold Obligations.ClockAndPartRequests
  intro s tag hs u
  have hread {f : State.Owner} : s.serveRead (bareReq tag) f = (f u (bareReq tag)).1.respond tag (f u (bareReq tag)).2 :=
    serveRead_taken f hs ids_nil
  refine ⟨fun d m x hd hm hx => ?clock, ?status, rfl, ?items, ?commission, ?ack⟩
  case clock =>
    show Host.Outcome.next (s.serveWrite { tag := tag, fields := clockFields d m x } State.setClock) = _
    rw [serveWrite_answered hs (ids_clockFields d m x), setClock_eq hd hm hx]
    by_cases h : m ≤ 10079 ∧ x ≤ 59
    · rw [if_pos h, if_pos h]
      exact congrArg _ (answered_ok tag _ _)
    · rw [if_neg h, if_neg h]
      exact congrArg _ (answered_no tag _ nofun)
  case status => exact congrArg Host.Outcome.next hread
  case items =>
    intro marked eight suspects ordinary
    have hsus : u.suspectCount = suspects := by
      simp only [suspects, marked, length_filter_marked]
      unfold suspectCount
      have hadd : ∀ a b c d e f g h i j k : Nat, a + b + c + d + e + f + g + h + i + j + k =
          a + b + f + c + d + e + g + h + i + j + k := by omega
      exact hadd _ _ _ _ _ _ _ _ _ _ _
    rw [← hsus]
    rfl
  case commission => exact congrArg Host.Outcome.next hread
  case ack => exact congrArg Host.Outcome.next hread

end Sys2Proof.Machine

/-! ## SWEEP_CLEAR (R91, R103) -/

namespace Sys2Proof.Machine

/-! ### The list of persons -/

theorem toBE_ofBE_two (b c : Byte) : toBE 2 (ofBE [b, c]) = [b, c] := by
  have hb := b.isLt
  have hc := c.isLt
  have hn : ofBE [b, c] = b.toNat * 256 + c.toNat := by simp [ofBE]
  have h1 : BitVec.ofNat 8 ((b.toNat * 256 + c.toNat) >>> 8) = b := by
    apply BitVec.eq_of_toNat_eq
    rw [BitVec.toNat_ofNat, Nat.shiftRight_eq_div_pow]
    omega
  have h0 : BitVec.ofNat 8 (b.toNat * 256 + c.toNat) = c := by
    apply BitVec.eq_of_toNat_eq
    rw [BitVec.toNat_ofNat]
    omega
  rw [hn]
  show [BitVec.ofNat 8 ((b.toNat * 256 + c.toNat) >>> 8), BitVec.ofNat 8 (b.toNat * 256 + c.toNat)] = _
  rw [h1, h0]

theorem ofBE_two_le (b c : Byte) : ofBE [b, c] ≤ 65535 := by
  have hb := b.isLt
  have hc := c.isLt
  simp only [ofBE, List.length_singleton, List.length_nil]
  omega

/-- Two bytes an item: what is read back is what was written. -/
theorem items_two_read {fuel : Nat} {v : List Byte} {l : List (List Byte)} (h : items 2 fuel v = some l) :
    v = ((l.map ofBE).map (fun p => toBE 2 p)).flatten ∧ ∀ p ∈ l.map ofBE, p ≤ 65535 := by
  induction fuel generalizing v l with
  | zero =>
    cases v with
    | nil => cases h; exact ⟨rfl, nofun⟩
    | cons b v => cases h
  | succ fuel ih =>
    match v, h with
    | [], h => cases h; exact ⟨rfl, nofun⟩
    | [b], h => cases h
    | b :: c :: v, h =>
      have hstep : items 2 (fuel + 1) (b :: c :: v) = (items 2 fuel v).map (fun l => [b, c] :: l) := by
        show (if v.length + 2 < 2 then none else _) = _
        rw [if_neg (by omega)]
        cases hr : items 2 fuel v <;> simp [hr]
      rw [hstep] at h
      obtain ⟨m, hm, rfl⟩ := Option.map_eq_some_iff.1 h
      obtain ⟨hv, hle⟩ := ih hm
      refine ⟨?_, fun p hp => ?_⟩
      · rw [List.map_cons, List.map_cons, List.flatten_cons, toBE_ofBE_two, ← hv]
        rfl
      · rcases List.mem_cons.1 hp with rfl | hp
        · exact ofBE_two_le b c
        · exact hle p hp

theorem items_two_written {fuel : Nat} {ps : List Nat} (h : ps.length ≤ fuel) :
    items 2 fuel (ps.map (fun p => toBE 2 p)).flatten = some (ps.map (fun p => toBE 2 p)) := by
  induction fuel generalizing ps with
  | zero =>
    cases ps with
    | nil => rfl
    | cons p ps => simp at h
  | succ fuel ih =>
    cases ps with
    | nil => rfl
    | cons p ps =>
      have hrest := ih (ps := ps) (by simpa using h)
      show (if (ps.map (fun p => toBE 2 p)).flatten.length + 1 + 1 < 2 then none else
        match items 2 fuel (ps.map (fun p => toBE 2 p)).flatten with
        | none => none
        | some l => some (toBE 2 p :: l)) = _
      rw [if_neg (by omega), hrest]
      rfl

namespace State

theorem sweepList_iff (v : List Byte) (ps : List Nat) : sweepList v = some ps ↔
    ps.length ≤ 16 ∧ (∀ p ∈ ps, 1 ≤ p ∧ p ≤ 65535) ∧ ps.Nodup ∧ v = (ps.map (fun p => toBE 2 p)).flatten := by
  unfold sweepList
  constructor
  · intro h
    cases hi : items 2 32 v with
    | none => rw [hi] at h; cases h
    | some l =>
      obtain ⟨hv, hle⟩ := items_two_read hi
      rw [hi] at h
      dsimp only at h
      split at h
      · next hok =>
        obtain ⟨hlen, hpos, hnd⟩ := hok
        cases h
        refine ⟨hlen, fun p hp => ⟨?_, hle p hp⟩, hnd, hv⟩
        have := List.all_eq_true.1 hpos p hp
        exact Nat.pos_of_ne_zero (bne_iff_ne.1 this)
      · cases h
  · rintro ⟨hlen, hrange, hnd, rfl⟩
    have hback : (ps.map (fun p => toBE 2 p)).map ofBE = ps := by
      rw [List.map_map]
      refine (List.map_congr_left fun p hp => ?_).trans (List.map_id ps)
      exact ofBE_toBE_two (by have := (hrange p hp).2; omega)
    rw [items_two_written (by omega)]
    dsimp only
    rw [hback]
    refine if_pos ⟨hlen, List.all_eq_true.2 fun p hp => ?_, hnd⟩
    exact bne_iff_ne.2 (by have := (hrange p hp).1; omega)

/-! ### The slots and the records of a sweep -/

variable {s t u : State} {z i : Nat} {ps : List Nat}

theorem lowestSlot_iff : s.lowestSlot = some i ↔
    i < 256 ∧ s.occ? i = none ∧ ∀ j < i, (s.occ? j).isSome = true := by
  constructor
  · intro h
    obtain ⟨hfree, _, hi, hbelow⟩ := Table.freeFrom_spec h
    exact ⟨by simpa [Config.occSlots] using hi, hfree, fun j hj => hbelow j (Nat.zero_le j) hj⟩
  · exact fun ⟨hi, hfree, hbelow⟩ => lowestSlot_eq hi hfree hbelow

/-- Every record of the zone is a sound one of a listed person. -/
def Cleared (z : Nat) (ps : List Nat) (s : State) : Prop :=
  ∀ i x, (i, x) ∈ s.occ.recs → x.zone = z → x.suspect = false ∧ x.person ∈ ps

theorem retireRecord_recs (s : State) (i : Nat) (r : OccRec) : (s.retireRecord i r).occ.recs = s.occ.recs.del i := by
  unfold retireRecord
  dsimp only
  split <;> rfl

/-- The records that retirements leave have none of the slots retired. -/
theorem mem_retired {l : List (Nat × OccRec)} {x : OccRec}
    (h : (i, x) ∈ (l.foldl (fun v q => v.retireRecord q.1 q.2) s).occ.recs) :
    (i, x) ∈ s.occ.recs ∧ ∀ q ∈ l, q.1 ≠ i := by
  induction l generalizing s with
  | nil => exact ⟨h, nofun⟩
  | cons q l ih =>
    obtain ⟨hmem, hne⟩ := ih h
    rw [retireRecord_recs] at hmem
    obtain ⟨hin, hkey⟩ := List.mem_filter.1 hmem
    refine ⟨hin, fun q' hq' => ?_⟩
    rcases List.mem_cons.1 hq' with rfl | hq'
    · exact (bne_iff_ne.1 hkey).symm
    · exact hne q' hq'

theorem cleared_retired (s : State) (z : Nat) (ps : List Nat) :
    Cleared z ps ((s.sweptOut z ps).foldl (fun v q => v.retireRecord q.1 q.2) s) := by
  intro i x h hz
  obtain ⟨hmem, hne⟩ := mem_retired h
  by_contra hbad
  refine hne (i, x) (List.mem_filter.2 ⟨hmem, ?_⟩) rfl
  cases hs : x.suspect with
  | true => simp [hz]
  | false =>
    have hp : x.person ∉ ps := fun hp => hbad ⟨hs, hp⟩
    simp [hz, hp]

theorem Cleared.sweepOne {p : Nat} (h : Cleared z ps s) (hp : p ∈ ps) : Cleared z ps (sweepOne z s p) := by
  unfold State.sweepOne
  split
  · exact h
  · intro i x hx hz
    rcases AlarmsGood.mem_put hx with ⟨_, rfl⟩ | hx
    · exact ⟨rfl, hp⟩
    · exact h i x hx hz

theorem Cleared.sweepFold {l : List Nat} (h : Cleared z ps s) (hl : ∀ p ∈ l, p ∈ ps) :
    Cleared z ps (l.foldl (State.sweepOne z) s) := by
  induction l generalizing s with
  | nil => exact h
  | cons p l ih =>
    exact ih (h.sweepOne (hl p List.mem_cons_self)) fun q hq => hl q (List.mem_cons_of_mem p hq)

/-! ### Pair evaluation moves no record -/

/-- Every record stands where one of the same person, zone and soundness stood, and no zone has changed. -/
structure KeepsPlaces (s t : State) : Prop where
  zones : t.occ.zones = s.occ.zones
  recs  : ∀ i x, (i, x) ∈ t.occ.recs →
    ∃ y, (i, y) ∈ s.occ.recs ∧ y.zone = x.zone ∧ y.suspect = x.suspect ∧ y.person = x.person

namespace KeepsPlaces

theorem of_occ (h : t.occ = s.occ) : KeepsPlaces s t :=
  ⟨by rw [h], fun _ x hx => ⟨x, h ▸ hx, rfl, rfl, rfl⟩⟩

theorem refl (s : State) : KeepsPlaces s s := of_occ rfl

theorem trans (h : KeepsPlaces s t) (k : KeepsPlaces t u) : KeepsPlaces s u := by
  refine ⟨k.zones.trans h.zones, fun i x hx => ?_⟩
  obtain ⟨y, hy, hz, hs, hp⟩ := k.recs i x hx
  obtain ⟨w, hw, hz', hs', hp'⟩ := h.recs i y hy
  exact ⟨w, hw, hz'.trans hz, hs'.trans hs, hp'.trans hp⟩

theorem changeOcc (s : State) (i : Nat) {f : OccRec → OccRec}
    (hf : ∀ y, (f y).zone = y.zone ∧ (f y).suspect = y.suspect ∧ (f y).person = y.person) :
    KeepsPlaces s (s.changeOcc i f) := by
  refine ⟨rfl, fun j x hx => ?_⟩
  obtain ⟨y, hy, rfl | ⟨_, rfl⟩⟩ := mem_change hx
  · exact ⟨x, hy, rfl, rfl, rfl⟩
  · obtain ⟨hz, hs, hp⟩ := hf y
    exact ⟨y, hy, hz.symm, hs.symm, hp.symm⟩

theorem foldl {α : Type} {f : State → α → State} (hf : ∀ t x, KeepsPlaces t (f t x)) (l : List α) (s : State) :
    KeepsPlaces s (l.foldl f s) := by
  induction l generalizing s with
  | nil => exact refl s
  | cons x l ih => exact (hf s x).trans (ih _)

theorem endAlarm (s : State) (k : Kind) (j : Subject) : KeepsPlaces s (s.endAlarm k j) := of_occ rfl

theorem ite {a b : State} (p : Prop) [Decidable p] (ha : KeepsPlaces s a) (hb : KeepsPlaces s b) :
    KeepsPlaces s (if p then a else b) := by
  split <;> assumption

theorem clearAlone (s : State) (q : Nat × OccRec) : KeepsPlaces s (s.clearAlone q) := by
  unfold State.clearAlone
  split
  · refine (changeOcc s q.1 ?_).trans (endAlarm _ _ _)
    exact fun _ => ⟨rfl, rfl, rfl⟩
  · exact refl s

theorem startGrace (s : State) (z : Nat) : KeepsPlaces s (s.startGrace z) := by
  have htest (p : Nat) : KeepsPlaces s (s.testPerson p) := of_occ (testPerson_occ s p)
  unfold State.startGrace
  split
  · refine ite _ (ite _ (htest _) ((htest _).trans (changeOcc _ _ ?_))) (refl s)
    exact fun _ => ⟨rfl, rfl, rfl⟩
  · exact refl s

theorem pairEvaluate (s : State) (z n : Nat) : KeepsPlaces s (s.pairEvaluate z n) := by
  rw [pairEvaluate_eq]
  split
  · exact refl s
  · split
    · exact foldl clearAlone _ s
    · split
      · exact startGrace s z
      · exact refl s

theorem cleared (h : KeepsPlaces s t) (hs : Cleared z ps s) : Cleared z ps t := by
  intro i x hx hz
  obtain ⟨y, hy, hyz, hys, hyp⟩ := h.recs i x hx
  obtain ⟨hsound, hlisted⟩ := hs i y hy (hyz.trans hz)
  exact ⟨hys ▸ hsound, hyp ▸ hlisted⟩

end KeepsPlaces

theorem sweepZone_cleared (s : State) (z : Nat) (ps : List Nat) : Cleared z ps (s.sweepZone z ps) := by
  refine (KeepsPlaces.pairEvaluate _ z _).cleared ?_
  exact (cleared_retired s z ps).sweepFold fun p hp => (List.mem_filter.1 hp).1

theorem sweepZone_verified {r : ZoneRec} (h : (s.sweepZone z ps).zone? z = some r) : r.verified = true := by
  have hz : (s.sweepZone z ps).zone? z = ((((s.sweptIn z ps).foldl (sweepOne z)
      ((s.sweptOut z ps).foldl (fun v q => v.retireRecord q.1 q.2) s)).changeZone z
        (fun r => { r with verified := true })).zone? z) :=
    congrArg (fun t : Table ZoneRec => t.find z) (KeepsPlaces.pairEvaluate _ z _).zones
  rw [hz, zone?_changeZone, if_pos rfl] at h
  obtain ⟨y, -, rfl⟩ := Option.map_eq_some_iff.1 h
  rfl

/-! ### The request -/

/-- The request SWEEP_CLEAR of a zone with a list (R103). -/
def sweepReq (tag : Byte) (z : Nat) (v : List Byte) : Req := { tag := tag, key := toBE 1 z, fields := [fld 1 v] }

section
variable {tag : Byte} {v : List Byte} {r : ZoneRec} {p : Nat}

theorem keyIn_sweep (hz : z ≤ 255) :
    keyIn 1 1 31 (sweepReq tag z v) = if z = 0 ∨ 31 < z then none else some z := by
  show numIn 1 1 31 (toBE 1 z) = _
  unfold numIn
  rw [num_byte (by omega)]
  by_cases h : z = 0 ∨ 31 < z
  · rw [if_pos h]
    exact if_neg (by omega)
  · rw [if_neg h]
    exact if_pos (by omega)

theorem sweepClear_outside (hz : z ≤ 255) (h : z = 0 ∨ 31 < z) :
    u.sweepClear (sweepReq tag z v) = (u, refusedWith .badValue) := by
  unfold sweepClear
  rw [keyIn_sweep hz, if_pos h]

section
variable (hz : z ≤ 255) (h : ¬ (z = 0 ∨ 31 < z))
include hz h

theorem sweepClear_badList (hl : sweepList v = none) :
    u.sweepClear (sweepReq tag z v) = (u, refusedWith .badValue) := by
  unfold sweepClear
  rw [keyIn_sweep hz, if_neg h]
  dsimp only [sweepReq, fld]
  rw [hl]

theorem sweepClear_absent (hl : sweepList v = some ps) (hr : u.zone? z = none) :
    u.sweepClear (sweepReq tag z v) = (u, refusedWith .notFound) := by
  unfold sweepClear
  rw [keyIn_sweep hz, if_neg h]
  dsimp only [sweepReq, fld]
  rw [hl]
  refine (if_pos ⟨rfl, rfl⟩).trans ?_
  rw [hr]

theorem sweepClear_found (hl : sweepList v = some ps) (hr : u.zone? z = some r) :
    u.sweepClear (sweepReq tag z v) =
      if r.suspect = true then (u, refusedWith .suspect)
      else if r.freeze ≠ .held then (u, refusedWith .notHeld)
      else u.sweepTests z ps := by
  unfold sweepClear
  rw [keyIn_sweep hz, if_neg h]
  dsimp only [sweepReq, fld]
  rw [hl]
  refine (if_pos ⟨rfl, rfl⟩).trans ?_
  rw [hr]
  simp only [bne_iff_ne]

end

theorem sweepTests_absent (h : ps.find? (fun p => (u.person? p).isNone) = some p) :
    u.sweepTests z ps = (u, refusedFor .notFound p) := by
  unfold sweepTests
  rw [h]

section
variable (h : ps.find? (fun p => (u.person? p).isNone) = none)
include h

theorem sweepTests_elsewhere (he : ps.find? (fun p => u.recordedElsewhere z p) = some p) :
    u.sweepTests z ps = (u, refusedFor .wrongState p) := by
  unfold sweepTests
  rw [h]
  dsimp only
  rw [he]

/-- What the covering agent does after a sweep (R118). -/
def sweepFollowed (w : State) (z : Nat) : State := (w.coveringAgent z).elim w (fun a => w.recompute a)

theorem sweepTests_room (he : ps.find? (fun p => u.recordedElsewhere z p) = none) : u.sweepTests z ps =
    if u.freeSlots + (u.sweptOut z ps).length < (u.sweptIn z ps).length then (u, refusedWith .full)
    else (((u.sweepZone z ps).settle).sweepFollowed z,
      okWith [fldN 241 2 (u.sweptOut z ps).length, fldN 242 1 (u.sweptIn z ps).length]) := by
  unfold sweepTests sweepFollowed
  rw [h]
  dsimp only
  rw [he]
  refine if_congr Iff.rfl rfl ?_
  cases (u.sweepZone z ps).settle.coveringAgent z <;> simp only [Option.elim_none, Option.elim_some]

end

end

end State

open State in
/-- Settles O25. -/
theorem sweepClearTakes : Obligations.SweepClearTakes := by
  unfold Obligations.SweepClearTakes
  refine ⟨fun s tag z v hs hz => ?request, sweepList_iff, fun s z ps => ?records, fun s i => lowestSlot_iff,
    fun s z ps => ⟨fun r => sweepZone_verified, sweepZone_cleared s z ps⟩⟩
  case records => rfl
  case request =>
    intro u named
    have hno : ∀ c, c ≠ .ok → (Host.Outcome.next (answered tag (u, refusedWith c)) : Outcome) = .next (u.answeredNo tag c) :=
      fun c hc => congrArg _ (answered_no tag u hc)
    have hfor : ∀ c p, c ≠ .ok → (Host.Outcome.next (answered tag (u, refusedFor c p)) : Outcome) = .next (named c p) :=
      fun c p hc => congrArg _ (answered_not tag u hc)
    show Host.Outcome.next (s.serveWrite (sweepReq tag z v) State.sweepClear) = _
    rw [serveWrite_answered hs (ids_one _)]
    show Host.Outcome.next (answered tag (u.sweepClear (sweepReq tag z v))) = _
    by_cases hout : z = 0 ∨ 31 < z
    · rw [sweepClear_outside hz hout]
      cases hl : sweepList v with
      | none => exact hno _ nofun
      | some ps => exact (hno .badValue nofun).trans (congrArg _ (if_pos hout).symm)
    cases hl : sweepList v with
    | none =>
      rw [sweepClear_badList hz hout hl]
      exact hno _ nofun
    | some ps =>
      dsimp only
      rw [if_neg hout]
      cases hr : u.zone? z with
      | none =>
        rw [sweepClear_absent hz hout hl hr]
        exact hno _ nofun
      | some r =>
        rw [sweepClear_found hz hout hl hr]
        dsimp only
        by_cases hsus : r.suspect = true
        · rw [if_pos hsus, if_pos hsus]
          exact hno _ nofun
        by_cases hheld : r.freeze ≠ .held
        · rw [if_neg hsus, if_neg hsus, if_pos hheld, if_pos hheld]
          exact hno _ nofun
        rw [if_neg hsus, if_neg hsus, if_neg hheld, if_neg hheld]
        cases hp : ps.find? (fun p => (u.person? p).isNone) with
        | some p =>
          rw [sweepTests_absent hp]
          exact hfor _ p nofun
        | none =>
          dsimp only
          cases he : ps.find? (fun p => u.occ.recs.any (fun q => q.2.person = p && q.2.zone != z)) with
          | some p =>
            rw [sweepTests_elsewhere hp (by exact he)]
            exact hfor _ p nofun
          | none =>
            rw [sweepTests_room hp (by exact he)]
            dsimp only
            by_cases hroom : u.freeSlots + (u.sweptOut z ps).length < (u.sweptIn z ps).length
            · rw [if_pos hroom]
              exact (hno .full nofun).trans (congrArg _ (if_pos hroom).symm)
            · rw [if_neg hroom, answered_ok]
              refine Eq.trans ?_ (congrArg Host.Outcome.next (if_neg hroom).symm)
              unfold sweepFollowed
              cases (u.sweepZone z ps).settle.coveringAgent z <;> simp only [Option.elim_none, Option.elim_some] <;> rfl

end Sys2Proof.Machine

/-! ## What a warm restart leaves (R133): the counterexample of a logic table that writes a derived input -/

namespace Sys2Proof.Machine

/-- The counterexample of O10 with an empty queue, at its warm restart. -/
theorem strayRestart_warm : ((strayRestart.setPending []).warmRestart.agent 0).state = .countdown := by
  have hstart : (strayRestart.setPending []).start = (strayRestart.setPending []).warmRestart := if_pos rfl
  obtain ⟨hstate, _, _⟩ := strayRestart_restarts
  rw [← hstart]
  exact hstate

/-- Refutes O57: an agent that a warm restart finds in COUNTDOWN is brought to NORMAL, and the settling at the end of the
restart begins a release again, since the logic table of the agent writes a derived input, which `TablesRising` and
`DuressFirst` do not exclude. -/
theorem not_warmRestartLeaves : ¬ Obligations.WarmRestartLeaves := by
  intro h
  have hrising : (strayRestart.setPending []).TablesRising :=
    ⟨by decide, by decide, by decide, by decide, by decide, by decide, by decide⟩
  obtain ⟨_, _, _, _, _, _, _, _, _, hagents⟩ := h (strayRestart.setPending []) hrising strayRestart_duress
  obtain ⟨hstate, _⟩ := hagents 0 (by decide)
  have hbefore : ((strayRestart.setPending []).agent 0).state = .countdown := congrArg AgentRec.state (strayRestart_agent 0)
  rw [strayRestart_warm, hbefore] at hstate
  cases hstate

end Sys2Proof.Machine

/-! ## Starts (10.1 to 10.4 R178 to R180): what they leave of the clock, the Host Port and the queue -/

namespace Sys2Proof.Machine

namespace State

/-! ### Damage leaves the queue -/

/-- No damage reaches the queue or the counter of free values. -/
theorem damageOne_queue (s : State) (d : Damage) :
    (s.damageOne d).pending = s.pending ∧ (s.damageOne d).free = s.free := by
  cases d with
  | person k c => unfold damageOne; dsimp only; split <;> exact ⟨rfl, rfl⟩
  | grant k c => unfold damageOne; dsimp only; split <;> exact ⟨rfl, rfl⟩
  | _ => exact ⟨rfl, rfl⟩

theorem applyDamages_queue (s : State) (ds : List Damage) :
    (s.applyDamages ds).pending = s.pending ∧ (s.applyDamages ds).free = s.free := by
  unfold applyDamages
  induction ds generalizing s with
  | nil => exact ⟨rfl, rfl⟩
  | cons d ds ih =>
    obtain ⟨hpending, hfree⟩ := ih (s.damageOne d)
    obtain ⟨hp, hf⟩ := s.damageOne_queue d
    exact ⟨hpending.trans hp, hfree.trans hf⟩

/-! ### The kind of a start -/

/-- The cold start of a part with this queue and this counter of free values (R179). -/
def coldOf (s : State) : State := (State.reset.setPending s.pending).setFree s.free

/-- A start of a part whose queue and counter are those of `s` (R178). -/
theorem start_eq {s u : State} (h : u.pending = s.pending ∧ u.free = s.free) :
    u.start = if u.ret.marker = true ∧ u.ret.markerCheck = true then u.warmRestart else s.coldOf := by
  obtain ⟨hpending, hfree⟩ := h
  have hcold : u.coldStart = s.coldOf := by
    unfold coldStart coldOf
    rw [hpending, hfree]
  unfold start markerValid
  rw [hcold]
  simp only [Bool.and_eq_true]

/-- A start after a supply event with retention held (R178). -/
theorem supplyStart_held (s : State) (ds : List Damage) :
    s.supplyStart true ds =
      if (s.loseLive.applyDamages ds).ret.marker = true ∧ (s.loseLive.applyDamages ds).ret.markerCheck = true
      then (s.loseLive.applyDamages ds).warmRestart else s.coldOf :=
  start_eq (s.loseLive.applyDamages_queue ds)

/-- After a loss of the retention supply the marker is invalid, and the start is cold (R178). -/
theorem supplyStart_lost (s : State) (ds : List Damage) : s.supplyStart false ds = s.coldOf := by
  unfold supplyStart
  rw [if_neg Bool.false_ne_true, start_eq (s := s) (u := s.loseRetention) ⟨rfl, rfl⟩]
  exact if_neg (fun h => Bool.false_ne_true h.1)

theorem exec_restart {s : State} (h : s.portTakes = true) (tag : Byte) :
    exec (.restart (bareReq tag)) s =
      .next (if s.writeTaken.ret.marker = true ∧ s.writeTaken.ret.markerCheck = true then s.writeTaken.warmRestart
        else s.coldOf) := by
  show Host.Outcome.next (s.restartRequest (bareReq tag)) = _
  unfold restartRequest
  rw [takeWrite_taken h]
  exact congrArg Host.Outcome.next (start_eq ⟨rfl, rfl⟩)

/-! ### What a loss of the main supply leaves -/

theorem loseLive_door (s : State) (d : Nat) : s.loseLive.door? d = (s.door? d).map restarted :=
  Table.find_map s.door.doors (fun _ r => restarted r) d

theorem loseLive_agent (s : State) (a : Nat) : s.loseLive.agent a = retainedAgent (s.agent a) :=
  mapVec_read retainedAgent s.rel.agents _ rfl a

/-! ### What a warm restart with nothing to find leaves -/

theorem markFailed_ret {s : State} (h : s.ret.calendarOk = true) : s.markFailed.ret = s.ret := by
  have hret : s.markFailed.ret =
      { s.ret with calendar := if s.ret.calendarOk then s.ret.calendar else none, calendarOk := true } := by
    unfold markFailed
    rw [markZones_eq]
    rfl
  obtain ⟨door, adm, occ, rel, alm, link, host, ret, free, pending⟩ := s
  obtain ⟨⟩ := ret
  cases h
  exact hret

theorem markFailed_port (s : State) : s.markFailed.host = s.host ∧ s.markFailed.pending = s.pending := by
  unfold markFailed
  rw [markZones_eq]
  exact ⟨rfl, rfl⟩

/-- The calendar of a part in which every item agrees does. -/
theorem calendarOk_of_intact {s : State} (h : s.intact = true) : s.ret.calendarOk = true := by
  unfold intact at h
  simp only [Bool.and_eq_true] at h
  obtain ⟨⟨⟨_, hcalendar⟩, _⟩, _⟩ := h
  exact hcalendar

/-- The blocks as the warm restart leaves them before its last step, which is the clock's (R180). -/
def blocksRestarted (s : State) : State :=
  s.fullCheck.restartDoors.restartAdmission.restartLink.restartAlarmUnit.restartOccupancy.restartRelease

theorem warmRestart_eq (s : State) : s.warmRestart = s.blocksRestarted.restartClock.restartHost.finish := by
  unfold warmRestart blocksRestarted
  rfl

/-- The blocks change nothing of the clock, the Host Port and the queue. -/
theorem blocksRestarted_steady (s : State) : Steady none s.markFailed s.blocksRestarted := by
  have hcheck : Steady none s.markFailed s.fullCheck :=
    ((Steady.refl _).testPersons _).foldl (fun _ k ht => ht.testGrant k) _ |>.tellFailed _
  exact hcheck.trans
    (Steady.refl _).restartDoors.restartAdmission.restartLink.restartAlarmUnit.restartOccupancy.restartRelease

/-- The clock's step of a warm restart (R180 step 4). -/
theorem restartClock_steady (s : State) :
    Steady none (s.setRet { s.ret with base := 0, sweep := (0, 0) }) s.restartClock := by
  unfold restartClock
  dsimp only
  split
  · exact (Steady.refl _).raiseClockUnset
  · exact Steady.refl _

theorem warmRestart_intact {s : State} (h : s.intact = true) :
    s.warmRestart.ret = { s.ret with base := 0, sweep := (0, 0) } ∧
      s.warmRestart.host = { s.host with port := .idle, buffer := none, overrun := false, resetSeen := true } ∧
      s.warmRestart.pending = s.pending := by
  have hmarks := markFailed_ret (calendarOk_of_intact h)
  obtain ⟨hhost, hpending⟩ := markFailed_port s
  have hblocks := blocksRestarted_steady s
  have hclock := restartClock_steady s.blocksRestarted
  have hend : Steady none s.blocksRestarted.restartClock.restartHost s.warmRestart :=
    s.warmRestart_eq ▸ (Steady.refl _).finish
  generalize s.blocksRestarted = t at hblocks hclock hend
  refine ⟨?ret, ?host, ?pending⟩
  case ret =>
    calc s.warmRestart.ret = t.restartClock.ret := hend.ret
      _ = { t.ret with base := 0, sweep := (0, 0) } := hclock.ret
      _ = { s.ret with base := 0, sweep := (0, 0) } := by rw [hblocks.ret, hmarks]
  case host =>
    have hport : t.restartClock.host = s.host := (hclock.host.trans hblocks.host).trans hhost
    calc s.warmRestart.host = t.restartClock.restartHost.host := hend.host
      _ = { s.host with port := .idle, buffer := none, overrun := false, resetSeen := true } :=
        congrArg (fun u : HostUnit => { u with port := .idle, buffer := none, overrun := false, resetSeen := true }) hport
  case pending =>
    exact ((hend.pending.trans hclock.pending).trans hblocks.pending).trans hpending

end State

open State in
/-- Settles O56: damage and the losses leave the queue, the marker decides the kind, and every block's restart is steady
(`blocksRestarted_steady`). -/
theorem startsByMarker : Obligations.StartsByMarker := by
  unfold Obligations.StartsByMarker
  refine ⟨fun s tag ds => ⟨fun h => exec_restart h tag, ?reset, ?dipHeld, ?restoredHeld, ?dipLost, ?restoredLost⟩,
    fun s => ⟨rfl, rfl, rfl, rfl, rfl, s.loseLive_door, fun a => ?agent⟩, fun _ h => warmRestart_intact h⟩
  case reset => exact congrArg Host.Outcome.next (start_eq (s.applyDamages_queue ds))
  case dipHeld => exact congrArg Host.Outcome.next (s.supplyStart_held ds)
  case restoredHeld => exact congrArg Host.Outcome.next (s.supplyStart_held ds)
  case dipLost => exact congrArg Host.Outcome.next (s.supplyStart_lost ds)
  case restoredLost => exact congrArg Host.Outcome.next (s.supplyStart_lost ds)
  case agent =>
    rw [s.loseLive_agent a]
    exact ⟨rfl, rfl, rfl, rfl⟩

end Sys2Proof.Machine

/-! ## The check sweep (10.4 R181): damage, the visit of an item of each table, and what its raise reads -/

namespace Sys2Proof.Machine

namespace State

/-! ### What a raise of RECORD_SUSPECT reads -/

/-- What a raise reads is in the Alarm Unit, and nothing else changes by it. -/
theorem readForRaise_setAlm (s : State) : s.readForRaise = s.setAlm s.readForRaise.alm := by
  unfold readForRaise
  dsimp only
  split <;> split <;> rfl

/-- The records that fail are no matter of the limit and of the route entries. -/
theorem testedRecords_routing (u : AlarmUnit) (now : Nat) :
    (testedRecords u now).limitSuspect = u.limitSuspect ∧ (testedRecords u now).limitOk = u.limitOk ∧
      (testedRecords u now).routes = u.routes := by
  unfold testedRecords
  dsimp only
  rw [foldl_fail_eq]
  exact ⟨rfl, rfl, rfl⟩

/-- The route limit tested after the records, by the mark and the check value that it had. -/
theorem testedLimit_testedRecords (u : AlarmUnit) (now : Nat) :
    testedLimit (testedRecords u now) =
      { testedRecords u now with limitSuspect := u.limitSuspect || !u.limitOk, limitOk := true } := by
  obtain ⟨hsuspect, hok, _⟩ := testedRecords_routing u now
  unfold testedLimit
  rw [hsuspect, hok]

/-- The Alarm Unit with the records and the route limit read. -/
def limitRead (s : State) : AlarmUnit :=
  { testedRecords s.alm s.now with limitSuspect := s.alm.limitSuspect || !s.alm.limitOk, limitOk := true }

/-- The raise for a route limit that failed (R153). -/
def toldLimit (s : State) (ok : Bool) : State := if ok then s else s.raiseSuspect .route 32

/-- With the number of RECORD_SUSPECT at or above the limit in force its entry is not read (R137). -/
theorem readForRaise_above {s : State} (h : s.limitRead.limitInForce ≤ 18) :
    s.readForRaise = (s.setAlm s.limitRead).toldLimit s.alm.limitOk := by
  have hbeyond : s.limitRead.beyondLimit .recordSuspect = true := decide_eq_true h
  have hread : testedLimit s.readAlarms.alm = s.limitRead := testedLimit_testedRecords _ _
  unfold readForRaise readRoute
  rw [hread]
  dsimp only
  rw [if_pos hbeyond, if_pos (by rw [hbeyond]; rfl)]
  rfl

/-- Below the limit in force the entry of RECORD_SUSPECT is tested too (R137, R153). -/
theorem readForRaise_below {s : State} (h : 18 < s.limitRead.limitInForce) :
    s.readForRaise =
      if (s.alm.routeRec 18).checkOk then
        (s.setAlm { s.limitRead with
          routes := s.limitRead.routes.setIfInBounds 18 (testedRoute (s.alm.routeRec 18)) }).toldLimit s.alm.limitOk
      else ((s.setAlm { s.limitRead with
          routes := s.limitRead.routes.setIfInBounds 18 (testedRoute (s.alm.routeRec 18)) }).toldLimit
            s.alm.limitOk).raiseSuspect .route 18 := by
  have hbeyond : s.limitRead.beyondLimit .recordSuspect = false := decide_eq_false (Nat.not_le.2 h)
  have hread : testedLimit s.readAlarms.alm = s.limitRead := testedLimit_testedRecords _ _
  have hentry : s.limitRead.routeRec 18 = s.alm.routeRec 18 := by
    obtain ⟨_, _, hroutes⟩ := testedRecords_routing s.alm s.now
    unfold AlarmUnit.routeRec
    rw [show s.limitRead.routes = s.alm.routes from hroutes]
  have hrouted : readRoute s.limitRead .recordSuspect =
      { s.limitRead with routes := s.limitRead.routes.setIfInBounds 18 (testedRoute (s.alm.routeRec 18)) } := by
    unfold readRoute
    rw [if_neg (Bool.eq_false_iff.1 hbeyond), ← hentry]
    rfl
  unfold readForRaise
  rw [hread]
  dsimp only
  rw [hrouted, hbeyond, Bool.false_or]
  rfl

/-! ### The visit of an item -/

/-- The position of the sweep past an item (R181). -/
def sweptPast (u : State) (n k : Nat) : State := u.setRet { u.ret with sweep := (n, k + 1) }

variable {u : State} {n k : Nat}

theorem sweepStep_agrees (h : u.sweepNext = some (n, k)) (hi : u.itemFails (n, k) = false) :
    u.sweepStep = u.sweptPast n k := by
  unfold sweepStep
  rw [h]
  dsimp only
  rw [if_neg (Bool.eq_false_iff.1 hi)]
  rfl

theorem sweepStep_fails (h : u.sweepNext = some (n, k)) (hi : u.itemFails (n, k) = true) :
    u.sweepStep = ((u.sweptPast n k).itemFailed (n, k)).visitEnds := by
  unfold sweepStep
  rw [h]
  dsimp only
  rw [if_pos hi]
  rfl

/-- A record that the raise's reading has left is found as it stood. -/
theorem testPerson_fails {s : State} {p : Nat} {r : PersonRec} (hr : s.person? p = some r) (hc : r.checkOk = false)
    (hs : r.suspect = false) : s.testPerson p = (s.putPerson p { r with suspect := true }).raiseSuspect .person p := by
  unfold testPerson
  rw [hr]
  dsimp only
  rw [hc, hs]
  rfl

theorem testGrant_fails {s : State} {g : Nat} {r : GrantRec} (hr : s.grant? g = some r) (hc : r.checkOk = false)
    (hs : r.suspect = false) : s.testGrant g = (s.putGrant g { r with suspect := true }).raiseSuspect .grant g := by
  unfold testGrant
  rw [hr]
  dsimp only
  rw [hc, hs]
  rfl

theorem itemFailed_person {v : State} {r : PersonRec} (hr : v.person? k = some r) (hc : r.checkOk = false)
    (hs : r.suspect = false) :
    v.itemFailed (0, k) = (v.readForRaise.putPerson k { r with suspect := true }).raiseSuspect .person k := by
  have hread : v.readForRaise.person? k = some r := by
    rw [readForRaise_setAlm]
    exact hr
  exact testPerson_fails hread hc hs

theorem itemFailed_grant {v : State} {r : GrantRec} (hr : v.grant? k = some r) (hc : r.checkOk = false)
    (hs : r.suspect = false) :
    v.itemFailed (1, k) = (v.readForRaise.putGrant k { r with suspect := true }).raiseSuspect .grant k := by
  have hread : v.readForRaise.grant? k = some r := by
    rw [readForRaise_setAlm]
    exact hr
  exact testGrant_fails hread hc hs

theorem itemFailed_zones (v : State) :
    v.itemFailed (2, k) = ((v.occ.zones.filter (fun p => !p.2.checkOk)).map (·.1)).foldl
      (fun w z => w.raiseSuspect .zone z) (v.occ.zones.keys.foldl (fun w z => w.markZone z) v.readForRaise) := by
  have hocc : v.readForRaise.occ = v.occ := by
    rw [readForRaise_setAlm]
    rfl
  show v.readForRaise.readZones = _
  unfold readZones tellTable markZones
  rw [hocc]

theorem itemFailed_cls {v : State} (hc : (v.classRec k).checkOk = false) :
    v.itemFailed (4, k) =
      (v.readForRaise.putClass k { v.classRec k with suspect := true, checkOk := true }).raiseSuspect .cls k := by
  have htested : testedClass (v.classRec k) = { v.classRec k with suspect := true, checkOk := true } :=
    if_neg (Bool.eq_false_iff.1 hc)
  rw [← htested]
  rfl

theorem itemFailed_agent {v : State} (hc : (v.agent k).checkOk = false) :
    v.itemFailed (6, k) =
      (v.readForRaise.putAgent k { v.agent k with suspect := true, checkOk := true }).raiseSuspect .agent k := by
  have htested : testedAgent (v.agent k) = { v.agent k with suspect := true, checkOk := true } :=
    if_neg (Bool.eq_false_iff.1 hc)
  have hagent : v.readForRaise.agent k = v.agent k := by
    rw [readForRaise_setAlm]
    rfl
  show (v.readForRaise.putAgent k (testedAgent (v.readForRaise.agent k))).raiseSuspect .agent k = _
  rw [hagent, htested]

theorem itemFailed_logic {v : State} (hc : (v.logicRec k).checkOk = false) :
    v.itemFailed (7, k) =
      (v.readForRaise.putLogic k { v.logicRec k with suspect := true, checkOk := true }).raiseSuspect .logic k := by
  have htested : testedLogic (v.logicRec k) = { v.logicRec k with suspect := true, checkOk := true } :=
    if_neg (Bool.eq_false_iff.1 hc)
  rw [← htested]
  rfl

/-- A route entry, or under key 32 the limit, that the sweep has found (R153). -/
theorem itemFailed_route {v : State} (hc : v.itemFails (8, k) = true) :
    v.itemFailed (8, k) = ((v.setAlm
      (if k = 32 then { v.alm with limitSuspect := true, limitOk := true }
       else { v.alm with routes := v.alm.routes.setIfInBounds k { v.alm.routeRec k with
         suspect := true, checkOk := true } })).readForRaise).raiseSuspect .route k := by
  have hfailed : routeFailed v.alm k =
      if k = 32 then { v.alm with limitSuspect := true, limitOk := true }
      else { v.alm with routes := v.alm.routes.setIfInBounds k { v.alm.routeRec k with
        suspect := true, checkOk := true } } := by
    unfold routeFailed
    split
    · rfl
    next hk =>
      have hitem : v.itemFails (8, k) = !(v.alm.routeRec k).checkOk := if_neg hk
      rw [hitem, Bool.not_eq_true'] at hc
      have htested : testedRoute (v.alm.routeRec k) = { v.alm.routeRec k with suspect := true, checkOk := true } :=
        if_neg (Bool.eq_false_iff.1 hc)
      rw [htested]
  rw [← hfailed]
  rfl

theorem itemFails_person {r : PersonRec} (hr : u.person? k = some r) : u.itemFails (0, k) = !r.checkOk := by
  simp only [itemFails, hr]

theorem itemFails_grant {r : GrantRec} (hr : u.grant? k = some r) : u.itemFails (1, k) = !r.checkOk := by
  simp only [itemFails, hr]

theorem itemFails_door {r : DoorRec} (hr : u.door? k = some r) : u.itemFails (3, k) = !r.checkOk := by
  simp only [itemFails, hr]

/-! ### Damage of the records -/

theorem damageOne_door {s : State} {d : Nat} {r : DoorRec} (hr : s.door? d = some r) (c : DoorCfg) :
    (s.damageOne (.door d c)).door? d = some { r with cfg := c, checkOk := r.suspect } := by
  show (s.changeDoor d _).door? d = _
  rw [door?_changeDoor, if_pos rfl, hr]
  rfl

theorem damageOne_zone {s : State} {z : Nat} {y : ZoneRec} (hy : s.zone? z = some y) (e : ZoneCfg) :
    (s.damageOne (.zone z e)).zone? z = some { y with
      cfg := e, checkOk := y.suspect,
      orphan := y.orphan || (y.suspect && !reachesRoot s.occ.zones z 33 e.parent) } := by
  show (s.changeZone z _).zone? z = _
  rw [zone?_changeZone, if_pos rfl, hy]
  rfl

theorem damageOne_person {s : State} {k : Nat} {p : PersonRec} (hp : s.person? k = some p) (f : PersonCfg) :
    (s.damageOne (.person k f)).person? k = some { p with cfg := f, checkOk := p.suspect } := by
  have hd : s.damageOne (.person k f) = s.putPerson k { p with cfg := f, checkOk := p.suspect } := by
    unfold damageOne
    dsimp only
    rw [hp]
  rw [hd, person?_putPerson, if_pos rfl]

theorem damageOne_person_alm (s : State) (k : Nat) (f : PersonCfg) : (s.damageOne (.person k f)).alm = s.alm := by
  unfold damageOne
  dsimp only
  split <;> rfl

end State

open State in
/-- Settles O59: the visit of the sweep (`sweepStep_agrees`, `sweepStep_fails`) with what is marked in each table, what a
raise reads, and the damage of a record. -/
theorem checkSweepFinds : Obligations.CheckSweepFinds := by
  unfold Obligations.CheckSweepFinds
  refine ⟨fun s ds n k => ?visit, fun s => ?reads, fun s d z k r c y e p f =>
    ⟨fun h => damageOne_door h c, fun h => damageOne_zone h e, fun h => damageOne_person h f, rfl, rfl,
      damageOne_person_alm s k f⟩, fun s k r _ hr => ?item⟩
  case item =>
    rw [itemFails_door hr, Bool.not_eq_true']
  case reads =>
    intro kept read u
    refine ⟨rfl, fun h => readForRaise_above h, fun h => ?_⟩
    intro r r' t t1
    rw [readForRaise_below h, testedRoute_eq]
    rfl
  case visit =>
    intro u hnext v t told ends
    have hexec : exec (.recordCheckSweep ds) s = .next u.sweepStep := rfl
    refine ⟨fun hi => ?agrees, fun hi => ?fails⟩
    case agrees => exact congrArg Host.Outcome.next (sweepStep_agrees hnext hi)
    case fails =>
      have hstep : ∀ w, v.itemFailed (n, k) = w → exec (.recordCheckSweep ds) s = .next (ends w) := by
        intro w hw
        rw [hexec, sweepStep_fails hnext hi]
        exact congrArg (fun w : State => Host.Outcome.next w.visitEnds) hw
      refine ⟨?_, ?_, ?_, ?_, ?_, ?_, ?_, ?_, ?_, ?_⟩
      · rintro r rfl hr hs
        rw [itemFails_person hr, Bool.not_eq_true'] at hi
        exact hstep _ (itemFailed_person hr hi hs)
      · rintro r rfl hr hs
        rw [itemFails_grant hr, Bool.not_eq_true'] at hi
        exact hstep _ (itemFailed_grant hr hi hs)
      · rintro rfl
        exact hstep _ (itemFailed_zones v)
      · rintro rfl
        exact hstep _ rfl
      · rintro rfl
        exact hstep _ (itemFailed_cls (Bool.not_eq_true' _ ▸ hi))
      · rintro rfl
        exact hstep _ (itemFailed_agent (Bool.not_eq_true' _ ▸ hi))
      · rintro rfl
        exact hstep _ (itemFailed_logic (Bool.not_eq_true' _ ▸ hi))
      · rintro rfl
        exact hstep _ (itemFailed_route hi)
      · rintro (rfl | rfl | rfl) <;> exact hstep _ rfl
      · rintro (rfl | rfl | rfl) <;> exact hstep _ rfl

end Sys2Proof.Machine

/-! ## Requests on zone records (1.2 to 1.7) -/

namespace Sys2Proof.Machine

/-! ### INSERT (R8) -/

/-- The tests of a new zone beneath parent `p` with the default fields, and the zone that R3 makes. -/
theorem makeZone_parent (u : State) (k p : Nat) :
    u.makeZone k { parent := p } false =
      if p ≠ 0 ∧ u.zone? p = none then (u, refusedWith .notFound)
      else if (u.zone? p).map (fun q => q.suspect) = some true then (u, refusedWith .suspect)
      else if ∃ a ∈ u.coveringAgent p, (u.agent a).state ≠ .normal ∧ (u.agent a).state ≠ .unconfigured ∧
          (u.agent a).state ≠ .spent then (u, refusedWith .wrongState)
      else ((u.putZone k { cfg := { parent := p }, hours := computeHours u.ret.calendar { parent := p }, freeze := .held,
                           entry := .opened, verified := false }).raise .unverifiedZone (.zone k) (some k) none,
        okKey 1 k) := by
  have hmap : ∀ a, ((!u.mapMayChange a) = true) ↔ ((u.agent a).state ≠ .normal ∧ (u.agent a).state ≠ .unconfigured ∧
      (u.agent a).state ≠ .spent) := by
    intro a
    unfold State.mapMayChange
    cases (u.agent a).state <;> decide
  unfold State.makeZone
  have hparent : ((p != 0 && (u.zone? p).isNone) = true) ↔ (p ≠ 0 ∧ u.zone? p = none) := by
    rw [Bool.and_eq_true, bne_iff_ne, Option.isNone_iff_eq_none]
  refine if_congr hparent rfl (if_congr ?suspect rfl ((if_neg Bool.false_ne_true).trans (if_congr ?covering rfl rfl)))
  case suspect => cases u.zone? p <;> simp
  case covering => cases u.coveringAgent p <;> simp [← hmap]

theorem insertZone_parent {u : State} {tag : Byte} {k p : Nat} (h1 : 1 ≤ k) (hk : k ≤ 31) (hp : p ≤ 31)
    (hfree : u.zone? k = none) :
    u.insertZone (tableReq tag .zone 1 k [fldN 2 1 p]) =
      if p = k then (u, refusedWith .badValue) else u.makeZone k { parent := p } false := by
  have hfield : State.zoneField ({ parent := 0 }, false) 2 (toBE 1 p) = some ({ parent := p }, false) := by
    show (numIn 1 0 31 (toBE 1 p)).map _ = _
    rw [numIn_byte (Nat.zero_le _) hp (by decide)]
    rfl
  have hcarries : carries [fldN 2 1 p] [2] = true := by
    rw [fldN, carries_one _ _ (by decide)]
    rfl
  unfold State.insertZone
  rw [keyIn_byte h1 hk (by decide)]
  dsimp only
  rw [hfree, show (tableReq tag .zone 1 k [fldN 2 1 p]).fields = [fldN 2 1 p] from rfl, hcarries, fldN,
    foldFields_one _ _ _ _ (by decide), hfield]
  by_cases hpk : p = k <;> simp [hpk]

/-! ### AMEND (R10, R14) -/

theorem amendZone_capacity {u : State} {tag : Byte} {k n : Nat} {r : ZoneRec} (h1 : 1 ≤ k) (hk : k ≤ 31) (hn : n ≤ 255)
    (hr : u.zone? k = some r) :
    u.amendZone (tableReq tag .zone 1 k [fldN 4 1 n]) =
      if r.suspect then (u, imageOf true (zoneImage u k r))
      else (u.putZone k { r with cfg := { r.cfg with capacity := n }, suspect := false, orphan := false, checkOk := true },
        okKey 1 k) := by
  have hfield : State.zoneField (r.cfg, false) 4 (toBE 1 n) = some ({ r.cfg with capacity := n }, false) := by
    show (numIn 1 0 255 (toBE 1 n)).map _ = _
    rw [numIn_byte (Nat.zero_le _) hn (by decide)]
    rfl
  have hcarries : carries [fldN 4 1 n] State.zoneIds = false := by
    rw [fldN, carries_one _ _ (by decide)]
    decide
  have hids : ids [fldN 4 1 n] = [4] := ids_fld _ _ (by decide)
  unfold State.amendZone
  rw [keyIn_byte h1 hk (by decide)]
  dsimp only
  rw [hr, show (tableReq tag .zone 1 k [fldN 4 1 n]).fields = [fldN 4 1 n] from rfl, hcarries]
  dsimp only
  cases hs : r.suspect with
  | true =>
    have himage : u.answerZone k = imageOf true (zoneImage u k r) := by
      unfold State.answerZone
      rw [if_neg (by omega), hr]
      dsimp only
      rw [hs]
    rw [himage]
    rfl
  | false =>
    have hstored : ∀ c, u.storeZone k r c [fldN 4 1 n] =
        u.putZone k { r with cfg := c, suspect := false, orphan := false, checkOk := true } := by
      intro c
      unfold State.storeZone
      rw [hs, hids]
      rfl
    have htests : ∀ c, u.zoneRefusal k c [fldN 4 1 n] = none := by
      intro c
      unfold State.zoneRefusal
      rw [hids]
      rfl
    have hfold : foldFields State.zoneField (r.cfg, false) [fldN 4 1 n] = some ({ r.cfg with capacity := n }, false) :=
      (foldFields_one _ _ _ _ (by decide)).trans hfield
    rw [hfold]
    dsimp only
    rw [htests, hstored]
    rfl

/-! ### RETIRE (R12) -/

theorem retireZone_absent {u : State} {tag : Byte} {k : Nat} (h1 : 1 ≤ k) (hk : k ≤ 31) (hn : u.zone? k = none) :
    u.retireZone (tableReq tag .zone 1 k []) = (u, refusedWith .notFound) := by
  unfold State.retireZone
  rw [keyAlone_byte h1 hk (by decide)]
  dsimp only
  rw [hn]

theorem retireZone_found {u : State} {tag : Byte} {k : Nat} {q : ZoneRec} (h1 : 1 ≤ k) (hk : k ≤ 31)
    (hq : u.zone? k = some q) :
    u.retireZone (tableReq tag .zone 1 k []) =
      if u.zoneReferred k then (u, refusedWith .inUse)
      else if u.occupants k ≠ 0 ∨ u.reservations k ≠ 0 then (u, refusedWith .inZone)
      else if q.freeze ≠ .held then (u, refusedWith .wrongState)
      else (u.dropZone k q, okKey 1 k) := by
  unfold State.retireZone
  rw [keyAlone_byte h1 hk (by decide)]
  dsimp only
  rw [hq]
  simp only [Bool.or_eq_true, bne_iff_ne]

/-- What still refers to a zone (R12 test 3). -/
theorem zoneReferred_iff (u : State) (k : Nat) :
    u.zoneReferred k = true ↔ (∃ q ∈ u.door.doors, q.2.cfg.inner = k) ∨
      (∃ z ∈ u.occ.zones.keys, z ≠ k ∧ u.parentOf z = k) ∨ (∃ a, a < 8 ∧ (u.agent a).cfg.top = some k) ∨
      ∃ q ∈ u.link.stations, q.2.cfg = ⟨.zone, k⟩ := by
  have hagents : State.eight.any (fun a => (u.agent a).cfg.top = some k) = true ↔
      ∃ a, a < 8 ∧ (u.agent a).cfg.top = some k := by
    rw [List.any_eq_true]
    exact exists_congr fun a => and_congr ⟨fun h => by simp [State.eight] at h; omega, fun h => by simp [State.eight]; omega⟩
      decide_eq_true_iff
  have hstation : ∀ c : StationCfg, (c.kind = .zone ∧ c.bound = k) ↔ c = ⟨.zone, k⟩ := by
    rintro ⟨kind, bound⟩
    rw [StationCfg.mk.injEq]
  unfold State.zoneReferred
  rw [Bool.or_eq_true, Bool.or_eq_true, Bool.or_eq_true, hagents, or_assoc, or_assoc]
  simp only [List.any_eq_true, decide_eq_true_eq, Bool.and_eq_true, bne_iff_ne, hstation]

/-- Settles O20: the three requests through their owner. -/
theorem zoneRecords : Obligations.ZoneRecords := by
  intro s tag k hs h1 hk u
  refine ⟨fun p hfree _ hp => ?insert, fun r n hr hn => ?amend, ?retire, zoneReferred_iff u k⟩
  case insert =>
    rw [insert_table hs (State.ids_one _)]
    show Host.Outcome.next (answered tag (u.insertZone _)) = _
    rw [insertZone_parent h1 hk hp hfree, makeZone_parent]
    congr 1
    split_ifs
    · exact answered_no _ _ nofun
    · exact answered_no _ _ nofun
    · exact answered_no _ _ nofun
    · exact answered_no _ _ nofun
    · exact answered_okKey _ _ _ _
  case amend =>
    rw [amend_table hs (State.ids_one _)]
    show Host.Outcome.next (answered tag (u.amendZone _)) = _
    rw [amendZone_capacity h1 hk hn hr]
    congr 1
    split_ifs
    · exact answered_suspect _ _ _
    · exact answered_okKey _ _ _ _
  case retire =>
    rw [retire_table hs]
    show Host.Outcome.next (answered tag (u.retireZone _)) = _
    congr 1
    cases hq : u.zone? k with
    | none =>
      rw [retireZone_absent h1 hk hq]
      exact answered_no _ _ nofun
    | some q =>
      rw [retireZone_found h1 hk hq]
      dsimp only
      split
      · exact answered_no _ _ nofun
      split
      · exact answered_no _ _ nofun
      split
      · exact answered_no _ _ nofun
      · exact answered_okKey _ _ _ _

end Sys2Proof.Machine

/-! ## Requests on door records (2.1): the counterexample of a number that stands twice in the door table -/

namespace Sys2Proof.Machine

/-- An unpaired door at rest into zone 2. -/
def restingDoor : DoorRec := { cfg := { inner := 2, station := 1 }, state := .secured }

/-- A second record under the same number, which no reading finds: it is in RELEASING. -/
def hiddenDoor : DoorRec := { cfg := { inner := 2, station := 1 }, state := .releasing }

/-- The door that is to be the partner, into the parent zone of zone 2. -/
def outerDoor : DoorRec := { cfg := { inner := 1, station := 2 }, state := .secured }

/-- A part whose door table holds number 3 twice. No step makes such a table (`stepKeepsSound`), and the statement does not
exclude it. -/
def doubledDoor : State :=
  (State.reset.setDoor { State.reset.door with doors := [(3, restingDoor), (3, hiddenDoor), (4, outerDoor)] }).setOcc
    { zones := [(1, { cfg := { parent := 0 }, hours := .day }), (2, { cfg := { parent := 1 }, hours := .day })], recs := [] }

/-- The open rights in the door table that a command leaves, in the order of the table. -/
def rightsLeft (o : Outcome) : List Bool :=
  match o with
  | .next s => s.door.doors.map (fun p => p.2.right)
  | _ => []

/-- The hidden record takes the right by its own state, and not by that of the record that is found. -/
theorem doubledDoor_rights :
    rightsLeft (exec (.amend (tableReq 0#8 .door 1 3 [fldN 4 1 4])) doubledDoor) = [false, true, false] := by
  decide +kernel

/-- Refutes O21: the pairing of a door sets the open right of every record under its number, each by its own state, and in a
table that holds a number twice that differs from the right which the record found would have. -/
theorem not_doorRecords : ¬ Obligations.DoorRecords := by
  intro h
  obtain ⟨_, _, hpair, _⟩ := h doubledDoor 0#8 3 (by decide) (by decide)
  have hexec := hpair restingDoor 4 outerDoor (by decide) rfl rfl (by decide) (by decide) (by decide) rfl (by decide)
    (by decide)
  have hrights := doubledDoor_rights
  rw [hexec] at hrights
  exact absurd hrights (by decide +kernel)

end Sys2Proof.Machine

/-! ## Requests on station records (8.1 R155 to R157), and the begin and the end of serving -/

namespace Sys2Proof.Machine

section
variable {u : State} {tag : Byte} {a n : Nat} {r : StationRec} {c : StationCfg} {fs : List Field}

/-! ### The fields and the tests (R155, R156) -/

/-- The fields of a station that a request carries, over what the record holds. -/
def stationDraft (d : State.StationDraft) (fs : List Field) : Option StationCfg :=
  (foldFields State.stationField d fs).bind State.wholeDraft

theorem wholeDraft_inRange {k : StationKind} (h : State.boundInRange ⟨k, n⟩ = true) :
    State.wholeDraft ⟨some k, some n⟩ = some ⟨k, n⟩ := if_pos h

/-- Both fields carried give the station that they name. -/
theorem stationDraft_two (d : State.StationDraft) (k : StationKind) (hn : n < 256) (h : State.boundInRange ⟨k, n⟩ = true) :
    stationDraft d [fldN 2 1 (stationCode k), fldN 3 1 n] = some ⟨k, n⟩ := by
  have hkind : State.stationField d 2 (toBE 1 (stationCode k)) = some { d with kind := some k } := by
    cases k <;> rfl
  have hbound : State.stationField { d with kind := some k } 3 (toBE 1 n) = some ⟨some k, some n⟩ := by
    simp only [State.stationField, num_byte hn, Option.map_some]
  unfold stationDraft fldN
  rw [foldFields_two _ _ (by decide) (by decide) hkind, hbound]
  exact wholeDraft_inRange h

/-- The bound object alone carried keeps the kind. -/
theorem stationDraft_bound (k : StationKind) (b : Option Nat) (hn : n < 256) (h : State.boundInRange ⟨k, n⟩ = true) :
    stationDraft ⟨some k, b⟩ [fldN 3 1 n] = some ⟨k, n⟩ := by
  have hbound : State.stationField ⟨some k, b⟩ 3 (toBE 1 n) = some ⟨some k, some n⟩ := by
    simp only [State.stationField, num_byte hn, Option.map_some]
  unfold stationDraft fldN
  rw [foldFields_one _ _ _ _ (by decide), hbound]
  exact wholeDraft_inRange h

theorem boundRefusal_zone (u : State) (z : Nat) : u.boundRefusal ⟨.zone, z⟩ =
    (u.zone? z).elim (some .notFound) (fun q => if q.suspect then some .suspect else none) := by
  unfold State.boundRefusal
  dsimp only
  cases u.zone? z <;> rfl

theorem boundRefusal_door (u : State) (d : Nat) : u.boundRefusal ⟨.door, d⟩ =
    (u.door? d).elim (some .notFound) (fun q => if q.suspect then some .suspect else none) := by
  unfold State.boundRefusal
  dsimp only
  cases u.door? d <;> rfl

theorem boundTaken_iff (u : State) (a : Nat) {c : StationCfg} (h : c.kind ≠ .zone) :
    u.boundTaken a c = true ↔ ∃ p ∈ u.link.stations, p.1 ≠ a ∧ p.2.cfg = c := by
  unfold State.boundTaken
  simp only [Bool.and_eq_true, bne_iff_ne, List.any_eq_true, decide_eq_true_eq, h, ne_eq, not_false_eq_true, true_and]

/-- At a free address every station is another one. -/
theorem boundTaken_free (hfree : u.station? a = none) (h : c.kind ≠ .zone) :
    u.boundTaken a c = true ↔ ∃ p ∈ u.link.stations, p.2.cfg = c := by
  rw [boundTaken_iff u a h]
  refine exists_congr fun p => and_congr_right fun hp => and_iff_right ?_
  rintro rfl
  exact State.not_mem_of_find_none hfree p.2 hp

theorem stationRefusal_bound {e : Status} (h : u.boundRefusal c = some e) : u.stationRefusal a c = some e := by
  unfold State.stationRefusal
  rw [h]

theorem stationRefusal_taken (h : u.boundRefusal c = none) :
    u.stationRefusal a c = if u.boundTaken a c then some .inUse else none := by
  unfold State.stationRefusal
  rw [h]

theorem stationRefusal_zone {z : Nat} {q : ZoneRec} (hq : u.zone? z = some q) (hs : q.suspect = false) :
    u.stationRefusal a ⟨.zone, z⟩ = none := by
  refine stationRefusal_taken ?_
  rw [boundRefusal_zone, hq, Option.elim_some, if_neg (Bool.eq_false_iff.1 hs)]

theorem boundInRange_zone {z : Nat} (h1 : 1 ≤ z) (hz : z ≤ 31) : State.boundInRange ⟨.zone, z⟩ = true := by
  simp [State.boundInRange, h1, hz]

/-! ### INSERT (R156) -/

theorem insertStation_refused {e : Status} (h1 : 1 ≤ a) (ha : a ≤ 96) (hfree : u.station? a = none)
    (hc : stationDraft {} fs = some c) (he : u.stationRefusal a c = some e) :
    u.insertStation (tableReq tag .station 1 a fs) = (u, refusedWith e) := by
  unfold stationDraft at hc
  unfold State.insertStation
  rw [keyIn_byte h1 ha (by decide)]
  dsimp only
  rw [hfree, show (tableReq tag .station 1 a fs).fields = fs from rfl, hc]
  dsimp only
  rw [he]
  rfl

theorem insertStation_made (h1 : 1 ≤ a) (ha : a ≤ 96) (hfree : u.station? a = none)
    (hc : stationDraft {} fs = some c) (he : u.stationRefusal a c = none) :
    u.insertStation (tableReq tag .station 1 a fs) =
      ((u.putStation a (State.freshStation c)).syncServing, okKey 1 a) := by
  unfold stationDraft at hc
  unfold State.insertStation
  rw [keyIn_byte h1 ha (by decide)]
  dsimp only
  rw [hfree, show (tableReq tag .station 1 a fs).fields = fs from rfl, hc]
  dsimp only
  rw [he]
  rfl

/-! ### AMEND (R156) -/

theorem amendStation_tested (h1 : 1 ≤ a) (ha : a ≤ 96) (hr : u.station? a = some r) (hs : r.suspect = false)
    (hc : stationDraft ⟨some r.cfg.kind, some r.cfg.bound⟩ fs = some c) :
    u.amendStation (tableReq tag .station 1 a fs) = u.amendTests a r c := by
  unfold stationDraft at hc
  unfold State.amendStation
  rw [keyIn_byte h1 ha (by decide)]
  dsimp only
  rw [hr, show (tableReq tag .station 1 a fs).fields = fs from rfl]
  dsimp only
  rw [hs, hc]
  rfl

theorem amendTests_refused {e : Status} (he : u.stationRefusal a c = some e) :
    u.amendTests a r c = (u, refusedWith e) := by
  unfold State.amendTests
  rw [he]

theorem amendTests_free (he : u.stationRefusal a c = none) :
    u.amendTests a r c = if u.boundBusy r.cfg || u.boundBusy c then (u, refusedWith .wrongState)
      else (u.rewriteStation a r c, okKey 1 a) := by
  unfold State.amendTests
  rw [he]

theorem boundBusy_iff (u : State) (c : StationCfg) :
    u.boundBusy c = true ↔ c.kind = .agent ∧ State.inRelease (u.agent c.bound).state = true := by
  unfold State.boundBusy
  rw [Bool.and_eq_true, decide_eq_true_eq]

theorem boundBusy_other (u : State) {c : StationCfg} (h : c.kind ≠ .agent) : u.boundBusy c = false :=
  Bool.eq_false_iff.2 fun hb => h ((boundBusy_iff u c).1 hb).1

/-- A zone station serves no owner that is told of its silence. -/
theorem endServing_zone (u : State) (l : Link) {c : StationCfg} (h : c.kind = .zone) : u.endServing l c = u := by
  unfold State.endServing State.tellSilence
  rw [h]
  exact ite_self u

theorem rewriteStation_zone (hs : r.suspect = false) (hk : r.cfg.kind = .zone) :
    u.rewriteStation a r c = (u.putStation a (State.freshStation c)).syncServing := by
  unfold State.rewriteStation
  rw [endServing_zone u r.link hk, hs, ite_self]
  rfl

/-! ### RETIRE (R156) -/

theorem retireStation_found (h1 : 1 ≤ a) (ha : a ≤ 96) (hr : u.station? a = some r) :
    u.retireStation (tableReq tag .station 1 a []) =
      if u.boundBusy r.cfg then (u, refusedWith .wrongState) else (u.dropStation a r, okKey 1 a) := by
  unfold State.retireStation
  rw [keyAlone_byte h1 ha (by decide)]
  dsimp only
  rw [hr]

/-- The owner of the object that a retired station serves takes a silence, unless it has taken one (R157). -/
theorem dropStation_ends (u : State) (a : Nat) (r : StationRec) :
    (if u.serves a r then u.endServing r.link r.cfg else u) =
      if u.serves a r = true ∧ r.link ≠ .silent then u.tellSilence r.cfg else u := by
  unfold State.endServing
  by_cases hserves : u.serves a r = true <;> by_cases hlink : r.link = .silent <;> simp [hserves, hlink]

/-! ### Serving (R157, R166) -/

theorem tellServing_begins (hn : r.serving = none) (hs : u.serves a r = true) : u.tellServing (a, r) =
    u.changeStation a (fun st => { st with link := .awaiting, missed := 0, serving := some st.cfg }) := by
  unfold State.tellServing
  dsimp only
  rw [hn, hs]
  rfl

theorem tellServing_ends (hc : r.serving = some c) (hs : u.serves a r = false) : u.tellServing (a, r) =
    (if r.link = .silent then u else u.tellSilence c).changeStation a (fun st =>
      { st with serving := none, link := if st.suspect then .silent else st.link }) := by
  unfold State.tellServing
  dsimp only
  rw [hc, hs]
  rfl

end

/-! ### The statement -/

section
variable {s : State} {tag : Byte} {a : Nat} {fs : List Field} {x : State × Answer}

theorem ids_kindBound (k n : Nat) : (ids [fldN 2 1 k, fldN 3 1 n]).Nodup :=
  ids_two _ _ (by decide) (by decide) (by decide)

theorem insert_station_refused {k n : Nat} {c : StationCfg} {e : Status} (hs : s.portTakes = true) (h1 : 1 ≤ a)
    (ha : a ≤ 96) (hfree : s.asked.station? a = none) (hc : stationDraft {} [fldN 2 1 k, fldN 3 1 n] = some c)
    (he : s.asked.stationRefusal a c = some e) (hne : e ≠ .ok) :
    exec (.insert (tableReq tag .station 1 a [fldN 2 1 k, fldN 3 1 n])) s = .next (s.asked.answeredNo tag e) := by
  rw [insert_table hs (ids_kindBound k n)]
  show Host.Outcome.next (answered tag (s.asked.insertStation _)) = _
  rw [insertStation_refused h1 ha hfree hc he, answered_no _ _ hne]

theorem insert_station_made {k n : Nat} {c : StationCfg} (hs : s.portTakes = true) (h1 : 1 ≤ a)
    (ha : a ≤ 96) (hfree : s.asked.station? a = none) (hc : stationDraft {} [fldN 2 1 k, fldN 3 1 n] = some c)
    (he : s.asked.stationRefusal a c = none) :
    exec (.insert (tableReq tag .station 1 a [fldN 2 1 k, fldN 3 1 n])) s =
      .next (((s.asked.putStation a (State.freshStation c)).syncServing).answeredOk tag [fldN 0 1 a]) := by
  rw [insert_table hs (ids_kindBound k n)]
  show Host.Outcome.next (answered tag (s.asked.insertStation _)) = _
  rw [insertStation_made h1 ha hfree hc he, answered_okKey]

theorem amend_station (hs : s.portTakes = true) (hfs : (ids fs).Nodup)
    (h : s.asked.amendStation (tableReq tag .station 1 a fs) = x) :
    exec (.amend (tableReq tag .station 1 a fs)) s = .next (answered tag x) :=
  (amend_table hs hfs).trans (congrArg (fun y => Host.Outcome.next (answered tag y)) h)

theorem retire_station (hs : s.portTakes = true) (h : s.asked.retireStation (tableReq tag .station 1 a []) = x) :
    exec (.retire (tableReq tag .station 1 a [])) s = .next (answered tag x) :=
  (retire_table hs).trans (congrArg (fun y => Host.Outcome.next (answered tag y)) h)

end

open State in
/-- Settles O22: INSERT, AMEND and RETIRE by the tests of their owner, and the two changes of serving. -/
theorem stationRecords : Obligations.StationRecords := by
  intro s tag a hs h1 ha u
  have hdoor : ∀ d, (⟨.door, d⟩ : StationCfg).kind ≠ .zone := fun _ => nofun
  have hagent : ∀ n, (⟨.agent, n⟩ : StationCfg).kind ≠ .zone := fun _ => nofun
  refine ⟨fun z hfree hz1 hz => ?zone, fun d hfree hd => ?door, fun n hfree hn => ?agent, fun r n hr hsus hk hn => ?toAgent,
    fun r hr hsus hbusy => ⟨?retireBusy, fun z q hq hqs hz1 hz => ?amendBusy⟩, fun r z q hr hsus hk hq hqs hz1 hz => ?toZone,
    fun r hr hbusy => ?retire, fun r hn hserves => tellServing_begins hn hserves,
    fun r c hc hserves => tellServing_ends hc hserves⟩
  case zone =>
    have hdraft : stationDraft {} [fldN 2 1 1, fldN 3 1 z] = some ⟨.zone, z⟩ :=
      stationDraft_two {} .zone (by omega : z < 256) (boundInRange_zone hz1 hz)
    cases hq : u.zone? z with
    | none =>
      have href : u.stationRefusal a ⟨.zone, z⟩ = some .notFound :=
        stationRefusal_bound (by rw [boundRefusal_zone, hq, Option.elim_none])
      exact insert_station_refused hs h1 ha hfree hdraft href nofun
    | some q =>
      dsimp only
      split
      next hqs =>
        have href : u.stationRefusal a ⟨.zone, z⟩ = some .suspect :=
          stationRefusal_bound (by rw [boundRefusal_zone, hq, Option.elim_some, if_pos hqs])
        exact insert_station_refused hs h1 ha hfree hdraft href nofun
      next hqs =>
        exact insert_station_made hs h1 ha hfree hdraft (stationRefusal_zone hq (Bool.eq_false_iff.2 hqs))
  case door =>
    have hdraft : stationDraft {} [fldN 2 1 0, fldN 3 1 d] = some ⟨.door, d⟩ :=
      stationDraft_two {} .door (by omega : d < 256) (decide_eq_true hd)
    cases hq : u.door? d with
    | none =>
      have href : u.stationRefusal a ⟨.door, d⟩ = some .notFound :=
        stationRefusal_bound (by rw [boundRefusal_door, hq, Option.elim_none])
      exact insert_station_refused hs h1 ha hfree hdraft href nofun
    | some q =>
      dsimp only
      split
      next hqs =>
        have href : u.stationRefusal a ⟨.door, d⟩ = some .suspect :=
          stationRefusal_bound (by rw [boundRefusal_door, hq, Option.elim_some, if_pos hqs])
        exact insert_station_refused hs h1 ha hfree hdraft href nofun
      next hqs =>
        have htests : u.stationRefusal a ⟨.door, d⟩ = if u.boundTaken a ⟨.door, d⟩ then some .inUse else none :=
          stationRefusal_taken (by rw [boundRefusal_door, hq, Option.elim_some, if_neg hqs])
        split
        next htaken =>
          rw [if_pos ((boundTaken_free hfree (hdoor d)).2 htaken)] at htests
          exact insert_station_refused hs h1 ha hfree hdraft htests nofun
        next htaken =>
          rw [if_neg (mt (boundTaken_free hfree (hdoor d)).1 htaken)] at htests
          exact insert_station_made hs h1 ha hfree hdraft htests
  case agent =>
    have hdraft : stationDraft {} [fldN 2 1 2, fldN 3 1 n] = some ⟨.agent, n⟩ :=
      stationDraft_two {} .agent (by omega : n < 256) (decide_eq_true hn)
    have htests : u.stationRefusal a ⟨.agent, n⟩ = if u.boundTaken a ⟨.agent, n⟩ then some .inUse else none :=
      stationRefusal_taken rfl
    split
    next htaken =>
      rw [if_pos ((boundTaken_free hfree (hagent n)).2 htaken)] at htests
      exact insert_station_refused hs h1 ha hfree hdraft htests nofun
    next htaken =>
      rw [if_neg (mt (boundTaken_free hfree (hagent n)).1 htaken)] at htests
      exact insert_station_made hs h1 ha hfree hdraft htests
  case toAgent =>
    have hdraft : stationDraft ⟨some r.cfg.kind, some r.cfg.bound⟩ [fldN 2 1 2, fldN 3 1 n] = some ⟨.agent, n⟩ :=
      stationDraft_two _ .agent (by omega : n < 256) (decide_eq_true hn)
    have htests : u.stationRefusal a ⟨.agent, n⟩ = if u.boundTaken a ⟨.agent, n⟩ then some .inUse else none :=
      stationRefusal_taken rfl
    have hstands : u.boundBusy r.cfg = false := boundBusy_other u (by rw [hk]; nofun)
    rw [amend_station hs (ids_kindBound _ _) (amendStation_tested h1 ha hr hsus hdraft)]
    split
    next htaken =>
      rw [if_pos ((boundTaken_iff u a (hagent n)).2 htaken)] at htests
      rw [amendTests_refused htests]
      exact congrArg Host.Outcome.next (answered_no _ _ nofun)
    next htaken =>
      rw [if_neg (mt (boundTaken_iff u a (hagent n)).1 htaken)] at htests
      have hbusy : u.boundBusy ⟨.agent, n⟩ = inRelease (u.agent n).state := Bool.true_and _
      rw [amendTests_free htests, hstands, Bool.false_or, hbusy, rewriteStation_zone hsus hk]
      congr 1
      split
      · exact answered_no _ _ nofun
      · exact answered_okKey _ _ _ _
  case retireBusy =>
    rw [retire_station hs ((retireStation_found h1 ha hr).trans (if_pos ((boundBusy_iff u r.cfg).2 hbusy)))]
    exact congrArg Host.Outcome.next (answered_no _ _ nofun)
  case amendBusy =>
    have hdraft : stationDraft ⟨some r.cfg.kind, some r.cfg.bound⟩ [fldN 2 1 1, fldN 3 1 z] = some ⟨.zone, z⟩ :=
      stationDraft_two _ .zone (by omega : z < 256) (boundInRange_zone hz1 hz)
    rw [amend_station hs (ids_kindBound _ _) (amendStation_tested h1 ha hr hsus hdraft),
      amendTests_free (stationRefusal_zone hq hqs), (boundBusy_iff u r.cfg).2 hbusy]
    exact congrArg Host.Outcome.next (answered_no _ _ nofun)
  case toZone =>
    have hdraft : stationDraft ⟨some r.cfg.kind, some r.cfg.bound⟩ [fldN 3 1 z] = some ⟨.zone, z⟩ := by
      rw [hk]
      exact stationDraft_bound .zone _ (by omega) (boundInRange_zone hz1 hz)
    have hstands : u.boundBusy r.cfg = false := boundBusy_other u (by rw [hk]; nofun)
    rw [amend_station hs (ids_one _) (amendStation_tested h1 ha hr hsus hdraft),
      amendTests_free (stationRefusal_zone hq hqs), hstands, boundBusy_other u (c := ⟨.zone, z⟩) nofun,
      rewriteStation_zone hsus hk]
    exact congrArg Host.Outcome.next (answered_okKey _ _ _ _)
  case retire =>
    intro v w x y
    rw [retire_station hs ((retireStation_found h1 ha hr).trans (if_neg (mt (boundBusy_iff u r.cfg).1 hbusy))), answered_okKey]
    have hdrop : u.dropStation a r = if r.suspect then y.endAlarm .recordSuspect (.record .station a) else y := by
      have hv : (if u.serves a r then u.endServing r.link r.cfg else u) = v := dropStation_ends u a r
      have hvoid : w.voidExchange a = x := by
        unfold voidExchange
        dsimp only [x]
        cases w.link.exchange <;> rfl
      unfold dropStation
      rw [hv]
      show (if r.suspect then ((w.voidExchange a).withdraw (.station a)).endSuspect .station a
        else (w.voidExchange a).withdraw (.station a)) = _
      rw [hvoid]
      rfl
    rw [hdrop]

end Sys2Proof.Machine

/-! ## Requests on agent records (6.1 R108, 6.6 R132) -/

namespace Sys2Proof.Machine

section
variable {u : State} {tag : Byte} {a n : Nat} {fs : List Field} {c : AgentCfg}

theorem putAgent_putAgent (u : State) (a : Nat) (r q : AgentRec) : (u.putAgent a r).putAgent a q = u.putAgent a q := by
  unfold State.putAgent
  simp

/-- An edit of a record just stored. -/
theorem changeAgent_putAgent (ha : a < 8) (r : AgentRec) (f : AgentRec → AgentRec) :
    (u.putAgent a r).changeAgent a f = u.putAgent a (f r) := by
  unfold State.changeAgent
  rw [State.agent_putAgent_self ha, putAgent_putAgent]

/-! ### The tests (R108, R174) -/

/-- A suspect agent is not amended but whole (R132). -/
theorem amendAgent_suspect (ha : a ≤ 7) (hs : (u.agent a).suspect = true) (hc : carries fs State.agentIds = false) :
    u.amendAgent (tableReq tag .agent 1 a fs) = (u, imageOf true (agentImage a (u.agent a))) := by
  unfold State.amendAgent
  rw [keyIn_byte (Nat.zero_le _) ha (by decide)]
  dsimp only
  rw [hs, show (tableReq tag .agent 1 a fs).fields = fs from rfl, hc]
  unfold State.answerAgent
  rw [hs]
  rfl

theorem amendAgent_underWay (ha : a ≤ 7) (hs : (u.agent a).suspect = false)
    (hc : foldFields State.agentField (u.agent a).cfg fs = some c)
    (hr : State.releaseUnderWay (u.agent a).state = true) :
    u.amendAgent (tableReq tag .agent 1 a fs) = (u, refusedWith .wrongState) := by
  unfold State.amendAgent
  rw [keyIn_byte (Nat.zero_le _) ha (by decide)]
  dsimp only
  rw [hs, show (tableReq tag .agent 1 a fs).fields = fs from rfl, hc, hr]
  rfl

/-- The refusal that a request's top zone meets, where it carries one. -/
def carriedRefusal (u : State) (a : Nat) (c : AgentCfg) (fs : List Field) : Option Status :=
  if (ids fs).contains 2 then u.topRefusal a c else none

theorem amendAgent_refused {e : Status} (ha : a ≤ 7) (hs : (u.agent a).suspect = false)
    (hc : foldFields State.agentField (u.agent a).cfg fs = some c)
    (hr : State.releaseUnderWay (u.agent a).state = false) (he : carriedRefusal u a c fs = some e) :
    u.amendAgent (tableReq tag .agent 1 a fs) = (u, refusedWith e) := by
  unfold carriedRefusal at he
  unfold State.amendAgent
  rw [keyIn_byte (Nat.zero_le _) ha (by decide)]
  dsimp only
  rw [hs, show (tableReq tag .agent 1 a fs).fields = fs from rfl, hc, hr]
  dsimp only
  rw [he]
  rfl

theorem amendAgent_taken (ha : a ≤ 7) (hs : (u.agent a).suspect = false)
    (hc : foldFields State.agentField (u.agent a).cfg fs = some c)
    (hr : State.releaseUnderWay (u.agent a).state = false) (he : carriedRefusal u a c fs = none) :
    u.amendAgent (tableReq tag .agent 1 a fs) = (u.storeAgent a c, okKey 1 a) := by
  unfold carriedRefusal at he
  unfold State.amendAgent
  rw [keyIn_byte (Nat.zero_le _) ha (by decide)]
  dsimp only
  rw [hs, show (tableReq tag .agent 1 a fs).fields = fs from rfl, hc, hr]
  dsimp only
  rw [he]
  rfl

theorem overlaps_iff (u : State) (a t : Nat) : u.overlaps a t = true ↔
    ∃ b ∈ State.eight, b ≠ a ∧ ∃ y ∈ (u.agent b).cfg.top, u.isUnder t y = true ∨ u.isUnder y t = true := by
  unfold State.overlaps
  rw [List.any_eq_true]
  refine exists_congr fun b => and_congr_right fun _ => ?_
  rw [Bool.and_eq_true, bne_iff_ne]
  refine and_congr_right fun _ => ?_
  cases (u.agent b).cfg.top <;> simp

/-- A top zone that the request gives with a station (R108 tests 4 and 5). -/
theorem topRefusal_absent {t : Nat} (ht : c.top = some t) (hst : c.station.isSome = true) (hz : u.zone? t = none) :
    u.topRefusal a c = some .notFound := by
  unfold State.topRefusal
  rw [ht]
  dsimp only
  rw [if_neg (by simp [Option.isSome_iff_ne_none.1 hst]), hz]

theorem topRefusal_found {t : Nat} {z : ZoneRec} (ht : c.top = some t) (hst : c.station.isSome = true)
    (hz : u.zone? t = some z) :
    u.topRefusal a c = if z.suspect then some .suspect else if u.overlaps a t then some .badValue else none := by
  unfold State.topRefusal
  rw [ht]
  dsimp only
  rw [if_neg (by simp [Option.isSome_iff_ne_none.1 hst]), hz]

/-! ### What is stored -/

theorem topChanged_kept (h : (u.agent a).cfg.top.isNone = decide ((u.agent a).state = .unconfigured)) :
    u.topChanged a = u := by
  unfold State.topChanged
  dsimp only
  rw [h]
  by_cases hs : (u.agent a).state = .unconfigured <;> simp [hs]

theorem soundRecord_eq {r : AgentRec} (hs : r.suspect = false) (c : AgentCfg) :
    ({ r with cfg := c, suspect := false, checkOk := true, halted := r.halted || r.suspect } : AgentRec) =
      { r with cfg := c, checkOk := true } := by
  obtain ⟨⟩ := r
  cases hs
  simp

/-- A sound agent is stored with its live fields. -/
theorem storeAgent_sound (hs : (u.agent a).suspect = false) (c : AgentCfg) :
    u.storeAgent a c = ((u.putAgent a { u.agent a with cfg := c, checkOk := true }).topChanged a).syncServing := by
  unfold State.storeAgent
  dsimp only
  rw [soundRecord_eq hs, if_neg (Bool.eq_false_iff.1 hs)]

/-- An agent with these fields that has just entered NORMAL. -/
def enteredRec (c : AgentCfg) : AgentRec := { cfg := c, state := .normal }

/-- The same with its derived inputs read from the records. -/
def enteredRead (v : State) (a : Nat) (c : AgentCfg) : AgentRec :=
  { cfg := c, state := .normal, cw := (0x00020000#32 &&& ~~~derivedMask) ||| (v.derivedWord a &&& derivedMask) }

theorem readInputs_entered {v : State} (hv : v.agent a = enteredRec c) :
    v.readInputs a = v.putAgent a (enteredRead v a c) := by
  unfold State.readInputs
  rw [if_neg (by rw [hv]; nofun)]
  unfold State.changeAgent
  rw [hv]
  rfl

/-- An agent that is given its top zone enters NORMAL (R108). -/
theorem topChanged_configures {r : AgentRec} (ha : a < 8) (hs : r.suspect = false) (hk : r.checkOk = true)
    (ht : r.cfg.top.isSome = true) (hu : r.state = .unconfigured) :
    (u.putAgent a r).topChanged a =
      ((((u.putAgent a (enteredRec r.cfg)).putAgent a
        (enteredRead (u.putAgent a (enteredRec r.cfg)) a r.cfg)).evaluate a).actOutputs a false false).reevaluate a := by
  have hrec : ({ State.unconfiguredRec r with state := .normal, halted := false } : AgentRec) = enteredRec r.cfg := by
    unfold State.unconfiguredRec enteredRec
    rw [hs, hk]
  have htop : ¬ r.cfg.top.isNone = true := by simpa using Option.isSome_iff_ne_none.1 ht
  unfold State.topChanged
  dsimp only
  rw [State.agent_putAgent_self ha, if_neg htop, if_pos hu]
  unfold State.configure
  dsimp only
  rw [changeAgent_putAgent ha, hrec, readInputs_entered (State.agent_putAgent_self ha _)]

/-- A present optional number of one byte reads back. -/
theorem optIn_byte {lo hi k : Nat} (hl : lo ≤ k) (hh : k ≤ hi) (h : hi < 256) :
    optIn 1 lo hi (toBE 1 k) = some (some k) := by
  unfold optIn
  rw [if_neg (by simp [toBE]), numIn_byte hl hh h]

end

open State in
/-- Settles O23: the AMEND of the base delay and that of top zone and station, by the tests of R108. -/
theorem agentRecords : Obligations.AgentRecords := by
  intro s tag a hs ha u r
  have ha8 : a < 8 := by omega
  refine ⟨fun n hn10 hn => ?delay, fun t st hsus hun ht1 ht hst1 hst => ?top⟩
  case delay =>
    intro stored
    have hfold : foldFields agentField r.cfg [fldN 4 1 n] = some { r.cfg with db := n } := by
      unfold fldN
      rw [foldFields_one _ _ _ _ (by decide)]
      simp only [agentField, numIn_byte hn10 hn (by decide), Option.map_some]
    have hnotop : carriedRefusal u a { r.cfg with db := n } [fldN 4 1 n] = none := by
      unfold carriedRefusal fldN
      rw [ids_fld _ _ (by decide)]
      rfl
    have htake : r.suspect = false → releaseUnderWay r.state = false →
        r.cfg.top.isNone = decide (r.state = .unconfigured) →
        exec (.amend (tableReq tag .agent 1 a [fldN 4 1 n])) s = .next (stored.syncServing.answeredOk tag [fldN 0 1 a]) := by
      intro hsus hunder htop
      have hkept : stored.topChanged a = stored := by
        refine topChanged_kept ?_
        rw [agent_putAgent_self ha8]
        exact htop
      rw [amend_table hs (ids_one _)]
      show Host.Outcome.next (answered tag (u.amendAgent _)) = _
      rw [amendAgent_taken ha hsus hfold hunder hnotop, storeAgent_sound hsus, answered_okKey]
      exact congrArg (fun x : State => Host.Outcome.next (x.syncServing.answeredOk tag [fldN 0 1 a])) hkept
    refine ⟨fun hsus => ?_, fun hsus hstate => ?_, fun hsus hstate htop => ?_, fun hsus hstate htop => ?_⟩
    · have hc : carries [fldN 4 1 n] agentIds = false := by
        rw [fldN, carries_one _ _ (by decide)]
        decide
      rw [amend_table hs (ids_one _)]
      show Host.Outcome.next (answered tag (u.amendAgent _)) = _
      rw [amendAgent_suspect ha hsus hc, answered_suspect]
    · have hunder : releaseUnderWay r.state = true := by
        rcases hstate with h | h | h | h | h <;> rw [h] <;> rfl
      rw [amend_table hs (ids_one _)]
      show Host.Outcome.next (answered tag (u.amendAgent _)) = _
      rw [amendAgent_underWay ha hsus hfold hunder]
      exact congrArg Host.Outcome.next (answered_no _ _ nofun)
    · have hsome : r.cfg.top.isNone = false := by rw [← Option.not_isSome, htop]; rfl
      refine htake hsus ?_ (hsome.trans ?_) <;> rcases hstate with h | h | h | h <;> rw [h] <;> rfl
    · exact htake hsus (by rw [hstate]; rfl) (by rw [htop, hstate]; rfl)
  case top =>
    intro cfg v w
    have hfold : foldFields agentField r.cfg [fldN 2 1 t, fldN 3 1 st] = some cfg := by
      have htop : agentField r.cfg 2 (toBE 1 t) = some { r.cfg with top := some t } := by
        simp only [agentField, optIn_byte ht1 ht (by decide), Option.map_some]
      unfold fldN
      rw [foldFields_two _ _ (by decide) (by decide) htop]
      simp only [agentField, optIn_byte hst1 hst (by decide), Option.map_some]
      rfl
    have hcarried : carriedRefusal u a cfg [fldN 2 1 t, fldN 3 1 st] = u.topRefusal a cfg := by
      unfold carriedRefusal fldN
      rw [ids_fld _ _ (by decide)]
      rfl
    have hunder : releaseUnderWay r.state = false := by rw [hun]; rfl
    have hids : (ids [fldN 2 1 t, fldN 3 1 st]).Nodup := ids_two _ _ (by decide) (by decide) (by decide)
    rw [amend_table hs hids]
    show Host.Outcome.next (answered tag (u.amendAgent _)) = _
    have hrefused : ∀ e, e ≠ .ok → u.topRefusal a cfg = some e →
        answered tag (u.amendAgent (tableReq tag .agent 1 a [fldN 2 1 t, fldN 3 1 st])) = u.answeredNo tag e := by
      intro e hne he
      rw [amendAgent_refused ha hsus hfold hunder (hcarried.trans he), answered_no _ _ hne]
    congr 1
    cases hz : u.zone? t with
    | none => exact hrefused _ nofun (topRefusal_absent rfl rfl hz)
    | some z =>
      have htests := topRefusal_found (a := a) (c := cfg) rfl rfl hz
      dsimp only
      split
      next hzs => exact hrefused _ nofun (htests.trans (if_pos hzs))
      next hzs =>
        rw [if_neg hzs] at htests
        split
        next hover => exact hrefused _ nofun (htests.trans (if_pos ((overlaps_iff u a t).2 hover)))
        next hover =>
          rw [if_neg (mt (overlaps_iff u a t).1 hover)] at htests
          have hentered : (u.putAgent a { r with cfg := cfg, checkOk := true }).topChanged a =
              ((w.evaluate a).actOutputs a false false).reevaluate a := topChanged_configures ha8 hsus rfl rfl hun
          rw [amendAgent_taken ha hsus hfold hunder (hcarried.trans htests), storeAgent_sound hsus, answered_okKey]
          exact congrArg (fun x : State => x.syncServing.answeredOk tag [fldN 0 1 a]) hentered

end Sys2Proof.Machine
